-- ==== Sys2Proof/Word.lean ====
section
/-! DEFINITION. The word types of the model and the type of a sparse table. -/

namespace Sys2Proof

/-- One byte of a packet, an ordered set, a flit, a message or a memory. -/
abbrev Byte := BitVec 8

/-- A 32-bit dictionary value or packet word (18 R530). -/
abbrev Word := BitVec 32

/-- A 64-bit dictionary value or the 64-bit extended fabric time (16 R473). -/
abbrev Word64 := BitVec 64

/-- A port number, which is also the number of its first lane (13 R397). -/
abbrev Port := BitVec 10

/-- A port die PD0-PD15 (01 R15). -/
abbrev Die := BitVec 4

/-- A core die CD0-CD3 (01 R15). -/
abbrev Core := BitVec 2

/-- A sparse table: (key, value) pairs with strictly rising keys. What an absent key holds is
said by the operation that reads the table. -/
abbrev Sparse (α : Type) := List (Nat × α)

end Sys2Proof
end

