-- ==== Sys2Proof/Syntax.lean ====
section
/-! DEFINITION. The commands of the block: one constructor of `Instr` per row of opcode_table.json, and the types of their operands. -/

namespace Sys2Proof

/-- The four access paths of Table 18-4. -/
inductive Path where
  | pcie
  | eth
  | inband
  | facility
  deriving DecidableEq, Repr

/-- What a DMA from host memory returns (18 R547): the bytes, or a completer abort, a poisoned
completion or a completion timeout. -/
inductive Dma where
  | data (bytes : List Byte)
  | failed
  deriving DecidableEq, Repr

/-- What the outside world answers to a command that a dictionary write starts: a DMA from or to host memory, and the
CMIS page of a cage unit. -/
structure World where
  dma : Dma
  cmis : Option (List Byte)
  /-- Bytes that the control host has written into the BAR2 window before (18 R536). -/
  bar2 : List (Nat × Byte) := []
  /-- What it has written into the MSI-X table, by vector: address, data, mask; and MSI-X Enable (18 R535, R627). -/
  msix : List (Nat × Word64 × Word × Bool) := []
  msixOn : Option Bool := none
  deriving DecidableEq, Repr

/-- Where a dictionary message of a message path comes from (18 R537): a UDP datagram, a frame of
the facility segment, or the first packet waiting for service 0x00. -/
inductive MsgIn where
  | eth (bytes : List Byte)
  | facility (bytes : List Byte)
  | inband
  deriving DecidableEq, Repr

/-- Outcome of the residue or duplicate-lane checks of an addition and of an epilogue
(06 R213, R214): what the checker sees is an event of the hardware. -/
inductive VatCheck where
  | passed
  | residueFailed
  | duplicateFailed
  deriving DecidableEq, Repr

/-- An event of 20 Table 20-4 that dies count in clocks, slots and codewords, finer than any command of the table: a pipeline slot
used (0x06), a clock in which an egress head waited for credits (0x07), a codeword corrected (0x0B), a Vat clock with work
(0x23); and corrections of memory words. -/
inductive FineEvent where
  | slot (port : BitVec 10)
  | creditClock (port : BitVec 10)
  | corrected (port : BitVec 10)
  | vatClock (core : BitVec 2)
  /-- A correction in the SRAM of a unit, and one by a service read of an HBM address (20 Table 20-8, 14 R440). -/
  | sramCorrected (unit : BitVec 5)
  | hbmCorrected (address : BitVec 48)
  deriving DecidableEq, Repr

/-- What the Collier measures in one control cycle (17 R500, R504; 18 R527; 13 R415). -/
structure CycleInput where
  /-- Junction temperature of PD0-PD15 and CD0-CD3 in 1/256 °C. -/
  tj : List Int
  /-- Hottest core-die temperature of HS0-HS19 in 1/256 °C. -/
  thbm : List Int
  /-- Input power in W, voltage in mV, current in mA. -/
  pin : Nat
  vin : Nat
  iin : Nat
  /-- Measured rail power of port dies, Felt and management in W. -/
  fwd : Nat
  /-- Rail power in W and logic rail in mV of each of the 20 dies. -/
  rails : List (Nat × Nat)
  /-- Vat demand of CD0-CD3 as a level, 0-256, beyond the backlog that the state holds. -/
  vatDemand : List Nat
  /-- HBM token demand: spill read-back, escape above the floor, flow contexts, spill write, broadcast, and parity and
  rebuild, each beyond the backlog that the state holds. -/
  hbmDemand : List Nat
  /-- Uncorrectable codewords of the cycle: lane and number (13 R413, R415, R428). -/
  codewords : List (BitVec 10 × Nat)
  /-- Events of the cycle that only the dies see, each with its number (20 R586). -/
  fine : List (FineEvent × Nat)
  deriving DecidableEq, Repr

/-- A cable end or optical module as its CMIS pages describe it (13 R406). -/
structure CageUnit where
  /-- The unit's identifier and pages could be read. -/
  readable : Bool
  /-- Advertised maximum power in W. -/
  maxPower : Nat
  /-- Link class of Table 13-3. -/
  linkClass : BitVec 4
  /-- Port widths for which the unit advertises an application. -/
  widths : List Nat
  /-- An optic maps each host lane to its own media lane (13 Table 13-3). -/
  mapsLanes : Bool
  deriving DecidableEq, Repr

/-- What a CMIS unit measures: temperature, supply voltage, and for each lane receive power, transmit bias and transmit power,
each as its 16-bit monitor (13 R407). -/
structure CmisMonitors where
  temp : BitVec 16 := 0
  vcc : BitVec 16 := 0
  rxPower : List (BitVec 16) := []
  txBias : List (BitVec 16) := []
  txPower : List (BitVec 16) := []
  deriving DecidableEq, Repr

/-- How one training attempt ended at the physical layer (13 R404, R411; 16 R480). -/
structure Training where
  /-- The 802.3dj training of the class succeeded (and, for class C, a PMD matched). -/
  ok : Bool
  /-- Lanes usable at this end and at the peer. -/
  usable : BitVec 8
  peerMask : BitVec 8
  /-- The 16 delay probes: round trip and peer turnaround in ns. -/
  probes : List (Nat × Nat)
  deriving DecidableEq, Repr

/-- What a patrol read finds (14 R437, R439). -/
inductive ScrubResult where
  | clean
  | corrected
  | uncorrectable
  deriving DecidableEq, Repr

/-- What an HBM unit holds (14 R433). The spec gives regions, not addresses of items, so the
event names the item. -/
inductive HbmItem where
  | flow (index : Nat)
  | graphState (gid : Nat)
  | header (ctx slot : Nat)
  | staging (core : Nat) (sgei cookie : Word)
  | escape (ctx tile : Nat)
  | spill (packets : List Nat)
  | object (jtag : BitVec 16) (obj : Word)
  | stripe (qslot stripe : Nat) (shadow : Bool)
  | wheel (core : Nat)
  | free
  deriving DecidableEq, Repr

/-- An item of the forwarding tables by version and place: an exact-match or LPM entry by position, a spray set, a group
(04 R111). -/
inductive TableItem where
  | em (ver : Bool) (pos : Nat)
  | lpm (ver : Bool) (pos : Nat)
  | spray (ver : Bool) (set : Nat)
  | group (ver : Bool) (index : Nat)
  deriving DecidableEq, Repr

/-- What an on-package SRAM word holds (14 R443). -/
inductive SramItem where
  | packet (id : Nat)
  | tile (ctx tile : Nat)
  | tableItem (die : Die) (item : TableItem)
  | flow (index : Nat)
  deriving DecidableEq, Repr

/-- A pool of SRAM banks with one spare (14 R444). -/
inductive SramPool where
  | buffer (die : Die)
  | vat (core : Core) (vat : BitVec 3)
  deriving DecidableEq, Repr

/-- A sensor of Table 17-6. -/
inductive Sensor where
  | die (unit : Nat)
  | stack (stack : Nat)
  | inlet
  | flow
  deriving DecidableEq, Repr

/-- What an Announce message says of its sender's clock, in the order in which the best master clock algorithm compares it
(16 R477; IEEE 1588). -/
structure PtpAnnounce where
  priority1 : Nat
  clockClass : Nat
  accuracy : Nat
  variance : Nat
  priority2 : Nat
  /-- Identity of the grandmaster, steps removed, and the port identity of the sender. -/
  grandmaster : Nat
  steps : Nat
  sender : Nat
  deriving DecidableEq, Repr

/-- The content of a PTP message to a slave-only clock (16 R481); times in ns, with the correction field of the message in ns. -/
inductive PtpBody where
  | announce (a : PtpAnnounce)
  | sync (seq : BitVec 16) (twoStep : Bool) (origin : Word64) (correction : Int) (logInterval : Int)
  | followUp (seq : BitVec 16) (origin : Word64) (correction : Int)
  /-- `mine`: the answer names the module's port as the one that asked. -/
  | delayResp (seq : BitVec 16) (received : Word64) (correction : Int) (mine : Bool)
  deriving DecidableEq, Repr

/-- A PTP message received on a management port (16 R477, R481). -/
structure PtpMsg where
  /-- It came over IEEE 802.3, not UDP over IPv4. -/
  ieee8023 : Bool
  domain : BitVec 8
  /-- Port identity of the sender. -/
  sender : Nat
  body : PtpBody
  deriving DecidableEq, Repr

/-- What a Kindling phase finds (21 R606). -/
structure KindlingResult where
  /-- The levels at PROF_SEL[1:0], sampled in the ROM phase (17 R515). -/
  pins : BitVec 2 := 0
  /-- CRC-32C of the two copies of the PUF helper data of CD0 and CD2 (19 R566). -/
  helper0 : Bool × Bool := (true, true)
  helper2 : Bool × Bool := (true, true)
  /-- The seeds that CD0 and CD2 reconstruct match their endorsements (19 R568), and each unwraps its floor key (R563). -/
  identity0 : Bool
  identity2 : Bool
  floor0 : Bool
  floor2 : Bool
  /-- Units 0-19 that fail their firmware load or are isolated in the FELT phase. -/
  failedDies : List Nat
  /-- Felt: usable modules and their failed lanes found at the two ends of each link. -/
  felt : List (Nat × List (Nat × List Nat) × List (Nat × List Nat))
  /-- Highest rate at which each stack can train, in 0.1 Gb/s; 0 = none. -/
  rates : List Nat
  /-- Stacks that fail the full test (14 R446). -/
  testFailed : List Nat
  deriving DecidableEq, Repr

/-- A run of sub-indices (18 R535). -/
structure SubRun where
  sub : BitVec 8
  count : BitVec 8
  deriving DecidableEq, Repr

/-- The commands: one constructor per row of spec/opcode_table.json, in the table's order. -/
inductive Instr where
  /-- PACKET_RECEIVE (R62). -/
  | packetReceive (port : Port) (bytes : List Byte)
  /-- PACKET_COMMIT (R356). -/
  | packetCommit (port : Port)
  /-- PACKET_TRANSMIT_DONE (R150). -/
  | packetTransmitDone (port : Port)
  /-- SPILL_READBACK (R170). -/
  | spillReadback (port : Port) (tc : BitVec 3) (turned : Bool)
  /-- RING_ENTRY (R174). -/
  | ringEntry (die : Die) (up : Bool) (memory : Bool)
  /-- REPLICATION_RESUME (R299). -/
  | replicationResume (die : Die)
  /-- CREDIT_OS_RECEIVE (R66). -/
  | creditOsReceive (port : Port) (bytes : List Byte)
  /-- CREDIT_OS_SEND (R65). -/
  | creditOsSend (port : Port)
  /-- TIME_OS_RECEIVE (R477). -/
  | timeOsReceive (port : Port) (bytes : List Byte)
  /-- TIME_OS_SEND (R67). -/
  | timeOsSend (port : Port)
  /-- LINK_ID_RECEIVE (R68). -/
  | linkIdReceive (port : Port) (bytes : List Byte)
  /-- LINK_ID_SEND (R65). -/
  | linkIdSend (port : Port)
  /-- ORDERED_SET_LOSS (R69). -/
  | orderedSetLoss (port : Port)
  /-- SHAPER_REFILL (R361). -/
  | shaperRefill
  /-- NOTICE_CACHE_EXPIRE (R108). -/
  | noticeCacheExpire (die : Die)
  /-- CONTROL_CYCLE (R504). -/
  | controlCycle (m : CycleInput)
  /-- GRANT_TIMEOUT (R30). -/
  | grantTimeout (unit : Nat)
  /-- WARMUP_END (R507). -/
  | warmupEnd
  /-- VERSION_STATE_WRITE (R80). -/
  | versionStateWrite (path : Path) (ver : Bool) (value : Word)
  /-- VERSION_RETIRE_EXPIRE (R80). -/
  | versionRetireExpire (ver : Bool)
  /-- DRAIN_BOUND_WRITE (R81). -/
  | drainBoundWrite (path : Path) (value : Word)
  /-- SOURCE_EPOCH_WRITE (R84). -/
  | sourceEpochWrite (path : Path) (value : Word)
  /-- HASH_SEED_WRITE (R112). -/
  | hashSeedWrite (path : Path) (ver : Bool) (value : Word)
  /-- FORWARDING_RECORD_WRITE (R87). -/
  | forwardingRecordWrite (path : Path) (port : Port) (value : Word)
  /-- FENCE_LIST_WRITE (R102). -/
  | fenceListWrite (path : Path) (index : BitVec 13) (gei : Word)
  /-- EM_INSERT (R117). -/
  | emInsert (path : Path) (ver : Bool) (key result flags : Word)
  /-- EM_DELETE (R118). -/
  | emDelete (path : Path) (ver : Bool) (key : Word)
  /-- EM_SEARCH (R137). -/
  | emSearch (path : Path) (ver : Bool) (key : Word)
  /-- EM_NEXT (R138). -/
  | emNext (path : Path) (ver : Bool) (cursor : Word)
  /-- LPM_INSERT (R122). -/
  | lpmInsert (path : Path) (ver : Bool) (pfx result flags : Word)
  /-- LPM_DELETE (R122). -/
  | lpmDelete (path : Path) (ver : Bool) (pfx len : Word)
  /-- LPM_SEARCH (R137). -/
  | lpmSearch (path : Path) (ver : Bool) (longest : Bool) (gei len : Word)
  /-- LPM_NEXT (R138). -/
  | lpmNext (path : Path) (ver : Bool) (cursor : Word)
  /-- GROUP_WRITE (R123). -/
  | groupWrite (path : Path) (ver : Bool) (index : BitVec 16) (valid : Word) (bitmap : List Word)
  /-- GROUP_READ (R133). -/
  | groupRead (path : Path) (ver : Bool) (index : BitVec 16)
  /-- SPRAY_WRITE (R86). -/
  | sprayWrite (path : Path) (ver : Bool) (index : BitVec 16) (slots : List Word)
  /-- SPRAY_READ (R133). -/
  | sprayRead (path : Path) (ver : Bool) (index : BitVec 16)
  /-- FLUSH_BY_PORT (R140). -/
  | flushByPort (path : Path) (ver : Bool) (port : BitVec 16) (scope : BitVec 4)
  /-- VERSION_CLEAR (R143). -/
  | versionClear (path : Path) (ver : Bool)
  /-- VERSION_COPY (R144). -/
  | versionCopy (path : Path) (target : Bool)
  /-- BULK_LOAD (R146). -/
  | bulkLoad (path : Path) (ver : Bool) (handle count : Word) (host : Dma)
  /-- FILTER_READ (R133). -/
  | filterRead (path : Path) (ver : Bool) (index : BitVec 16)
  /-- TABLE_SEQUENCER_STEP (R128). -/
  | tableSequencerStep (steps : Nat)
  /-- TABLE_WRITE_COMPLETE (R125). -/
  | tableWriteComplete
  /-- CREDIT_GRANT_RECEIVE (R158). -/
  | creditGrantReceive (core : Core)
  /-- GRANT_REFRESH_TIMER (R160). -/
  | grantRefreshTimer (flow : Nat)
  /-- TIMER_WHEEL_SLOT (R183). -/
  | timerWheelSlot (core : Core)
  /-- FLOW_CONTEXT_FREE (R179). -/
  | flowContextFree (flow : Nat)
  /-- CONTEXT_FETCH_COMPLETE (R182). -/
  | contextFetchComplete (core : Core)
  /-- CTX_OPEN (R644). -/
  | ctxOpen (path : Path) (desc : List Word) (handle : Word) (host : Dma)
  /-- CTX_CLOSE (R230). -/
  | ctxClose (path : Path) (ctx : Word)
  /-- CTX_ABORT (R253). -/
  | ctxAbort (path : Path) (ctx : Word)
  /-- JOB_ACTIVATE (R257). -/
  | jobActivate (path : Path) (jtag : BitVec 16) (gen : BitVec 8)
  /-- JOB_FLUSH (R258). -/
  | jobFlush (path : Path) (jtag : BitVec 16) (gen : BitVec 8)
  /-- JOB_DEACTIVATE (R259). -/
  | jobDeactivate (path : Path) (jtag : BitVec 16)
  /-- JOB_READ (R262). -/
  | jobRead (path : Path) (jtag : BitVec 16)
  /-- JOB_FLUSH_RECLAIM_DONE (R258). -/
  | jobFlushReclaimDone (jtag : BitVec 16)
  /-- CONTRIBUTION_RECEIVE (R234). -/
  | contributionReceive (core : Core) (vat : VatCheck)
  /-- ABORT_NOTICE_SEND (R253). -/
  | abortNoticeSend (core : Core)
  /-- VAT_INPUT_RESUME (R202). -/
  | vatInputResume (core : Core) (vat : VatCheck)
  /-- REDUCE_RESULT_RECEIVE (R242). -/
  | reduceResultReceive (core : Core)
  /-- RESEND_REQUEST_RECEIVE (R237). -/
  | resendRequestReceive (core : Core)
  /-- TILE_TIMEOUT (R236). -/
  | tileTimeout (ctx : BitVec 14) (tile : Word)
  /-- CONTEXT_STALL (R238). -/
  | contextStall (ctx : BitVec 14)
  /-- CTX_CLOSE_EXPIRE (R230). -/
  | ctxCloseExpire (ctx : BitVec 14)
  /-- ERROR_NOTICE_RECEIVE (R255). -/
  | errorNoticeReceive
  /-- FAULT_NOTICE_RECEIVE (R419). -/
  | faultNoticeReceive
  /-- GRAPH_SUBMIT (R274). -/
  | graphSubmit (path : Path) (handle length : Word)
  /-- GRAPH_LOAD_COMPLETE (R273). -/
  | graphLoadComplete (host : Dma)
  /-- GRAPH_CANCEL (R290). -/
  | graphCancel (path : Path) (gid cookie : Word)
  /-- GRAPH_RELEASE (R291). -/
  | graphRelease (path : Path) (gid cookie : Word)
  /-- GRAPH_ARRIVE (R283). -/
  | graphArrive (path : Path) (gid cookie nodePart : Word)
  /-- SUBMIT_DATA (R272). -/
  | submitData (core : Core)
  /-- SUBMIT_COMMIT (R272). -/
  | submitCommit (core : Core)
  /-- ARRIVE (R283). -/
  | arrive (core : Core)
  /-- CANCEL (R290). -/
  | cancel (core : Core)
  /-- STAGING_TIMEOUT (R272). -/
  | stagingTimeout (core : Core) (sgei cookie : Word)
  /-- ADMISSION_PASS (R278). -/
  | admissionPass (core : Core)
  /-- WAIT_TIME_DUE (R282). -/
  | waitTimeDue (gid : BitVec 10) (node : BitVec 16)
  /-- NODE_STARVED (R289). -/
  | nodeStarved (gid : BitVec 10) (node : BitVec 16)
  /-- GRAPH_AUTORELEASE (R291). -/
  | graphAutorelease (gid : BitVec 10)
  /-- BC_OPEN (R305). -/
  | bcOpen (path : Path) (desc : List Word) (handle : Word) (host : Dma)
  /-- BC_LOAD (R307). -/
  | bcLoad (path : Path) (jtag : BitVec 16) (obj handle first count : Word) (host : Dma)
  /-- BC_SEND (R310). -/
  | bcSend (path : Path) (jtag : BitVec 16) (obj first count : Word)
  /-- BC_CLOSE (R326). -/
  | bcClose (path : Path) (jtag : BitVec 16) (obj : Word)
  /-- BROADCAST_SEGMENT_RECEIVE (R308). -/
  | broadcastSegmentReceive (core : Core)
  /-- SEGMENT_SEND (R310). -/
  | segmentSend (core : Core)
  /-- RECEIVER_UNREACHABLE (R316). -/
  | receiverUnreachable (jtag : BitVec 16) (obj : Word) (ridx : Nat)
  /-- UPSTREAM_STALL (R319). -/
  | upstreamStall (jtag : BitVec 16) (obj : Word)
  /-- PULL_ACK_TIMEOUT (R319). -/
  | pullAckTimeout (jtag : BitVec 16) (obj : Word)
  /-- BC_PULL (R321). -/
  | bcPull (core : Core)
  /-- BC_PULL_ACK (R319). -/
  | bcPullAck (core : Core)
  /-- BC_CLOSE_EXPIRE (R326). -/
  | bcCloseExpire (jtag : BitVec 16) (obj : Word)
  /-- PARITY_RECEIVE (R334). -/
  | parityReceive (core : Core) (vat : VatCheck)
  /-- REBUILD_SHARD_SEND (R345). -/
  | rebuildShardSend (qslot : BitVec 12) (second : Bool)
  /-- QUIRE_ALLOC (R350). -/
  | quireAlloc (path : Path) (slot jobK nstripe handle : Word) (host : Dma)
  /-- QUIRE_FREE (R350). -/
  | quireFree (path : Path) (slot : Word)
  /-- GATE_COMMIT (R370). -/
  | gateCommit (path : Path) (value : Word)
  /-- GATE_LIST_START (R370). -/
  | gateListStart (port : Port)
  /-- GATE_ENTRY_CHANGE (R369). -/
  | gateEntryChange (port : Port)
  /-- DEMAND_CLOSE (R379). -/
  | demandClose
  /-- DEMAND_REQ (R382). -/
  | demandReq
  /-- PLAN_SUBMIT (R385). -/
  | planSubmit (path : Path) (handle length : Word) (host : Dma)
  /-- PLAN_CANCEL (R393). -/
  | planCancel (path : Path) (planId : Word)
  /-- DEMAND_READ (R394). -/
  | demandRead (path : Path) (handle : Word) (hostOk : Bool)
  /-- PLAN_DRAIN (R387). -/
  | planDrain (planId : Word)
  /-- PLAN_MOVE (R387). -/
  | planMove (planId : Word)
  /-- PLAN_REJOIN (R387). -/
  | planRejoin (planId : Word)
  /-- PLAN_REFLIP (R387). -/
  | planReflip (planId : Word)
  /-- PLAN_LIMIT (R387). -/
  | planLimit (planId : Word)
  /-- PORT_CONFIG_WRITE (R400). -/
  | portConfigWrite (path : Path) (sub : BitVec 8) (value : Word)
  /-- PORT_DRAIN (R423). -/
  | portDrain (path : Path) (port : Word)
  /-- PORT_RESUME (R427). -/
  | portResume (path : Path) (port : Word)
  /-- PORT_FORGET (R414). -/
  | portForget (path : Path) (port : Word)
  /-- LANE_TEST (R425). -/
  | laneTest (path : Path) (port pattern duration : Word)
  /-- LANE_TEST_END (R425). -/
  | laneTestEnd (port : Port) (errors : List Word)
  /-- DIE_BIST (R426). -/
  | dieBist (path : Path) (die : Word)
  /-- DIE_BIST_COMPLETE (R426). -/
  | dieBistComplete (die : Die) (failed : Word)
  /-- CMIS_READ (R427). -/
  | cmisRead (path : Path) (cage address length : Word) (answer : Option (List Byte))
  /-- CMIS_WRITE (R427). -/
  | cmisWrite (path : Path) (cage address length : Word) (data : List Word) (accepted : Bool)
  /-- CAGE_INSERT (R406). -/
  | cageInsert (cage : BitVec 7) (unit : CageUnit)
  /-- CAGE_REMOVE (R628). -/
  | cageRemove (cage : BitVec 7)
  /-- CAGE_OVERCURRENT (R631). -/
  | cageOvercurrent (cage : BitVec 7)
  /-- CMIS_INTERRUPT (R407). -/
  | cmisInterrupt (cage : BitVec 7) (alarms : Word)
  /-- CMIS_POLL (R407). -/
  | cmisPoll (cage : BitVec 7) (monitors : CmisMonitors)
  /-- TRAINING_COMPLETE (R411). -/
  | trainingComplete (port : Port) (outcome : Training)
  /-- TRAINING_RETRY (R411). -/
  | trainingRetry (port : Port)
  /-- SEASONING_COMPLETE (R413). -/
  | seasoningComplete (port : Port)
  /-- SEASONING_OVERDUE (R413). -/
  | seasoningOverdue (port : Port)
  /-- CLEAN_TIME_60S (R414). -/
  | cleanTime60s (port : Port)
  /-- LINK_FAULT (R418). -/
  | linkFault (port : Port) (cause : BitVec 4)
  /-- LANE_DEGRADE (R421). -/
  | laneDegrade (port : Port) (cause : BitVec 4) (lost : BitVec 8)
  /-- LANE_BER_WINDOW (R415). -/
  | laneBerWindow (port : Port) (lane : BitVec 3) (corrected : Word)
  /-- WARM_RETRAIN_COMPLETE (R421). -/
  | warmRetrainComplete (port : Port) (usable peerMask : BitVec 8)
  /-- WARM_RETRAIN_TIMEOUT (R421). -/
  | warmRetrainTimeout (port : Port)
  /-- DRAIN_COMPLETE (R423). -/
  | drainComplete (port : Port)
  /-- EYE_MARGIN_MEASURE (R424). -/
  | eyeMarginMeasure (lane : BitVec 10) (margin : Word)
  /-- PATROL_SCRUB_READ (R439). -/
  | patrolScrubRead (address : BitVec 48) (result : ScrubResult) (item : HbmItem)
  /-- HBM_UNCORRECTABLE (R438). -/
  | hbmUncorrectable (address : BitVec 48) (item : HbmItem)
  /-- SRAM_UNCORRECTABLE (R443). -/
  | sramUncorrectable (item : SramItem)
  /-- SRAM_BANK_ROTATE (R444). -/
  | sramBankRotate (pool : SramPool) (passed : Bool)
  /-- STACK_LOSS (R448). -/
  | stackLoss (stack : Nat) (cause : BitVec 8)
  /-- STACK_REMAP_COMPLETE (R448). -/
  | stackRemapComplete
  /-- DIE_LOSS (R34). -/
  | dieLoss (unit : Nat)
  /-- FELT_FLIT_RECEIVE (R457). -/
  | feltFlitReceive (link : Nat) (far : Bool) (lmod : Nat) (flit : List Byte)
  /-- FELT_NAK_RECEIVE (R457). -/
  | feltNakReceive (link : Nat) (far : Bool) (flit : List Byte)
  /-- FELT_MODULE_PAUSE (R458). -/
  | feltModulePause (link : Nat) (lmod : Nat) (clockLost : Bool) (failed : List Nat)
  /-- FELT_LANE_REPAIR (R466). -/
  | feltLaneRepair (link : Nat) (lmod : Nat) (lane : Nat)
  /-- FELT_PROPOSE (R464). -/
  | feltPropose (link : Nat) (far : Bool) (record : List Byte)
  /-- FELT_CONFIRM (R464). -/
  | feltConfirm (link : Nat) (far : Bool) (record : List Byte)
  /-- FELT_AGREE_TIMEOUT (R465). -/
  | feltAgreeTimeout (link : Nat)
  /-- FELT_LINK_DOWN (R466). -/
  | feltLinkDown (link : Nat)
  /-- FELT_RETRAIN_RETRY (R465). -/
  | feltRetrainRetry (link : Nat) (near far : List (Nat × List Nat))
  /-- ROUTE_FENCE_RETURN (R462). -/
  | routeFenceReturn (source dest : Nat)
  /-- FELT_RECENTRE (R468). -/
  | feltRecentre (link : Nat) (lmod : Nat)
  /-- FELT_MODTEST (R469). -/
  | feltModtest (path : Path) (link lmod duration : Word)
  /-- FELT_MODTEST_END (R469). -/
  | feltModtestEnd (link : Nat) (failed : List Nat)
  /-- FELT_RETRAIN (R469). -/
  | feltRetrain (path : Path) (link : Word)
  /-- PTP_MESSAGE_RECEIVE (R481). -/
  | ptpMessageReceive (portB : Bool) (m : PtpMsg)
  /-- PTP_SOURCE_TIMEOUT (R477). -/
  | ptpSourceTimeout (portB : Bool)
  /-- TIME_OS_TIMEOUT (R477). -/
  | timeOsTimeout (port : Port)
  /-- PPS_IN_EDGE (R489). -/
  | ppsInEdge
  /-- PPS_TIMEOUT (R477). -/
  | ppsTimeout
  /-- PPS_OUT_EDGE (R490). -/
  | ppsOutEdge
  /-- TIME_STEP_APPLY (R483). -/
  | timeStepApply
  /-- HOLDOVER_LIMIT (R485). -/
  | holdoverLimit
  /-- REF10M_DETECT (R625). -/
  | ref10mDetect (present : Bool)
  /-- SETTIME_LO (R491). -/
  | settimeLo (path : Path) (value : Word)
  /-- EXTHI_READ (R492). -/
  | exthiRead (path : Path)
  /-- PWR_FAIL_EARLY_ASSERT (R497). -/
  | pwrFailEarlyAssert
  /-- PWR_FAIL_EARLY_RELEASE (R497). -/
  | pwrFailEarlyRelease
  /-- INPUT_DIP (R495). -/
  | inputDip (millivolts : Nat)
  /-- INPUT_LOSS (R494). -/
  | inputLoss
  /-- BUDGET (R542). -/
  | budget (frame : List Byte)
  /-- BUDGET_STALE (R501). -/
  | budgetStale
  /-- FACSTATUS (R542). -/
  | facstatus
  /-- THERMAL_TRIP (R510). -/
  | thermalTrip (sensor : Sensor)
  /-- SENSOR_FAIL (R511). -/
  | sensorFail (sensor : Sensor)
  /-- SENSOR_SAMPLE_10MS (R527). -/
  | sensorSample10ms (inlet outlet : BitVec 32) (flow : Word)
  /-- PROFILE_SELECT_WRITE (R516). -/
  | profileSelectWrite (path : Path) (index : BitVec 16) (sub : BitVec 8) (value : Word)
  /-- COLLIER_FAILOVER (R525). -/
  | collierFailover (cause : BitVec 2)
  /-- FAILOVER (R524). -/
  | failover (path : Path) (value : Word)
  /-- HEARTBEAT_TIMEOUT (R524). -/
  | heartbeatTimeout
  /-- MAILBOX_READ (R535): GO with any REQOP but 0x02, which MAILBOX_WRITE has. -/
  | mailboxRead (op : BitVec 8) (index : BitVec 16) (block : BitVec 8) (run : SubRun)
  /-- MAILBOX_WRITE (R535). -/
  | mailboxWrite (index : BitVec 16) (block sub : BitVec 8) (count : BitVec 8) (data : List Byte) (world : World)
  /-- READ (R537). -/
  | read (m : MsgIn)
  /-- WRITE (R538). -/
  | write (m : MsgIn) (world : World)
  /-- REGISTER_WRITE (R533). -/
  | registerWrite (path : Path) (index : BitVec 16) (block sub : BitVec 8) (value : List Byte) (world : World)
  /-- DEFINE (R546). -/
  | define (path : Path) (value : Word)
  /-- STAGING_DATA_ACCESS (R545). -/
  | stagingDataAccess (path : Path) (sub : BitVec 8) (count : BitVec 8) (written : Option (List Word))
  /-- JOURNAL_FLUSH (R555). -/
  | journalFlush (ok : Bool)
  /-- JOURNAL_COMPACT (R557). -/
  | journalCompact (ok : Bool)
  /-- JOURNAL_CLEAR (R559). -/
  | journalClear (path : Path) (value : Word)
  /-- SESSION_HELLO (R575). -/
  | sessionHello (path : Path) (gei : Word)
  /-- SESSION_CONFIRM (R575). -/
  | sessionConfirm (path : Path)
  /-- SESSION_END (R576). -/
  | sessionEnd (path : Path)
  /-- HANDSHAKE_TIMEOUT (R575). -/
  | handshakeTimeout (path : Path)
  /-- SESSION_TIMEOUT (R576). -/
  | sessionTimeout (path : Path)
  /-- FW_STAGE (R572). -/
  | fwStage (path : Path) (handle length : Word) (host : Dma)
  /-- FW_ACTIVATE (R573). -/
  | fwActivate (path : Path) (image : Word)
  /-- FW_COMMIT (R574). -/
  | fwCommit (path : Path)
  /-- FW_REVERT (R574). -/
  | fwRevert (path : Path)
  /-- ATTEST (R570). -/
  | attest (path : Path) (nonce : List Word) (handle : Word) (hostOk : Bool)
  /-- TRIAL_TIMEOUT (R573). -/
  | trialTimeout
  /-- COUNTER_FREEZE (R589). -/
  | counterFreeze (path : Path)
  /-- COUNTER_UNFREEZE (R589). -/
  | counterUnfreeze (path : Path)
  /-- COUNTER_SNAPSHOT (R590). -/
  | counterSnapshot (path : Path)
  /-- COUNTER_CLEAR (R590). -/
  | counterClear (path : Path)
  /-- COUNTER_CLEAR_SATURATING (R591). -/
  | counterClearSaturating (path : Path)
  /-- ATACT (R592). -/
  | atact (path : Path) (value : Word)
  /-- COUNTER_ACTION_APPLY (R589). -/
  | counterActionApply
  /-- COUNTER_OVERFLOW_SAMPLE (R593). -/
  | counterOverflowSample (unit : BitVec 8) (ctr : BitVec 3) (port : Port) (header : List Byte)
  /-- SAMPLE_RECORD_READ (R594). -/
  | sampleRecordRead (path : Path)
  /-- BANDWIDTH_WINDOW_CLOSE (R595). -/
  | bandwidthWindowClose
  /-- ERROR_LOG_READ (R603). -/
  | errorLogRead (path : Path)
  /-- FULL_RESET (R605): its cause, and the voltage at the input connector (17 R494). -/
  | fullReset (cause : BitVec 4) (millivolts : Nat)
  /-- KINDLING_PHASE_COMPLETE (R606). -/
  | kindlingPhaseComplete (r : KindlingResult)
  /-- RESET (R620). -/
  | reset (path : Path) (value : Word)
  /-- ORDERLY_SHUTDOWN (R618). -/
  | orderlyShutdown (path : Path)
  /-- DIERESET (R611). -/
  | diereset (path : Path) (value : Word)
  /-- DIE_WATCHDOG_EXPIRE (R611). -/
  | dieWatchdogExpire (die : Die)
  /-- DIE_RESET_EXIT (R612). -/
  | dieResetExit (die : Die) (felt : List (Nat × List (Nat × List Nat) × List (Nat × List Nat)))
  /-- DIE_RESET_TIMEOUT (R612). -/
  | dieResetTimeout (die : Die)
  /-- MATE_N_CHANGE (R636). -/
  | mateNChange (high : Bool)
  /-- PERST_N_ASSERT (R627). -/
  | perstNAssert
  /-- J2_LOSS (R632). -/
  | j2Loss (lost : Bool)
  /-- DIP_END (R495). -/
  | dipEnd
  /-- STANDBY_LOSS (R526). -/
  | standbyLoss
  /-- STANDBY_READY (R609). -/
  | standbyReady
  /-- COLLIER_WATCHDOG_EXPIRE (R605). -/
  | collierWatchdogExpire
  /-- PERST_N_RELEASE (R627). -/
  | perstNRelease
  /-- RESET_N_ASSERT (R624). -/
  | resetNAssert
  /-- FW_STAGE_COMPLETE (R572). -/
  | fwStageComplete
  deriving DecidableEq, Repr

end Sys2Proof
end

