-- ==== Sys2Proof/Config.lean ====
section
/-! DEFINITION. What the spec leaves open or names by an outside standard: constants without a body. -/

namespace Sys2Proof.Config

/-- Free value: how many of the table writes in flight (oldest first) the port die of the n-th
free draw has already applied (04 R126; log 3). -/
opaque writesSeen : Nat → Nat

/-- Free value: the stack that holds the unit of the n-th free draw, modulo 20. The spec gives the hash of an HBM address
(14 R431) and no address of an item (log 125). -/
opaque stackOf : Nat → Nat

/-- Free value: the transfers, beyond one, that the receiver of a Felt link has buffers for at a route stage (15 R461 states
no size; log 126). -/
opaque stageRoom : Nat → Nat → Nat

/-- Free value: the distance from the packet that overflowed a counter to the packet captured,
0-64 (20 R593; log 4). -/
opaque sampleSkid : Nat → Nat

/-- Free value: the requester's view of a torn or unspecified 32-bit value of the n-th free draw
(log 5 names every use). -/
opaque freeWord : Nat → Word

/-- SHA3-256 of FIPS 202 (19, opening; log 6): 32 bytes. -/
opaque sha3 : List Byte → List Byte

/-- KMAC256 of SP 800-185: key, message, length in bits, customisation (19 R563, R576; log 6). -/
opaque kmac : List Byte → List Byte → Nat → List Byte → List Byte

/-- ML-DSA-44 verification: public key, message, signature (19 R562, R575; log 6). -/
opaque mldsaVerify : List Byte → List Byte → List Byte → Bool

/-- ML-DSA-44 signature by the secret key of a seed over a message (19 R566, R567; log 6). -/
opaque mldsaSign : List Byte → List Byte → List Byte

/-- ML-DSA-44 public key of a 32-byte seed (19 R566; log 6). -/
opaque mldsaPublic : List Byte → List Byte

/-- ML-KEM-768 ciphertext for an encapsulation key and the randomness of the n-th free draw
(19 R575; log 6). -/
opaque kemCipher : List Byte → Nat → List Byte

/-- ML-KEM-768 shared secret for an encapsulation key and the randomness of the n-th free draw
(19 R575; log 6). -/
opaque kemSecret : List Byte → Nat → List Byte

/-- A nonce of 32 bytes drawn by the module (19 R575; log 6). -/
opaque nonce : Nat → List Byte

/-- The PUF seed of a core die (19 R566): it never leaves the die; only what is derived from it
is seen. -/
opaque pufSeed : Nat → List Byte

/-- The module's serial number, 16 bytes (18 R551): written at manufacture. -/
opaque serial : List Byte

/-- The signature of Ikiriwell's manufacturing key over bytes 0-1,375 of an endorsement record (19 R566, R567; log 6). -/
opaque endorseSign : List Byte → List Byte

/-- SHA3-256 digest of the die-firmware section of an image's payload (19 R564; the spec gives no place for the section: log
6). -/
opaque dieDigest : List Byte → List Byte

/-- Digest of the four stored profiles, given their parameters in the order of Table 17-8 (19 R565 gives no byte form: log
6). -/
opaque profilesDigest : List (List Nat) → List Byte

/-- Digest of the journal's security records: trust list and OWNER (19 R565 gives no byte form: log 6). -/
opaque securityDigest : List (List Byte × Nat) → Word → List Byte

/-- SHA3-256 digest of root public key k in the boot ROM (19 R562). -/
opaque rootDigest : Nat → List Byte

/-- Media access address of management port A (0), port B (1) and the facility segment (2)
(18 R541, R543). -/
opaque macAddress : Nat → Word64

/-- DICTVER of the running firmware (18 R551): fixed by the firmware release. -/
opaque dictVersion : Word

/-- Clock of the Collier in tenths of a clock per ns (20 Table 20-1 names the clock and gives no rate; log 12). -/
opaque collierTenths : Nat

/-- The abort code of the error notice about a packet at or above its flow's granted LIMIT (05 R163 names none; log 22). -/
opaque windowCode : Word

/-- The code of the error-log record of a CMIS alarm or warning (13 R407 names none; log 22). -/
opaque cmisAlarmCode : Word → Word

/-- The code of the error-log record of a memory error or of a row sparing (14 R438, R440 and 20 Table 20-10 name none; log
22). -/
opaque memErrorCode : Word

/-- The abort code of a FELT_RETRAIN or FELT_MODTEST that the loss of its link ends (15 R465, R469 name none; log 22). -/
opaque feltLostCode : Word

/-- Code of the report of a Felt lane that a spare has taken (01 R34; log 22). -/
opaque feltRepairCode : Word

/-- The code of the error-log record of a failure of the 10 MHz reference (16 R487 names none; log 22). -/
opaque refLostCode : Word

/-- The code of the error-log record of an input dip that ended in time (17 R495 names none; log 22). -/
opaque dipCode : Word

/-- The code of the error-log record of a clear of the saturating counters (20 R591 names none; log 22). -/
opaque clearCode : Word

/-- FAULT of a port whose die has started a partial reset by itself (21 R611 names no cause of Table 13-7; log 22). -/
opaque dieResetCause : BitVec 4

/-- Free value: the rate that the servo takes for an offset while it runs at a rate, in parts per 10^9 (16 R482 bounds the
change and gives no law; log 28). -/
opaque servoRate : Int → Int → Int

/-- Free value: the median of an even number of link delays between the two middle ones (16 R480 gives no rule; log 28). -/
opaque delayMedian : Nat → Nat → Nat

/-- Free value: whether a mean rate that is no whole number of parts per 10^9 is rounded up (16 R485; log 28). -/
opaque meanUp : List Int → Bool

/-- Free value: OFFSET of an offset that does not fit its 32 bits (16 R492; log 28). -/
opaque offsetView : Int → Word

/-- Free value: which of two nearest multiples of 10^9 ns a PPS_IN capture halfway between them is measured to (16 R489; log
28). -/
opaque ppsTie : Bool

/-- Free value: how the Hearth divides watts among the Vat levels that the core dies ask for when they do not suffice (17
R504 gives no rule; log 30). -/
opaque vatLevels : Nat → List Nat → List Nat

/-- Free value: which of two limits that tie FLAGS names (17 R520; log 30). -/
opaque limitTie : Nat → Nat → Bool

/-- Free value: how a lane shows the current extreme of Max or Min to a diagnostic read, none before the first contribution
(06 R203 gives the lane no layout; log 32). -/
opaque extremeLane : Option Word → Word64

/-- Slot in the record of an abort that concerns no slot (20 Table 20-10 states none; log 113). -/
opaque noSlot : BitVec 16

/-- Tile in the record of an abort that concerns no tile (20 Table 20-10 states none; log 113). -/
opaque noTile : Word

end Sys2Proof.Config
end

