-- ==== Sys2Proof/Machine/State.lean ====
section
/-! DEFINITION. The state of the module as plain data, its faults and refusals, and the state right after reset.

Every field's docstring ends in [width | file and rule | value at reset]. A field's default IS its value at
reset. "DC n" and "PRESUMED n" name the log entry of a value the spec does not give. -/

namespace Sys2Proof.Machine

/-- Why the module's model stops with a fault. -/
inductive Fault where
  /-- Raised by a command that names a Felt link above 37, a stack above 19 or a unit above 19: the module has no
  such unit (01 R15, 15 R453). Safe: the hardware cannot be given such an event. -/
  | noUnit
  deriving DecidableEq, Repr

/-- Why a command has no meaning in this model. -/
inductive Refusal where
  /-- The command's arm has no meaning yet. Safe. No arm of this model answers it. -/
  | notModelled (mnemonic : String)
  deriving DecidableEq, Repr

/-! ## Packets -/

/-- The extension of a GZF packet (02 R36): none, source route (R55), collective (R57), or the
bytes past the base header that a reserved HLEN leaves unparsed. -/
inductive Ext where
  | none
  | sr (v : BitVec 128)
  | coll (v : BitVec 192)
  | raw (bytes : List Byte)
  deriving DecidableEq, Repr

/-- A GZF packet: the fields of Table 02-1, the extension, the payload, its pad and its CRC. -/
structure Pkt where
  ver : BitVec 4 := 1
  hlen : BitVec 4 := 4
  tc : BitVec 3 := 0
  ep : Bool := false
  rm : BitVec 2 := 0
  vc : Bool := false
  xp : Bool := false
  rsv : BitVec 3 := 0
  plen : BitVec 13 := 0
  dgei : Word := 0
  sgei : Word := 0
  flow : BitVec 24 := 0
  kind : BitVec 8 := 0
  seq : Word := 0
  ts : Word := 0
  jtag : BitVec 16 := 0
  jgen : BitVec 8 := 0
  hops : BitVec 8 := 0
  hcrc : Word := 0
  ext : Ext := .none
  payload : List Byte := []
  pad : List Byte := []
  pcrc : Word := 0
  deriving DecidableEq, Repr

/-- Where the cells of a buffered packet lie (05 R166). -/
inductive Pool where
  | ingress (port : Port) (pool : Nat)
  | originated (die : Nat)
  /-- The spill buffer in HBM (05 R169). -/
  | spill
  /-- The spill-return pool of an egress port die (05 R170). -/
  | spillReturn (die : Nat)
  deriving DecidableEq, Repr

/-- A packet held in the packet buffer of its ingress port die until its last copy has left. -/
structure PktRec where
  pkt : Pkt
  /-- Ingress port; none for a packet that the module originated (03 R73). -/
  ingress : Option Port
  /-- Port die whose pipeline resolved the packet. -/
  die : Nat
  pool : Pool
  cells : Nat
  /-- Copies that have not left, been dropped or been consumed (05 R150). -/
  copies : Nat
  crcOk : Bool
  /-- Extended time at which the first bit arrived (11 R375). -/
  arrived : Word64
  /-- The received bytes 0-31, as an error notice echoes them (02 R61). -/
  header : List Byte
  /-- The first byte of some copy has left (05 R169). -/
  begun : Bool := false
  deriving DecidableEq, Repr

/-- A run of ring hops on a route: the die where it enters the ring, the direction (true = rising), the die where it leaves
(15 R460, Table 15-5). -/
structure RingLeg where
  entry : Nat
  up : Bool
  exit : Nat
  deriving DecidableEq, Repr

/-- A descriptor in an egress queue (05, "The packet buffer"). -/
structure Desc where
  id : Nat
  len : Nat
  tc : BitVec 3
  vc : Bool
  /-- The payload is in the spill buffer (05 R169). -/
  spilled : Bool := false
  /-- Version and ID of the spray set that a repick uses (03 R92). -/
  spray : Option (Bool × Nat) := none
  mcast : Bool := false
  /-- A committed copy waits for room in the transit staging of its egress die (05 R166). -/
  waits : Bool := false
  /-- The copy is on its way over the Felt: behind a route fence (15 R462), or in or before a ring slot (05 R174). -/
  crossing : Bool := false
  /-- Its cells are taken in the Felt transit pool of the egress die (05 R166, R175). -/
  staged : Bool := false
  /-- A multicast copy whose payload is in the spill-return pool of its egress die (05 R170). -/
  returned : Bool := false
  /-- Class 7 packets ahead when it was queued (11 R375). -/
  ahead : Nat := 0
  /-- Fabric time at which its byte 0 left: the TS of this copy of an originated packet (02 R39). -/
  ts : Word := 0
  deriving DecidableEq, Repr

/-- A packet that waits for the unit of a module service (03 R100, R101). -/
structure Delivery where
  svc : BitVec 8
  /-- Core die of the unit; the active Collier's die for services 0x00, 0x05, 0x06. -/
  core : Nat
  id : Nat
  pkt : Pkt
  /-- An in-band request that arrived while 16 waited (18 R537). -/
  late : Bool := false
  deriving DecidableEq, Repr

/-! ## What leaves the module -/

/-- One thing that left the module's pins or access paths. -/
inductive Output where
  /-- A packet left an egress port; `cut` = ended with the PCS error terminator (02 R45). -/
  | packet (port : Port) (pkt : Pkt) (cut : Bool)
  | orderedSet (port : Port) (bytes : List Byte)
  /-- A dictionary message on the management Ethernet, or a frame on the facility segment (18 R537, R541, R544). -/
  | message (path : Path) (bytes : List Byte)
  | msix (vector : Nat)
  /-- A DMA write to host memory (18 R547). -/
  | dmaWrite (address : Word64) (data : List Byte)
  | ppsOut (high : Bool)
  /-- A Delay_Req of the PTP clock of a management port, with its sequence number (16 R481). -/
  | delayReq (portB : Bool) (seq : BitVec 16)
  /-- A flit that the sender of a Felt link puts on a lane module; `far` = toward the far end (15 R455). -/
  | flit (link : Nat) (far : Bool) (lmod : Nat) (bytes : List Byte)
  /-- A record on the sideband of a Felt link; `far` = sent by the far end (15 R454). -/
  | sideband (link : Nat) (far : Bool) (bytes : List Byte)
  /-- What a CMIS_WRITE sends to the unit of a cage over its two-wire bus (13 R405, R427). -/
  | cmisWrite (cage : BitVec 7) (address : Word) (bytes : List Byte)
  /-- What a CMIS_READ asks of the unit of a cage over its two-wire bus (13 R405, R427). -/
  | cmisRead (cage : BitVec 7) (address : Word) (length : Nat)
  deriving DecidableEq, Repr

/-! ## Error log -/

/-- An error-log record (20 Table 20-9). -/
structure LogRec where
  num : Word64
  time : Word64
  code : Word
  type : BitVec 8
  unit : BitVec 8 := 0
  port : Port := 0
  akind : BitVec 4 := 0
  addr : Word64 := 0
  /-- B32-63 as eight words (20 R602). -/
  detail : List Word := []
  deriving DecidableEq, Repr

/-! ## Settings that persist -/

/-- A cabling map entry (18 Table 18-15). -/
structure Cabling where
  dtype : BitVec 4 := 0
  plane : BitVec 4 := 0
  group : BitVec 8 := 0
  index : BitVec 8 := 0
  pport : Port := 0
  egei : Word := 0
  deriving DecidableEq, Repr

/-- Port configuration (13 Table 13-2). WIDTH's default depends on the port number. -/
structure PortCfg where
  width : Nat
  cls : BitVec 4 := 0
  enable : Bool := true
  degrade : Bool := true
  deriving DecidableEq, Repr

/-- The identity of a peer: device type, coordinates and port number (13 R412). -/
structure PeerId where
  dtype : BitVec 4 := 0
  plane : BitVec 4 := 0
  group : BitVec 8 := 0
  index : BitVec 8 := 0
  pport : Port := 0
  deriving DecidableEq, Repr

/-- A Seasoning record (13 R412). -/
structure Season where
  peer : PeerId := {}
  hist : Bool := false
  deriving DecidableEq, Repr

/-- Scheduler settings of a port (11 Table 11-1). -/
structure Sched where
  /-- QUANTUM0-5. -/
  quantum : List Nat := [16384, 16384, 16384, 16384, 16384, 16384]
  /-- RATE0-6. -/
  rate : List Nat := [0, 0, 0, 0, 0, 0, 128]
  /-- BURST0-6. -/
  burst : List Nat := [65536, 65536, 65536, 65536, 65536, 65536, 65536]
  deriving DecidableEq, Repr

/-- The parameters of a stored profile that may be edited (17 Table 17-8). -/
structure Profile where
  vfirst : Nat := 1
  wspill : Nat := 4
  wbc : Nat := 8
  wpar : Nat := 4
  units : Nat := 16
  sched : Sched := {}
  deriving DecidableEq, Repr

/-- Spill parameters (05 Table 05-4). -/
structure SpillCfg where
  high : Nat := 75
  low : Nat := 50
  qmin : Nat := 4
  enable : Bool := true
  deriving DecidableEq, Repr

/-- Memory settings (14 Table 14-5). -/
structure MemCfg where
  scrubHrs : Nat := 24
  spareThr : Nat := 3
  rotate : Bool := true
  rotHrs : Nat := 24
  startTest : Bool := false
  deriving DecidableEq, Repr

/-- Time settings (16 Table 16-3). -/
structure TimeCfg where
  srcPrio : BitVec 16 := 0x1320
  stepThr : Nat := 1000
  holdLim : Nat := 10
  ptpDomain : BitVec 7 := 0
  ptpXport : Bool := false
  ppsOff : Int := 0
  ppsInDly : Nat := 0
  refSel : Bool := false
  deriving DecidableEq, Repr

/-- A Felt width record of one end, or the agreed record (15 Table 15-6). -/
structure FeltRec where
  gen : BitVec 16 := 0
  mask : BitVec 32 := 0
  /-- REPAIR of each lane module: the data lanes steered onto spares 0-3, 0x7F for a spare not used; absent = none used. -/
  repair : Sparse (List Nat) := []
  deriving DecidableEq, Repr

/-- Everything the journal keeps (18 R554), with the default that R554 measures against. -/
structure Persist where
  /-- Coordinates plane, group, index. [20 | 18 R552 | journal, default 0] -/
  plane : BitVec 4 := 0
  group : BitVec 8 := 0
  index : BitVec 8 := 0
  /-- VALID of the coordinates. [1 | 18 R552 | journal, default 0] -/
  coordValid : Bool := false
  /-- Cabling map entry of each port. [96 each | 18 R553 | journal, default 0] -/
  cabling : Sparse Cabling := []
  /-- DIR of each port; absent = 0b10 unmapped. [2 each | 03 R87 | journal, default 0b10] -/
  dir : Sparse (BitVec 2) := []
  /-- WIDTH, CLASS, ENABLE, DEGRADE of each port; absent = the default of Table 13-2. [4+4+1+1 each | 13 R399 | journal, default 8 where PORT is a multiple of 8 else 0; 0; 1; 1] -/
  portCfg : Sparse PortCfg := []
  /-- Seasoning record of each port. [41 each | 13 R412 | journal, default no peer (0) and HIST 0: DC 9] -/
  season : Sparse Season := []
  /-- Fault notice list, 8 GEIs. [8 x 32 | 13 R416 | journal, default 0] -/
  fnl : List Word := [0, 0, 0, 0, 0, 0, 0, 0]
  /-- LOCAL of the fault notice list, whole value. [32 | 13 R416 | journal, default 1] -/
  fnlLocal : Word := 1
  /-- CAGEPWR of each cage; absent = 30. [6 each | 13 R408 | journal, default 30] -/
  cagePwr : Sparse Nat := []
  /-- QUANTUM, RATE, BURST of each port; absent = the defaults of Table 11-1. [20 x 32 each | 11 R364 | journal, defaults of Table 11-1] -/
  sched : Sparse Sched := []
  /-- DEFGATES of each port; absent = 0xFF. [8 each | 11 R372 | journal, default 0xFF] -/
  defGates : Sparse (BitVec 8) := []
  /-- Demand bucket of each port; absent = p[9:4]. [6 each | 12 R377 | journal, default p[9:4]] -/
  demandBucket : Sparse (BitVec 6) := []
  /-- EXP, DEST, TC of the demand settings. [4, 32, 3 | 12 R380 | journal, default 6, 0, 6] -/
  demExp : Nat := 6
  demDest : Word := 0
  demTc : BitVec 3 := 6
  /-- Drain bound in µs. [32 | 03 R81 | journal, default 2,000] -/
  drainBound : Nat := 2000
  /-- Flow idle time in µs. [32 | 05 R178 | journal, default 50,000] -/
  flowIdle : Nat := 50000
  /-- HIGH, LOW, QMIN, ENABLE of spill. [4 x 32 | 05 R168 | journal, default 75, 50, 4, 1] -/
  spill : SpillCfg := {}
  /-- SCRUBHRS, SPARETHR, ROTATE, ROTHRS, STARTTEST. [5 x 32 | 14 R450 | journal, default 24, 3, 1, 24, 0] -/
  mem : MemCfg := {}
  /-- Time settings 0x7001. [8 x 32 | 16 R491 | journal, defaults of Table 16-3] -/
  time : TimeCfg := {}
  /-- TSRC of each port. [1 each | 16 R493 | journal, default 0] -/
  tsrc : Sparse Bool := []
  /-- ASYM of each port in ns. [32 each | 16 R493 | journal, default 0] -/
  asym : Sparse Int := []
  /-- BUDGET in W. [32 | 17 R519 | journal, default 4,200] -/
  budget : Nat := 4200
  /-- BUDGETSRC. [2 | 17 R519 | journal, default 2] -/
  budgetSrc : Nat := 2
  /-- SELECT. [8 | 17 R522 | journal, default 0xFF] -/
  select : Nat := 255
  /-- VFIRST, WSPILL, WBC, WPAR, UNITS and scheduler defaults of the four stored profiles. [4 x 25 x 32 | 17 R514, R522 | journal, default Table 17-8; Economy weights 0: DC 10] -/
  profiles : List Profile :=
    [{}, { wspill := 2, wbc := 4, wpar := 10, units := 32 }, { vfirst := 0, wspill := 12, wbc := 2, wpar := 2 },
     { wspill := 0, wbc := 0, wpar := 0, units := 0 }]
  /-- IPA, PREFIXA, GWA, IPB, PREFIXB, GWB. [6 x 32 | 18 R543 | journal, default 0: DC 9] -/
  eth : List Word := [0, 0, 0, 0, 0, 0]
  /-- MGTPORT. [32 | 18 R543 | journal, default 47,120] -/
  mgtPort : Word := 47120
  /-- OWNER of the in-band path. [32 | 18 R540 | journal, default 0] -/
  owner : Word := 0
  /-- NODEID. [32 | 18 R541 | journal, default 1] -/
  nodeId : Word := 1
  /-- TOTMR in bit times. [32 | 18 R541 | journal, default 32] -/
  totmr : Word := 32
  /-- KEYHASH and RIGHTS of the 8 trust list entries; absent = unused. [(256 + 2) x 8 | 19 R577 | journal, default 0] -/
  trust : Sparse (List Byte × BitVec 2) := []
  /-- SAMPVEC. [6 | 20 R594 | journal, default 0] -/
  sampVec : Nat := 0
  /-- WEXP. [4 | 20 R596 | journal, default 3] -/
  wexp : Nat := 3
  /-- AUTORESET. [1 | 21 R620 | journal, default 0] -/
  autoReset : Bool := false
  /-- Remapped rows of each stack (row numbers, oldest first). [8,192 rows x 20 | 14 R440 | journal, default none: DC 9] -/
  remap : Sparse (List Nat) := []
  /-- Lost stacks and the cause of each, coded as the list in R447. [8 each | 14 R448, R451 | journal, default none: DC 9] -/
  stackLost : Sparse (BitVec 8) := []
  /-- Felt width records at the near end, the far end and agreed, by link. [8 x (NMOD+2) B each | 15 R463, R465 | journal, default GEN 0 and an empty mask: DC 9] -/
  feltNear : Sparse FeltRec := []
  feltFar : Sparse FeltRec := []
  feltAgreed : Sparse FeltRec := []
  /-- Error log, oldest first. [64 B each | 20 R601 | journal, default empty: DC 9] -/
  log : List LogRec := []
  /-- NUM of the next record. [64 | 20 R601 | journal, default 0: DC 9] -/
  logNext : Word64 := 0
  /-- EPOCH of the active half. [32 | 18 R560 | journal, default 0: DC 9] -/
  epoch : Word := 0
  /-- DROPPED. [32 | 18 R560 | journal, default 0: DC 9] -/
  dropped : Word := 0
  /-- FAILOVERS, FCAUSE. [32, 2 | 18 R560 | journal, default 0: DC 9] -/
  failovers : Word := 0
  fcause : BitVec 2 := 0
  /-- BOOTS. [32 | 21 R620 | journal, default 0: DC 9] -/
  boots : Word := 0
  /-- A CLEAR accepted for the next full reset. [1 | 18 R559 | journal, default 0: DC 9] -/
  clearArmed : Bool := false
  deriving DecidableEq, Repr

/-- A journal record (18 R554): its sequence number, its length in bytes, its content, held as what the journal keeps once the
change is made, and whether its CRC-32C holds. The spec gives no codes of the types (log 163). -/
structure JrnlRec where
  seq : Word64
  bytes : Nat
  content : Persist
  crcOk : Bool := true
  deriving DecidableEq, Repr

/-- A half of the journal: valid once its closing record is written, which carries the epoch (18 R554, R557). -/
structure Half where
  valid : Bool := false
  epoch : Word := 0
  recs : List JrnlRec := []
  deriving DecidableEq, Repr

/-- The journal's buffer and halves (18 R554-R560). -/
structure Journal where
  /-- The two halves in flash. [2 x 32 MiB | 18 R554, R556 | half A valid and empty, half B invalid: DC 9] -/
  halfA : Half := { valid := true }
  halfB : Half := {}
  /-- The active half is B. [1 | 18 R557 | 0: DC 9] -/
  onB : Bool := false
  /-- Records in the buffer, oldest first; sequence number of the next record. [256 KiB; 64 | 18 R555, R554 | empty; 0: DC 9] -/
  buf : List JrnlRec := []
  seq : Word64 := 0
  /-- Bytes in the 256 KiB buffer. [19 | 18 R555 | 0] -/
  buffered : Nat := 0
  /-- USED: bytes in the active half. [25 | 18 R560 | 0] -/
  used : Nat := 0
  /-- LASTFLUSH. [32 | 18 R560 | 0] -/
  lastFlush : Word := 0
  /-- Neither half can take records. [1 | 18 R558 | 0: DC 9] -/
  failed : Bool := false
  deriving DecidableEq, Repr

/-! ## Clock -/

/-- The PTP clock of a management port: qualification (16 R477), and what it has heard and asked (R481). -/
structure PtpSrc where
  good : Nat := 0
  qualified : Bool := false
  logInterval : Int := 0
  last : Nat := 0
  /-- The last Announce of each sender heard. -/
  masters : List PtpAnnounce := []
  /-- The last Sync of the master: its sequence number, its time of arrival, and the time of its departure when known. -/
  sync : Option (BitVec 16 × Word64 × Option Word64) := none
  /-- The Delay_Req that waits for its answer: its sequence number and time of departure. -/
  req : Option (BitVec 16 × Word64) := none
  reqSeq : BitVec 16 := 0
  deriving DecidableEq, Repr

/-- Qualification of a link source (16 R477). -/
structure LinkSrc where
  good : Nat := 0
  qualified : Bool := false
  last : Nat := 0
  deriving DecidableEq, Repr

/-- A step that the time unit has named (16 R483): the boundary of the old time and the change. -/
structure Step where
  boundary : Word64
  delta : Int
  first : Bool
  /-- The step sets the high half of the extended time (PTP or SETTIME). -/
  high : Bool
  deriving DecidableEq, Repr

/-- The time unit and the copies of the dies (16). -/
structure Clock where
  /-- Extended time; its low half is fabric time. [64 | 16 R473 | 0] -/
  ext : Word64 := 0
  /-- Nanoseconds since the release of reset, never stepped (the free-running count). [MODEL'S OWN width | 16 R486 | 0] -/
  mono : Nat := 0
  /-- Time-valid flag. [1 | 16 R484 | 0] -/
  valid : Bool := false
  /-- Holdover flag. [1 | 16 R485 | 0] -/
  holdover : Bool := false
  /-- Source kind and port in use. [4, 10 | 16 R476, R492 | 0] -/
  kind : BitVec 4 := 0
  srcPort : Port := 0
  /-- Last measured offset in ns. [32 | 16 R492 | 0] -/
  offset : Int := 0
  /-- Measurements of this cycle not yet used by the servo, by 1,024 x source kind + port. [64 each | 16 R482 | none: DC 9] -/
  meas : Sparse Int := []
  /-- Rate correction in parts per 10^9. [32 | 16 R492 | 0] -/
  rate : Int := 0
  /-- Rates of the last 64 control cycles, newest first. [64 x 32 | 16 R485 | empty: DC 9] -/
  rates : List Int := []
  /-- Part of a ns that the rate correction has not yet moved the count by, in 10^-9 ns. [MODEL'S OWN | 16 R482 | 0] -/
  slewRest : Int := 0
  /-- A first correction has been made since the full reset. [1 | 16 R482 | 0] -/
  corrected : Bool := false
  /-- STEPS. [32 | 16 R492 | 0] -/
  steps : Word := 0
  /-- Step waiting for its boundary. [- | 16 R483 | none] -/
  step : Option Step := none
  /-- Start of the current holdover (free-running count) and whether it has been reported. [- | 16 R485 | 0, 0] -/
  holdStart : Nat := 0
  holdReported : Bool := false
  /-- PTP on port A and port B. [- | 16 R477 | not qualified] -/
  ptpA : PtpSrc := {}
  ptpB : PtpSrc := {}
  /-- Link sources by port. [- | 16 R477 | not qualified] -/
  links : Sparse LinkSrc := []
  /-- PPS_IN: good intervals, qualified, last edge (free-running count). [- | 16 R477 | not qualified] -/
  ppsGood : Nat := 0
  ppsQualified : Bool := false
  ppsLast : Option Nat := none
  /-- Last PPS_IN capture and count. [64, 32 | 16 R492 | 0] -/
  ppsCapture : Word64 := 0
  ppsCount : Word := 0
  /-- Dictionary source qualified. [1 | 16 R477 | 0] -/
  dictQualified : Bool := false
  /-- SETTIME_HI as last written. [32 | 16 R491 | 0: DC 9 (the spec gives a dash)] -/
  setHi : Word := 0
  /-- The high half has been set by PTP or SETTIME since Kindling. [1 | 16 R477 | 0] -/
  highSet : Bool := false
  /-- Last refill, control cycle, demand close, bandwidth close, PPS_OUT boundary handled. [64 each | 16 R488 | 0] -/
  lastRefill : Word64 := 0
  lastCycle : Word64 := 0
  lastDemand : Word64 := 0
  lastWindow : Word64 := 0
  lastPps : Word64 := 0
  /-- The first due time of the run of due times that ends at each of the last ones: what a step back does not repeat (cycle,
  demand close, bandwidth close, PPS_OUT). [64 each | 16 R488 | 0] -/
  firstCycle : Word64 := 0
  firstDemand : Word64 := 0
  firstWindow : Word64 := 0
  firstPps : Word64 := 0
  /-- Earlier runs of due times that have fired, each by its first and last (cycle, demand close, bandwidth close, PPS_OUT).
  [64 each | 16 R488 | none] -/
  ranCycle : List (Word64 × Word64) := []
  ranDemand : List (Word64 × Word64) := []
  ranWindow : List (Word64 × Word64) := []
  ranPps : List (Word64 × Word64) := []
  /-- Free-running count at which PPS_OUT rose. [MODEL'S OWN width | 16 R490 | 0] -/
  ppsRise : Nat := 0
  /-- Control cycles since Kindling. [MODEL'S OWN width | 17 R504 | 0] -/
  cycle : Nat := 0
  /-- REF10M_IN present, and in use. [1, 1 | 16 R487, 22 R625 | 0] -/
  refPresent : Bool := false
  refInUse : Bool := false
  /-- PPS_OUT level. [1 | 16 R490 | low] -/
  ppsOut : Bool := false
  /-- A step fell in the bandwidth window. [1 | 20 R595 | 0] -/
  stepInWindow : Bool := false
  /-- EXTLO latched for each path. [32 each | 16 R492 | 0] -/
  extLo : Sparse Word := []
  /-- Time settings in force (a write waits for the next control cycle). [as 0x7001 | 16 R491 | as restored] -/
  cfg : TimeCfg := {}
  deriving DecidableEq, Repr

/-! ## Condition of the module -/

/-- What the module as a whole is doing (21 R616). -/
inductive Mode where
  /-- No input power, or the input switch is open (17 R494). -/
  | off
  /-- Held in reset by MATE_N, RESET_N, low input or coolant flow (22 R624, R635). -/
  | held
  | kindling
  | ready
  /-- SHUTDOWN (21 R618). -/
  | shutdown
  /-- Thermal shutdown (17 R510). -/
  | thermal
  /-- Both images invalid (19 R568). -/
  | recovery
  deriving DecidableEq, Repr

/-- Phase, reset control, pins and lost units (21, 22). -/
structure Boot where
  /-- What the module is doing. [- | 21 R606 | Kindling] -/
  mode : Mode := .kindling
  /-- PHASE. [4 | 21 R620 | 0x1] -/
  phase : BitVec 4 := 1
  /-- CAUSE of the last full reset. [4 | 21 R620 | 0] -/
  cause : BitVec 4 := 0
  /-- TREADY. [32 | 21 R620 | 0] -/
  tready : Word := 0
  /-- Free-running count at READY. [MODEL'S OWN width | 17 R507 | 0] -/
  readyAt : Nat := 0
  /-- Hearth warm-up flag. [1 | 17 R507 | 0: DC 9] -/
  warm : Bool := false
  /-- PROF_SEL as sampled. [2 | 17 R515, R522 | 0] -/
  pins : BitVec 2 := 0
  /-- PWR_FAIL_EARLY asserted; MATE_N high; RESET_N asserted; PERST_N asserted. [1 each | 22 R624 | 0] -/
  pfe : Bool := false
  mateHigh : Bool := false
  /-- Free-running count at which MATE_N fell, when it has since the last Kindling. [MODEL'S OWN width | 22 R635 | none] -/
  mateFell : Option Nat := none
  /-- A power-on waits for MATE_N or the coolant. [1 | 22 R635 | 0: DC 9] -/
  waiting : Bool := false
  /-- The input has been below 41 V since a dip, a loss or a power-on that has not ended. [1 | 21 R619, 17 R494 | 0: DC 9] -/
  lowInput : Bool := false
  resetN : Bool := false
  perst : Bool := false
  /-- RWS writes are refused since the flush of R497. [1 | 17 R497 | 0] -/
  failing : Bool := false
  /-- The input is below 40 V and the module runs from hold-up energy. [1 | 17 R495 | 0] -/
  dip : Bool := false
  /-- J2 is lost. [1 | 22 R632 | 0] -/
  j2Lost : Bool := false
  /-- PWR_FAIL_EARLY has stopped Kindling, which starts again at its release. [1 | 21 R619 | 0] -/
  stopped : Bool := false
  /-- Port dies in partial reset, with the free-running count of its start. [16 | 21 R612 | none] -/
  dieResets : Sparse Nat := []
  /-- Lost dies, by unit number 0-19. [20 | 01 R34 | none] -/
  lostDies : List Nat := []
  /-- The PCIe interface is lost with CD0. [1 | 01 R34 | 0] -/
  pcieLost : Bool := false
  /-- Collier: CD2 active; standby state (0 ready, 1 synchronising, 2 lost); both pairs lost. [1, 2, 1 | 18 R560, R526 | CD0 active, ready, 0] -/
  cd2Active : Bool := false
  standby : BitVec 2 := 0
  bothLost : Bool := false
  /-- Pairs that have failed: CD0's, CD2's. [2 | 18 R526 | none] -/
  pair0Failed : Bool := false
  pair2Failed : Bool := false
  deriving DecidableEq, Repr

/-! ## Management -/

/-- A command slot (04 Table 04-4). -/
structure Slot where
  cmd : Word := 0
  status : Word := 0
  abort : Word := 0
  cursor : Word := 0
  args : Sparse Word := []
  res : Sparse Word := []
  /-- Bulk transfer slots that the command uses while BUSY (18 R546). -/
  uses : List Nat := []
  deriving DecidableEq, Repr

/-- The command objects. -/
inductive SlotObj where
  | table | coll | graph | bc | vault | port | felt | ocs | sec
  deriving DecidableEq, Repr

/-- A bulk transfer slot (18 Table 18-9): the registers, and what the last DEFINE took. -/
structure Bulk where
  kind : BitVec 2 := 0
  addr : Word64 := 0
  len : Word := 0
  gen : BitVec 8 := 0
  handle : Word := 0
  dKind : BitVec 2 := 0
  dAddr : Word64 := 0
  dLen : Nat := 0
  /-- Era of the path's staging at DEFINE. -/
  era : Nat := 0
  deriving DecidableEq, Repr

/-- A handshake or session of a message path (19 R575, R576). -/
structure Session where
  /-- 0 none, 1 HELLO answered, 2 open. -/
  st : Nat := 0
  since : Nat := 0
  /-- Free-running count of the last valid message. -/
  last : Nat := 0
  keyHash : List Byte := []
  pub : List Byte := []
  h1 : List Byte := []
  secret : List Byte := []
  rxKey : List Byte := []
  txKey : List Byte := []
  rxSeq : Word64 := 0
  txSeq : Word64 := 0
  deriving DecidableEq, Repr

/-- The last abort of a path (18 Table 18-13). -/
structure LastAbort where
  code : Word := 0
  kind : BitVec 4 := 0
  addr : Word64 := 0
  time : Word := 0
  deriving DecidableEq, Repr

/-- An entry of the MSI-X table: message address and data, and its mask bit, as the PCIe specification defines them (18 Table
18-5). -/
structure MsixEntry where
  addr : Word64 := 0
  data : Word := 0
  masked : Bool := true
  deriving DecidableEq, Repr

/-- Management: mailbox, selectors, bulk transfer, sessions (18, 19). -/
structure Mgmt where
  /-- Full resets so far: each starts a new era of the message paths' staging. [MODEL'S OWN | 18 R545, 21 R608 | 0] -/
  era : Nat := 0
  /-- BAR0 request registers: REQINDEX, REQBLOCK, REQSUB, REQOP, COUNT. [16, 8, 8, 8, 8 | 18 R535 | 0, 0, 0, 0, 1] -/
  reqIndex : BitVec 16 := 0
  reqBlock : BitVec 8 := 0
  reqSub : BitVec 8 := 0
  reqOp : BitVec 8 := 0
  reqCount : BitVec 8 := 1
  /-- BAR0 STATE, DONECNT, ABORT. [2, 8, 32 | 18 R535 | 0] -/
  mbState : BitVec 2 := 0
  mbDone : BitVec 8 := 0
  mbAbort : Word := 0
  /-- BAR0 DATA, 768 B. [768 x 8 | 18 R535 | 0] -/
  mbData : List Byte := []
  /-- MSI-X pending bits. [64 | 18 R535 | 0] -/
  pba : BitVec 64 := 0
  /-- MSI-X table by vector, and MSI-X Enable of the configuration space. [64 x 128, 1 | 18 R535 | masked, 0: PRESUMED 164] -/
  msixTab : Sparse MsixEntry := []
  msixOn : Bool := false
  /-- GO writes ignored while STATE was 1. [MODEL'S OWN width | 18 Table 18-5 | 0: DC 9] -/
  goIgnored : Nat := 0
  /-- OFFSET of each path. [32 each | 18 R545 | 0] -/
  offset : Sparse Word := []
  /-- Bulk transfer slots, by path and slot. [- | 18 R545 | Table 18-9] -/
  bulk : Sparse Bulk := []
  /-- Selectors of each path, by index and sub-index. [32 each | 18 R529 | 0] -/
  sel : Sparse Word := []
  /-- Command slots, by object and path. [- | 04 R131 | Table 04-4] -/
  slots : Sparse Slot := []
  /-- Sessions of the message paths. [- | 19 R575 | none] -/
  sessions : Sparse Session := []
  /-- IN and OUT of object 0x8020, by path, 3,072 B and 3,840 B. [- | 19 R575 | 0: DC 9] -/
  secIn : Sparse (List Byte) := []
  secOut : Sparse (List Byte) := []
  /-- Last abort of each path. [- | 18 R550 | 0] -/
  lastAbort : Sparse LastAbort := []
  /-- In-band messages of the module that wait for their flow's window, and those sent and not acknowledged, by 2^32 x context
  + SEQ. [- | 18 R540, 05 R177 | none: DC 9] -/
  inbandWait : List (Word × List Byte) := []
  inbandSent : Sparse (List Byte) := []
  /-- Facility: last accepted BUDGET sequence number. [32 | 18 R542 | none: DC 9] -/
  budgetSeq : Option Word := none
  /-- Facility: source address of the last frame heard, to which responses go. [48 | 18 R541 | 0: DC 9] -/
  facPeer : BitVec 48 := 0
  deriving DecidableEq, Repr

/-! ## Tables -/

/-- An exact-match entry as stored (04 Table 04-2 less V and LOC). -/
structure EmEntry where
  key : Word
  result : Word
  deriving DecidableEq, Repr

/-- An LPM entry as stored (04 Table 04-3 less V and LOC). -/
structure LpmEntry where
  pfx : Word
  len : Nat
  result : Word
  deriving DecidableEq, Repr

/-- A multicast group entry (04 R123). -/
structure Group where
  valid : Bool := false
  ports : BitVec 1024 := 0
  deriving DecidableEq, Repr

/-- One version of the forwarding tables (04 R111). -/
structure Version where
  /-- Exact match by position: bank 0 from 0, bank 1 from 524,288, overflow from 1,048,576. [1,048,576 + 8,192 entries | 04 R111 | empty] -/
  em : Sparse EmEntry := []
  /-- LPM by position: bank 0 from 0, bank 1 from 65,536, overflow from 131,072. [131,072 + 1,024 entries | 04 R111 | empty] -/
  lpm : Sparse LpmEntry := []
  /-- Spray sets of 64 slots; absent = all slots 0. [16,384 x 1,024 | 03 R86 | 0] -/
  spray : Sparse (List (BitVec 16)) := []
  /-- Multicast groups; absent = invalid and empty. [65,536 x 1,025 | 04 R123 | invalid] -/
  groups : Sparse Group := []
  /-- Hash seed. [32 | 04 R112 | 0] -/
  seed : Word := 0
  deriving DecidableEq, Repr

/-- One write that the sequencer has taken up (04 R124): an item and its new value. -/
inductive TblWrite where
  | em (ver : Bool) (pos : Nat) (e : Option EmEntry)
  | lpm (ver : Bool) (pos : Nat) (e : Option LpmEntry)
  | spray (ver : Bool) (index : Nat) (slots : List (BitVec 16))
  | group (ver : Bool) (index : Nat) (g : Group)
  | none
  deriving DecidableEq, Repr

/-- A write in flight: the write and, when it ends a command, the slot's path with the status,
abort code and results that the slot takes. -/
structure InFlight where
  write : TblWrite
  owner : Option (Path × Word × Word × List (Nat × Word)) := none
  deriving DecidableEq, Repr

/-- A long command (04 R128). -/
structure LongJob where
  path : Path
  op : BitVec 8
  ver : Bool
  port : Nat := 0
  scope : BitVec 4 := 0
  /-- Next step's position in the walk. -/
  pos : Nat := 0
  /-- Counts returned as results. -/
  counts : List Nat := [0, 0, 0, 0]
  /-- BULK_LOAD: handle, record count, and the records pulled. -/
  handle : Word := 0
  count : Nat := 0
  host : Dma := .failed
  /-- Its last step is done; its slot leaves BUSY when its writes are complete. -/
  finished : Bool := false
  deriving DecidableEq, Repr

/-- Forwarding tables and the table sequencer (04). -/
structure Tables where
  /-- The two versions as every working port die holds them. [- | 04 R111 | empty] -/
  v0 : Version := {}
  v1 : Version := {}
  /-- Writes taken up and not yet complete, oldest first. [- | 04 R124, R125 | none] -/
  inflight : List InFlight := []
  /-- Long commands, the running one first. [- | 04 R128 | none] -/
  long : List LongJob := []
  /-- Inserts refused with GZ_TBL_FULL, versions 0 and 1. [64 each | 04 R145 | 0] -/
  full0 : Word64 := 0
  full1 : Word64 := 0
  deriving DecidableEq, Repr

/-- A running interval (03 R81): whether it runs on fabric time or on the free-running count, the count at its start,
and its length in ns. -/
structure Interval where
  fabric : Bool
  start : Nat
  len : Nat
  deriving DecidableEq, Repr

/-- A job record (02 R52). -/
structure JobRec where
  active : Bool := false
  gen : BitVec 8 := 0
  deriving DecidableEq, Repr

/-- Forwarding state that is not versioned (02, 03). -/
structure Fwd where
  /-- Version states. [2 each | 03 R79 | version 0 ACTIVE, version 1 FREE] -/
  st0 : BitVec 2 := 1
  st1 : BitVec 2 := 0
  /-- Running RETIRING intervals. [- | 03 R80 | none] -/
  retire0 : Option Interval := none
  retire1 : Option Interval := none
  /-- Source epoch. [1 | 03 R84, 21 R608 | 0] -/
  epoch : Bool := false
  /-- Drain bound in force, in µs. [32 | 03 R81 | as restored] -/
  drainUs : Nat := 2000
  /-- PFENCE of each port. [1 each | 03 R87 | 0] -/
  pfence : Sparse Bool := []
  /-- Fence list, by entry. [8,192 x 32 | 03 R102 | empty] -/
  fence : Sparse Word := []
  /-- Job records; absent = inactive. Tag 0x0000 is always active with generation 0. [65,536 x 9 | 02 R52 | inactive] -/
  jobs : Sparse JobRec := []
  /-- Group owners; absent = 0xFFFF. [65,536 x 16 | 09 R301 | 0xFFFF] -/
  owners : Sparse (BitVec 16) := []
  /-- Notice bucket of each port die; absent = 32. [6 each | 03 R108 | 32: DC 9] -/
  bucket : Sparse Nat := []
  /-- Notice cache of each port die: source GEI, code, time of entry, oldest first. [256 each | 03 R108 | empty: DC 9] -/
  cache : Sparse (List (Word × Word × Word64)) := []
  /-- Packets that entered Resolve of each of the 64 pipelines. [32 each | 03 R90 | 0] -/
  ctr : Sparse Word := []
  /-- Drops logged in this control cycle, by port and code. [- | 03 R109 | none] -/
  logged : List (Nat × Word) := []
  deriving DecidableEq, Repr

/-! ## Ports -/

/-- Port states (13 R409): the link states of 02 R68 and DISABLED. -/
inductive PState where
  | training | seasoning | up | draining | maintenance | disabled
  deriving DecidableEq, Repr

/-- What a running lane test is (13 R425). -/
structure LaneTest where
  path : Path
  pattern : BitVec 4
  /-- Free-running count at which it ends. -/
  stop : Nat
  deriving DecidableEq, Repr

/-- The state of one port (13, and the link layer of 02 and 05). -/
structure PortSt where
  /-- Port state. [4 | 13 R428 | 0x5 DISABLED] -/
  st : PState := .disabled
  /-- Active lanes. [8 | 13 R428 | 0] -/
  active : BitVec 8 := 0
  /-- Link state of the last LINK_ID received. [8 | 13 R428 | 0] -/
  peerState : BitVec 8 := 0
  /-- Peer of the last LINK_ID. [34 | 13 R428 | 0] -/
  peer : PeerId := {}
  /-- A LINK_ID has been received since the last training. [1 | 02 R68 | 0] -/
  peerSeen : Bool := false
  /-- Start of the clean time (free-running count) while UP, and the held value in ns. [- | 13 R414 | none, 0] -/
  cleanStart : Option Nat := none
  cleanHeld : Nat := 0
  /-- FAULT and FAULTTIME. [4, 32 | 13 R428 | 0] -/
  fault : BitVec 4 := 0
  faultTime : Word := 0
  /-- ATTEMPTS: consecutive failed training attempts. [32 | 13 R428 | 0] -/
  attempts : Nat := 0
  /-- After 8 failed attempts: the free-running count at which the next attempt starts. [- | 13 R411 | none: DC 9] -/
  retryAt : Option Nat := none
  /-- Training result and mismatch: training succeeded and LINK_ID is awaited; failures were mismatches; training failure reported. [1 each | 13 R411 | 0] -/
  trained : Bool := false
  mismatches : Nat := 0
  trainReported : Bool := false
  /-- A LINK_ID that disagrees with the cabling map of an admitted or seasoning port has been reported. [1 | 02 R68 | 0] -/
  idReported : Bool := false
  /-- A warm retrain is running, and its start. [- | 13 R421 | none] -/
  warm : Option Nat := none
  /-- The warm retrain started from UP (notice sent) or from SEASONING. [1 | 13 R421, R645 | 0] -/
  warmFromUp : Bool := false
  /-- Seasoning: start of the period, start of the state, with history, reported. [- | 13 R413 | 0] -/
  seasonStart : Nat := 0
  seasonSince : Nat := 0
  seasonHist : Bool := false
  seasonReported : Bool := false
  /-- GZ_FAULT_LINK_UP is owed when the port comes Up again. [1 | 13 R419 | 0] -/
  owesUp : Bool := false
  /-- Drain start. [- | 13 R423 | none] -/
  drain : Option Nat := none
  /-- The drain bound that the drain waits for, in µs. [32 | 13 R423, 03 R81 | 0] -/
  drainUs : Nat := 0
  /-- Planned interval of the circuit bypass. [1 | 12 R388 | 0] -/
  planned : Bool := false
  /-- The transmitter is squelched by a plan, and training waits for WE. [1 | 12 R387 | 0] -/
  dark : Bool := false
  /-- Running LANE_TEST and DIE_BIST. [- | 13 R425 | none] -/
  test : Option LaneTest := none
  /-- Credits held from the peer, pools: shared up, shared turned, class 7 up, class 7 turned. [4 x 16 | 05 R149, R642 | 0] -/
  credit : List Nat := [0, 0, 0, 0]
  /-- Last CREDIT values received. [4 x 16 | 05 R151 | 0] -/
  lastRx : List (BitVec 16) := [0, 0, 0, 0]
  /-- CREDIT counters: cells freed since training. [4 x 16 | 02 R66 | 0] -/
  freed : List (BitVec 16) := [0, 0, 0, 0]
  /-- CREDIT values of the last CREDIT ordered set sent. [4 x 16 | 02 R65 | 0: DC 9] -/
  lastTx : List (BitVec 16) := [0, 0, 0, 0]
  /-- Cells of each ingress pool in use. [4 x 16 | 05 R154 | 0] -/
  used : List Nat := [0, 0, 0, 0]
  /-- Sequence number of the next ordered set sent. [8 | 02 R64 | 0: DC 9] -/
  osSeq : BitVec 8 := 0
  /-- Free-running count of the last valid ordered set received, and of the last CREDIT, TIME, LINK_ID sent. [- | 02 R69, R65 | 0] -/
  osLast : Nat := 0
  creditSent : Nat := 0
  timeSent : Word64 := 0
  /-- First of the run of TIME due times that ends at `timeSent`. [64 | 16 R488 | 0] -/
  timeFirst : Word64 := 0
  /-- Earlier runs of TIME due times. [64 each | 16 R488 | none] -/
  timeRan : List (Word64 × Word64) := []
  linkSent : Nat := 0
  /-- Spilling from the pools shared up and shared turned is on. [1 each | 05 R169 | 0] -/
  spillUp : Bool := false
  spillTurned : Bool := false
  /-- Link delay measured at the last full training. [32 | 16 R493 | 0] -/
  delay : Nat := 0
  /-- C7MAX. [32 | 11 R375 | 0] -/
  c7max : Nat := 0
  /-- Bytes received and sent since the last bandwidth close; RXBW and TXBW. [64, 64, 32, 32 | 20 R595 | 0] -/
  rxBytes : Nat := 0
  txBytes : Nat := 0
  rxBw : Nat := 0
  txBw : Nat := 0
  deriving DecidableEq, Repr

/-- A cage (13 R405-R408, 22 R628-R632). -/
structure Cage where
  unit : Option CageUnit := none
  lowPower : Bool := true
  released : Bool := false
  /-- Powered off for overcurrent until reinsertion. -/
  off : Bool := false
  /-- Ports reported for this insertion, and the unit reported for power (13 R406). -/
  told : List Nat := []
  powerTold : Bool := false
  /-- The monitors of the last poll. -/
  monitors : CmisMonitors := {}
  deriving DecidableEq, Repr

/-- A lane's measured figures (13 Table 13-10). -/
structure Lane where
  ber : Word := 0
  margin : Word := 0
  /-- Removed by a degrade. -/
  removed : Bool := false
  deriving DecidableEq, Repr

/-- Ports, lanes and cages (13). -/
structure Ports where
  /-- Ports by number; absent = the reset value. [1,024 | 13 R399-R428 | Table 13-9] -/
  port : Sparse PortSt := []
  /-- Lanes by number. [1,024 | 13 R428 | 0] -/
  lane : Sparse Lane := []
  /-- Cages by number. [128 | 13 R408 | empty] -/
  cage : Sparse Cage := []
  /-- Queue of units refused for cage power, in order. [128 | 22 R630 | empty] -/
  cageQueue : List Nat := []
  /-- Running DIE_BIST, by port die. [16 | 13 R426 | none] -/
  bist : Sparse Path := []
  /-- Port dies whose last DIE_BIST failed: their ports stay in MAINTENANCE. [16 | 13 R426 | none: DC 9] -/
  bistFailed : List Nat := []
  deriving DecidableEq, Repr

/-! ## Egress -/

/-- A gate list in force or pending: entries (gates, duration in ns), base or start, cycle (11 R366). -/
structure GateList where
  entries : List (BitVec 8 × Nat) := []
  start : Word64 := 0
  deriving DecidableEq, Repr

/-- The egress scheduler of one port (11). -/
structure EgPort where
  /-- The 16 queues, key 2 x class + channel; absent = empty. [- | 11 R352 | empty] -/
  queue : Sparse (List Desc) := []
  /-- Class under visit, deficits and open visits of classes 0-5. [3, 6 x 32, 6 | 11 R358 | 0] -/
  cur : Nat := 0
  deficit : List Nat := [0, 0, 0, 0, 0, 0]
  opened : List Bool := [false, false, false, false, false, false]
  /-- Tokens of the shapers of classes 0-6. [7 x 32 | 11 R360 | 0: DC 9] -/
  tokens : List Nat := [0, 0, 0, 0, 0, 0, 0]
  /-- Per class: the turned queue was served last. [8 | 11 R355 | 1, the up queue first: DC 9] -/
  lastTurned : List Bool := [true, true, true, true, true, true, true, true]
  /-- Packet in transmission, the free-running count at which its last byte leaves, and the committed packet, whose first byte
  has not left. [- | 11 R356, R368, 03 R646 | none] -/
  tx : Option Desc := none
  txEnd : Nat := 0
  committed : Option Desc := none
  /-- Gate lists: pending (with E and the moment of commit), running; entry in force. [- | 11 R370 | none] -/
  pending : Option GateList := none
  running : Option GateList := none
  entry : Nat := 0
  /-- Gates of the entry in force. [8 | 11 R369 | 0xFF, DEFGATES] -/
  gates : BitVec 8 := 0xFF
  /-- Administrative list: NENTRY, BASE, ENTRY0-63; absent entry = 0xFF00_0000. [32, 32, 64 x 32 | 11 R372 | 0, 0, 0xFF00_0000] -/
  nentry : Word := 0
  base : Word := 0
  admin : Sparse Word := []
  deriving DecidableEq, Repr

/-- Traffic on the Felt (01 R21, 15 Table 15-3). -/
inductive Traffic where
  | control | packet | memory | fence
  deriving DecidableEq, Repr

/-- What a transfer between dies is for: what its destination die does when it is there. -/
inductive Use where
  /-- A committed copy pulled to its egress port. -/
  | pull (port id : Nat)
  /-- A packet for a module service (03 R100). -/
  | service (id : Nat)
  /-- A multicast packet for the core-die stage at its hub: destination ports, and the core die that takes a copy (09 R298). -/
  | spread (id : Nat) (ports : List Nat) (own : Option Nat)
  /-- A port die's copy of a multicast packet (09 R299). -/
  | copy (die id : Nat) (ports : List Nat)
  /-- An originated packet for its PD4n, with its port when it is a local copy (03 R73). -/
  | origin (core : Nat) (pkt : Pkt) (port : Option Nat)
  /-- A memory request for a stack, or a response (none) (05 R175). -/
  | memory (stack : Option Nat)
  /-- A message of control traffic, which changes nothing that the model holds at its destination. -/
  | control
  deriving DecidableEq, Repr

/-- A transfer between two dies with the ring legs of its route not yet done. -/
structure Crossing where
  kind : Traffic
  src : Nat
  dst : Nat
  bytes : List Byte
  use : Use
  legs : List RingLeg := []
  deriving DecidableEq, Repr

/-- A ring direction of a port die (05, "The bubble rule"). -/
structure RingDir where
  /-- Holders of the 32 packet slots and of the 64 memory slots, oldest first. [6, 7 | 05 R174 | none] -/
  pkts : List Crossing := []
  mems : List Crossing := []
  /-- Transfers waiting to enter. [- | 05 R174 | none] -/
  waitPkt : List Crossing := []
  waitMem : List Crossing := []
  deriving DecidableEq, Repr

/-- A packet that waits in Resolve for copies to be made: destination die and ports. A unicast packet behind a copy of its
ingress, egress, class and channel waits with it (03 R74): its spray set stands in `unicast`. -/
structure ReplWait where
  die : Nat
  id : Nat
  ports : List Nat
  unicast : Option (Option (Bool × Nat)) := none
  deriving DecidableEq, Repr

/-- Packet buffer, egress schedulers, spill, ring and replication (05, 09, 11). -/
structure Switch where
  /-- Buffered packets by packet number. [- | 05 R166 | none] -/
  pkt : Sparse PktRec := []
  /-- Next packet number. [MODEL'S OWN | - | 0] -/
  nextId : Nat := 0
  /-- Egress schedulers by port. [- | 11 R352 | empty] -/
  eg : Sparse EgPort := []
  /-- Scheduler settings in force; a write waits for the next refill. [- | 11 R363 | as restored] -/
  sched : Sparse Sched := []
  /-- Cells in use in the originated-packets pool of each port die. [13 each | 05 R166 | 0] -/
  orig : Sparse Nat := []
  /-- Cells in use in the Felt transit pool and the spill-return pool of each port die. [13, 14 each | 05 R166 | 0] -/
  transit : Sparse Nat := []
  spillRet : Sparse Nat := []
  /-- Bytes in the spill buffer, the highest since the last read, cycles without tokens; in this cycle a spill write or a
  read-back has stopped for want of tokens. [64, 64, 32, 1 | 05 R173 | 0] -/
  spillHeld : Nat := 0
  spillMax : Nat := 0
  spillDry : Word := 0
  spillShort : Bool := false
  /-- Spill parameters in force. [- | 05 R168 | as restored] -/
  spillCfg : SpillCfg := {}
  /-- Ring directions by 2 x die + direction. [- | 05 R174 | empty] -/
  ring : Sparse RingDir := []
  /-- Originated packets that wait for room in the originated-packets pool, by core die, a local copy with its port. [- | 05 R167 | none] -/
  origWait : Sparse (List (Pkt × Option Nat)) := []
  /-- Multicast copies that wait for room in a port die's transit pool, with the packets that may not pass them.
  [- | 09 R299, R300, 03 R74 | none] -/
  replWait : List ReplWait := []
  /-- Packets waiting for the unit of a service, oldest first. [64 for each Collier service | 03 R101 | empty] -/
  svc : List Delivery := []
  deriving DecidableEq, Repr

/-! ## Flow contexts -/

/-- States of a flow context (05 Table 05-5). -/
inductive FlowSt where
  | opened | closing | stale
  deriving DecidableEq, Repr

/-- A flow context in use (05 Table 05-5, 09 Table 09-11). -/
structure Flow where
  peer : Word
  flow : BitVec 24
  outbound : Bool
  st : FlowSt := .opened
  jtag : BitVec 16
  jgen : BitVec 8
  svc : BitVec 8
  ack : Word := 0
  limit : Word := 0
  next : Word := 0
  /-- Numbers from ACK on received (inbound) or acknowledged (outbound); MAP is its view. -/
  got : List Word := []
  last : Word := 0
  hts : Word := 0
  gseq : Word := 0
  win : BitVec 16 := 255
  /-- ACK at the last grant sent (05 R160), and the extended time of that grant. -/
  grantAck : Word := 0
  grantTime : Word64 := 0
  /-- Losses reported and not repeated: numbers found lost. -/
  lost : List Word := []
  /-- Outbound: unacknowledged numbers with the extended time of the last transmission and the interval to its resend deadline
  (05 R162, R183). -/
  sent : List (Word × Word64 × Interval) := []
  /-- Outbound: numbers resent, which ignore loss reports until the interval ends (05 R162). -/
  resent : List (Word × Interval) := []
  /-- Numbers due for resending. -/
  due : List Word := []
  /-- When the last packet was sent or received, for the idle deadline (05 R179). -/
  lastIv : Interval := { fabric := false, start := 0, len := 0 }
  closing : Option Interval := none
  /-- The cached context differs from the one in HBM (05 R181). -/
  changed : Bool := false
  /-- Service area of the broadcast service: object, receiver index, RMODE and the copy of the graft route (09 R329). For a
  rebuild shard flow: its rebuild context and its Quire slot (10 R345). For the in-band path: its core die. -/
  obj : Word := 0
  ridx : Nat := 0
  rmode : Nat := 0
  graft : BitVec 128 := 0
  deriving DecidableEq, Repr

/-- Flow contexts, their caches and timers (05). -/
structure Flows where
  /-- Contexts in use by index. [4,194,304 x 256 B | 05 R176 | all FREE] -/
  ctx : Sparse Flow := []
  /-- Cached indices of each core die, least recently used first. [32,768 each | 05 R181 | empty: DC 9] -/
  cached : Sparse (List Nat) := []
  /-- Cache misses since the last read, by core die. [32 each | 05 R184 | 0] -/
  misses : Sparse Word := []
  /-- Outbound keys not yet to be used again: peer, flow ID, and the interval from the flow's last packet (05 R164). [- | 05 R164 | none: DC 9] -/
  resting : List (Word × BitVec 24 × Interval) := []
  /-- Packets waiting for a context fetch, by core die, oldest first. [1,024 each | 05 R182 | empty] -/
  missq : Sparse (List Delivery) := []
  deriving DecidableEq, Repr

/-! ## Collectives and Vats -/

/-- The accumulator of one element (06 R195-R201). -/
structure Elem where
  /-- Window field F and base b. -/
  f : Int := 0
  base : Int := 0
  bv : Bool := false
  nan : Bool := false
  pinf : Bool := false
  ninf : Bool := false
  zneg : Bool := true
  /-- Long accumulator A, when ESC is 1. -/
  esc : Option Int := none
  /-- Max and Min: the current extreme as the element's bit pattern. -/
  ext : Option Word := none
  deriving DecidableEq, Repr

/-- Parts of a child's partial (07 R239, R643). -/
structure Parts where
  nparts : Nat
  got : List Nat := []
  excl : Nat := 0
  msr : Bool := false
  deriving DecidableEq, Repr

/-- A tile in flight (07). -/
structure Tile where
  /-- Slots whose bit is set. -/
  bits : List Nat := []
  parts : Sparse Parts := []
  /-- Element accumulators (Sum, Max, Min). -/
  elems : List Elem := []
  /-- XOR lanes and weighted lanes, one byte an element. -/
  xor : List Byte := []
  wxor : List Byte := []
  /-- EXCL and MSR of single-packet partials, by slot. -/
  msr : Sparse Bool := []
  /-- Interior: time of the last send and resends so far. -/
  sent : Option (Word64 × Nat) := none
  /-- Parity and rebuild: P and Q staged, shards waiting for acknowledgement. -/
  waiting : Bool := false
  /-- Interior, Max and Min: what a partial carries in a lane that nothing has reached, the same at each resend (log 32). -/
  fill : Option Word := none
  deriving DecidableEq, Repr

/-- The arithmetic descriptor (06 Table 06-3). -/
structure Arith where
  ifmt : BitVec 5 := 0
  ofmt : BitVec 5 := 0
  op : BitVec 3 := 0
  rmode : Bool := false
  side : Bool := false
  rint : Bool := false
  arev : BitVec 4 := 0
  rsv1 : BitVec 12 := 0
  nelem : BitVec 13 := 0
  rsv2 : BitVec 19 := 0
  scale : Word := 0
  rsv3 : BitVec 32 := 0
  seed : Word64 := 0
  deriving DecidableEq, Repr

/-- The context descriptor (07 Table 07-1). -/
structure CtxDesc where
  ctx : BitVec 14 := 0
  jtag : BitVec 16 := 0
  jgen : BitVec 8 := 0
  role0 : BitVec 2 := 0
  role1 : BitVec 2 := 0
  fpol : Bool := false
  tc : BitVec 3 := 0
  mgroup : BitVec 16 := 0
  w : BitVec 8 := 0
  nslot : BitVec 10 := 0
  nmem : BitVec 20 := 0
  ntiles : Word := 0
  up0 : Word := 0
  upm0 : BitVec 20 := 0
  up1 : Word := 0
  upm1 : BitVec 20 := 0
  tto : BitVec 16 := 0
  stall : BitVec 16 := 0
  /-- Every reserved field of the descriptor is 0. -/
  rsv0 : Bool := true
  arith : Arith := {}
  deriving DecidableEq, Repr

/-- A member slot (07 Table 07-2). -/
structure Member where
  gei : Word
  member : BitVec 20
  child : Bool
  t1 : Bool
  t0 : Bool
  below : BitVec 20
  rsv : Bool := true
  deriving DecidableEq, Repr

/-- Context states (07 Table 07-3) other than FREE. -/
inductive CtxSt where
  | active | complete | aborted | closing | stale
  deriving DecidableEq, Repr

/-- What a parity or rebuild context works on (10 R333, R344). -/
structure ParityUse where
  qslot : Nat
  rebuild : Bool
  gid : Nat
  node : Nat
  first : Nat
  count : Nat
  version : Word
  deriving DecidableEq, Repr

/-- A collective context (07). -/
structure Ctx where
  desc : CtxDesc
  members : List Member
  st : CtxSt := .active
  /-- Lowest incomplete tile in scope. -/
  low : Nat := 0
  /-- Tiles above L that have completed. -/
  ahead : List Nat := []
  done : Nat := 0
  cause : Word := 0
  excl : List Nat := []
  deckle : Word64
  badDeckle : Word64 := 0
  dup : Word64 := 0
  resent : Word64 := 0
  reset : Word64 := 0
  tiles : Sparse Tile := []
  /-- Result store: payload and MSR of completed tiles. -/
  results : Sparse (List Byte × Bool) := []
  /-- Tiles whose result carried MSR = 1 (08 R286). -/
  marked : List Nat := []
  /-- Last accepted base header of each slot (R254). -/
  header : Sparse (List Byte) := []
  /-- Ingress port of that packet (02 Table 02-10); 0 for one that the module originated. -/
  headerPort : Sparse Nat := []
  /-- Free-running count at which L last moved. -/
  moved : Nat := 0
  closing : Option Interval := none
  /-- Vat SRAM reserved in bytes, and the escape reserve in records. -/
  sram : Nat := 0
  escape : Nat := 0
  /-- Graph node that opened the context. -/
  opener : Option (Nat × Nat) := none
  parity : Option ParityUse := none
  deriving DecidableEq, Repr

/-- A job flush whose reclaim has not ended (07 R258). -/
structure Flush where
  jtag : BitVec 16
  path : Path
  ctxs : Nat
  flows : Nat
  deactivate : Bool
  deriving DecidableEq, Repr

/-- An abort notice that waits for a token (07 R253): slot GEI, code, time of the abort, ingress port and bytes of the echoed
header. -/
structure AbortNotice where
  gei : Word
  code : Word
  time : Word
  port : Nat
  head : List Byte
  deriving DecidableEq, Repr

/-- Collective contexts and the Vats (06, 07). -/
structure Coll where
  /-- Contexts that are not FREE, by context ID. [16,384 | 07 R229 | all FREE] -/
  ctx : Sparse Ctx := []
  /-- Contributions waiting for an escape record, by core die. [- | 06 R202 | none] -/
  waiting : Sparse (List Delivery) := []
  /-- Control cycles of the check failures of each Vat, by 8 x core die + Vat, newest first. [- | 06 R217 | none] -/
  fails : Sparse (List Nat) := []
  /-- Vats out of service. [32 | 06 R217 | none] -/
  vatOut : List Nat := []
  /-- Elements counted as saturated, by core die. [MODEL'S OWN place and width, log 131 | 06 R207, R208 | 0] -/
  saturated : Sparse Nat := []
  /-- Contributions added, escapes, tiles reset, by core die. [64 each | 06 R220 | 0] -/
  added : Sparse Word64 := []
  escapes : Sparse Word64 := []
  tileResets : Sparse Word64 := []
  /-- Abort notices that wait for tokens, by core die. [- | 07 R253 | none] -/
  notices : Sparse (List AbortNotice) := []
  /-- Flushes whose reclaim runs. [- | 07 R258 | none] -/
  flushes : List Flush := []
  deriving DecidableEq, Repr

/-! ## Graphs -/

/-- Node states (08 Table 08-9). -/
inductive NodeSt where
  | pending | ready | running | done | failed | cancelled
  deriving DecidableEq, Repr

/-- Pools that nodes take from on a core die (08 Table 08-8). -/
inductive NodePool where
  | units | sram | escape | flows | cells
  deriving DecidableEq, Repr

/-- A node of a graph (08 Table 08-2), with its status (Table 08-13). -/
structure Node where
  kind : BitVec 4
  pclass : BitVec 3
  npred : BitVec 4
  edge : BitVec 8
  preds : List (BitVec 16)
  args : BitVec 352
  rsv : BitVec 13
  st : NodeSt := .pending
  partialDone : Bool := false
  cause : Word := 0
  tready : Word := 0
  tstart : Word := 0
  tdone : Word := 0
  /-- Extended time of READY and the control cycle of it. -/
  readyExt : Word64 := 0
  readyCycle : Nat := 0
  /-- Barrier participants recorded. -/
  arrived : List Nat := []
  /-- MULTICAST: number of the packet sent. -/
  pkt : Option Nat := none
  /-- Pools that it holds until it is admitted (R279). -/
  holds : List NodePool := []
  deriving DecidableEq, Repr

/-- Graph states (08 Table 08-10). LOADING is held in `loads`. -/
inductive GraphSt where
  | running | done | failed | cancelled | stale
  deriving DecidableEq, Repr

/-- A resident graph (08). -/
structure Graph where
  jtag : BitVec 16
  jgen : BitVec 8
  cookie : Word
  endDest : Word
  endIrq : Bool
  endVec : Nat
  autoRel : Bool
  waitLim : Nat
  nodes : List Node
  data : List Byte
  bytes : Nat
  st : GraphSt := .running
  cause : Word := 0
  failNode : Nat := 0
  /-- Submission order. -/
  order : Nat := 0
  ended : Option Interval := none
  deriving DecidableEq, Repr

/-- An in-band staging (08 R272). -/
structure Staging where
  core : Nat
  sgei : Word
  cookie : Word
  jtag : BitVec 16
  /-- A chunk came under another job tag. -/
  mixed : Bool := false
  /-- Bytes written, by offset. -/
  bytes : List Host.Cell := []
  since : Nat := 0
  deriving DecidableEq, Repr

/-- A GRAPH_SUBMIT that pulls or checks its image (08 R287 LOADING). -/
structure GraphLoad where
  path : Path
  handle : Word
  length : Nat
  deriving DecidableEq, Repr

/-- Collective graphs (08). -/
structure Graphs where
  /-- Graphs by GID. [1,024 | 08 R274 | all FREE] -/
  graph : Sparse Graph := []
  stagings : List Staging := []
  loads : List GraphLoad := []
  /-- Graphs submitted so far. [MODEL'S OWN | 08 R278 | 0] -/
  order : Nat := 0
  /-- Graph units left on each core die in this cycle. [8 each | 17 R506 | 0] -/
  units : Sparse Nat := []
  deriving DecidableEq, Repr

/-! ## Broadcast, vault, circuit bypass -/

/-- Receiver modes (09 Table 09-6). -/
inductive RMode where
  | mcast | grafted | pull | done | unreachable | pruned
  deriving DecidableEq, Repr

/-- A receiver of a broadcast object (09 Table 09-3). -/
structure Receiver where
  gei : Word
  start : Word
  port : Port
  graft : BitVec 128
  mode : RMode
  /-- The mode it was served in before DONE, UNREACHABLE or PRUNED. -/
  ack : Word
  /-- Index of its outbound flow context. -/
  flow : Option Nat := none
  /-- Next segment for unicast. -/
  next : Word
  /-- Free-running count at which ACK last changed. -/
  moved : Nat := 0
  isPull : Bool := false
  deriving DecidableEq, Repr

/-- Object states (09 Table 09-5) other than FREE. -/
inductive BcSt where
  | active | complete | failed | closing | stale
  deriving DecidableEq, Repr

/-- A broadcast object (09). -/
structure BcObj where
  obj : Word
  jtag : BitVec 16
  jgen : BitVec 8
  flow : BitVec 24
  mgroup : BitVec 16
  tc : BitVec 3
  src : Bool
  size : Nat
  alt1 : Word
  alt2 : Word
  reachTo : Nat
  resumeTo : Nat
  st : BcSt := .active
  incomplete : Bool := false
  cause : Word := 0
  /-- Fill point F, lowest segment not yet multicast, send limit, segments multicast. -/
  fill : Nat := 0
  mnext : Nat := 0
  sendLimit : Nat := 0
  sent : Nat := 0
  segs : Sparse (List Byte) := []
  receivers : List Receiver
  /-- Upstream: GEI in use, its inbound context, alternates tried, waiting for BC_PULL_ACK since. -/
  up : Word := 0
  inflow : Option Nat := none
  tried : Nat := 0
  pullSince : Option Nat := none
  /-- Free-running count at which F last moved. -/
  moved : Nat := 0
  closing : Option Interval := none
  /-- Turn among unicast receivers. -/
  turn : Nat := 0
  deriving DecidableEq, Repr

/-- A BC_LOAD that is BUSY: the segments of its region not yet copied (09 R307, R324). -/
structure BcJob where
  path : Path
  jtag : BitVec 16
  obj : Word
  next : Nat
  stop : Nat
  data : List Byte
  deriving DecidableEq, Repr

/-- Broadcast cache (09). -/
structure Bc where
  /-- Objects that are not FREE, oldest first. [4,096 | 09 R302 | all FREE] -/
  objs : List BcObj := []
  /-- QUOTA and WEIGHT of each tag; absent = 0 and 8. [32, 4 each | 09 R323 | 0, 8] -/
  quota : Sparse Nat := []
  weight : Sparse Nat := []
  /-- BC_LOAD commands that wait for tokens, oldest first. [- | 09 R324 | none] -/
  loads : List BcJob := []
  /-- Turn among the objects of each core die. [- | 09 R314 | 0: DC 9] -/
  turn : Sparse Nat := []
  deriving DecidableEq, Repr

/-- Quire slot states (10 R351) other than FREE. -/
inductive QSt where
  | ready | updating | rebuilding | degraded | lost
  deriving DecidableEq, Repr

/-- P and Q of one bank of a stripe, with its version tag (10 R335). -/
structure Bank where
  p : List Byte
  q : List Byte
  version : Word
  deriving DecidableEq, Repr

/-- A running PARITY_UPDATE node: its graph, node and stripes (10 R339). -/
structure QUpdate where
  gid : Nat
  node : Nat
  first : Nat
  count : Nat
  deriving DecidableEq, Repr

/-- A running rebuild: graph, node, context, lost indices, replacements and their flow contexts (10 R344). -/
structure QRebuild where
  gid : Nat
  node : Nat
  ctx : Nat
  lost : List Nat
  dests : List Word
  flows : List Nat
  deriving DecidableEq, Repr

/-- A Quire slot (10). -/
structure Quire where
  jtag : BitVec 16
  members : List Word
  nstripe : Nat
  st : QSt := .ready
  valid : Bool := false
  lastGen : BitVec 8 := 0
  cv : Word := 0
  /-- Current and shadow banks by stripe; absent = never written. -/
  current : Sparse Bank := []
  shadow : Sparse Bank := []
  /-- Stripes staged at CV + 1. -/
  staged : List Nat := []
  lost : List Nat := []
  bad : List Nat := []
  cause : Word := 0
  updates : List QUpdate := []
  rebuild : Option QRebuild := none
  /-- Rebuilt stripes waiting for acknowledgement, by stripe: a shard for each replacement. -/
  shards : Sparse (List (List Byte)) := []
  /-- Stripes acknowledged by each replacement. -/
  acked : List Word := []
  /-- The slot is freed once its running nodes have ended (10 R350). -/
  freeWhenIdle : Bool := false
  deriving DecidableEq, Repr

/-- Parity vault (10). -/
structure Vault where
  /-- Slots that are not FREE. [4,096 | 10 R330 | all FREE] -/
  slot : Sparse Quire := []
  deriving DecidableEq, Repr

/-- An entry of a circuit plan (12 Table 12-4) with its end. -/
structure PlanEntry where
  port : Port
  dir : BitVec 2
  peer : PeerId
  complete : Bool := false
  failed : Bool := false
  deriving DecidableEq, Repr

/-- Plan states (12 Table 12-9). -/
inductive PlanSt where
  | held | pending | draining | moving | rejoining | done | failed | missed | cancelled
  deriving DecidableEq, Repr

/-- A circuit plan (12). -/
structure Plan where
  id : Word
  /-- Its place among the plans accepted since the full reset, which tells it from a kept one of the same PLANID. -/
  num : Nat := 0
  ws : Word
  wd : Nat
  lead : Nat
  epoch : Bool
  reflip : Nat
  rejoin : Nat
  entries : List PlanEntry
  st : PlanSt
  /-- Extended time of WS. -/
  wsExt : Word64 := 0
  cause : Word := 0
  tdrain : Word := 0
  treflip : Word := 0
  reflipRun : Bool := false
  kept : Bool := false
  limitRun : Bool := false
  deriving DecidableEq, Repr

/-- Circuit bypass (12). -/
structure Ocs where
  /-- Demand matrix: bytes by 64 x row + column; snapshot likewise. [4,096 x 64 each | 12 R378, R379 | 0] -/
  matrix : Sparse Nat := []
  snapshot : Sparse Nat := []
  /-- SNAP and SNAPTIME. [32, 32 | 12 R380 | 0] -/
  snap : Word := 0
  snapTime : Word := 0
  /-- Bucket assignment and settings in force until the next close. [- | 12 R377, R380 | as restored] -/
  bucket : Sparse (BitVec 6) := []
  exp : Nat := 6
  dest : Word := 0
  tc : BitVec 3 := 6
  /-- Plans, oldest first, ended ones included. [8 not ended | 12 R385, R395 | none] -/
  plans : List Plan := []
  /-- Plans accepted since the full reset. [MODEL'S OWN | - | 0] -/
  accepted : Nat := 0
  deriving DecidableEq, Repr

/-! ## Memory, Felt, Hearth -/

/-- An HBM stack (14 Table 14-6). -/
structure Stack where
  /-- RATE in 0.1 Gb/s. [32 | 14 R451 | 0] -/
  rate : Nat := 0
  /-- TEMP in 1/256 °C. [32 | 14 R451 | 0] -/
  temp : Int := 0
  /-- CE and UE. [64 each | 14 R451 | 0] -/
  ce : Word64 := 0
  ue : Word64 := 0
  /-- PATROL passes. [32 | 14 R451 | 0] -/
  patrol : Word := 0
  /-- Memory requests that the ring has sunk into its request queue and that it has not yet served. [- | 05 R175 | 0: DC 9] -/
  requests : Nat := 0
  /-- Uncorrectable units in this control cycle. [- | 14 R447 | 0: DC 9] -/
  cycleUe : Nat := 0
  /-- Correctable errors of each row in this patrol period. [- | 14 R440 | 0: DC 9] -/
  rowCe : Sparse Nat := []
  /-- GZ_FAULT_HBM_SPARE has been reported. [1 | 14 R441 | 0: DC 9] -/
  spareReported : Bool := false
  deriving DecidableEq, Repr

/-- HBM and SRAM (14). -/
structure Mem where
  /-- Stacks by number. [20 | 14 R451 | Table 14-6] -/
  stack : Sparse Stack := []
  /-- Profile whose allocation is in force: 0-3, or 255 for stack-loss. [8 | 14 R434 | 0: the profile applied at Kindling] -/
  alloc : Nat := 0
  /-- The remapping of R448 runs. [1 | 14 R448 | 0] -/
  remapping : Bool := false
  /-- Poisoned units by address / 256, each with the item that it holds. [- | 14 R437 | none: DC 9] -/
  poisoned : Sparse HbmItem := []
  /-- The patrol: the next unit of the pass, and the free-running count at the start of the patrol period. [32, 64 | 14 R439 | 0, 0: DC 9] -/
  patrolNext : Nat := 0
  patrolStart : Nat := 0
  /-- Table items damaged in the SRAM of a port die: die, item, and the free-running count by which it is loaded again. [- | 14 R443 | none] -/
  damaged : List (Nat × TableItem × Nat) := []
  /-- Memory settings in force. [- | 14 R450 | as restored] -/
  cfg : MemCfg := {}
  /-- Bank pools without a spare: 0-15 buffers, 16 + 8 x core die + Vat. [48 | 14 R445 | none] -/
  noSpare : List Nat := []
  /-- Next bank to test in each pool, and the bank that is the spare (64 or 48 at first). [- | 14 R444 | 0: DC 9] -/
  nextBank : Sparse Nat := []
  /-- Free-running count of the last bank test of each pool. [MODEL'S OWN width | 14 R444 | 0] -/
  rotated : Sparse Nat := []
  spareBank : Sparse Nat := []
  deriving DecidableEq, Repr

/-- Felt link states (15 Table 15-9). -/
inductive LinkSt where
  | down | training | agreeing | full | reduced
  deriving DecidableEq, Repr

/-- A transfer at the sender of a link (15 R455): its destination die, its route stage on this link, and for a ring hop the
exit die and direction; the bytes still to send, the transfer header first; and the whole of it, for a link that goes down (15
R466). -/
structure Xfer where
  kind : Traffic
  dst : Nat
  stage : Nat
  exit : Nat
  up : Bool
  bytes : List Byte
  whole : List Byte
  /-- Its first flit has gone. -/
  begun : Bool := false
  /-- The buffer that it leaves with its last flit: link, direction and stage (15 R461). -/
  buf : Option (Nat × Bool × Nat) := none
  deriving DecidableEq, Repr

/-- A flit in the retry buffer: SEQ, FTYPE, payload and the lane module that carried it (15 R457, R458). -/
structure SentFlit where
  seq : BitVec 12
  ftype : Nat
  payload : List Byte
  lmod : Nat
  deriving DecidableEq, Repr

/-- One direction of a Felt link as its sender and receiver hold it (15 R455-R461). -/
structure FeltDir where
  /-- Next SEQ to send; transfers waiting, oldest first; the retry buffer, oldest first. [12; -; 256 flits | 15 R457 | 0, empty: DC 9] -/
  txSeq : BitVec 12 := 0
  queue : List Xfer := []
  retry : List SentFlit := []
  /-- Transfers wholly sent whose last flit is not acknowledged, with its SEQ, as they were before they were sent. [- | 15 R466 | none: DC 9] -/
  sent : List (BitVec 12 × Xfer) := []
  /-- Transfers that hold a buffer of the receiver, by route stage 0-5. [- | 15 R461 | 0: DC 9] -/
  held : List Nat := [0, 0, 0, 0, 0, 0]
  /-- The lane module that carried the last flit, and the flits sent since a slot for memory traffic. [5, 4 | 15 R456, 01 R22 | 31, 0: DC 9] -/
  rr : Nat := 31
  slot : Nat := 0
  /-- SEQ expected next by the receiver; a NAK is owed. [12, 1 | 15 R457 | 0, 0: DC 9] -/
  rxNext : BitVec 12 := 0
  nak : Bool := false
  /-- Flits that came early on other modules, by SEQ. [- | 15 R456 | none: DC 9] -/
  early : List (BitVec 12 × List Byte) := []
  /-- Bytes received of the unfinished transfer of each flit type. [- | 15 R456 | none: DC 9] -/
  parts : Sparse (List Byte) := []
  deriving DecidableEq, Repr

/-- A Felt module test (15 R469). -/
structure FeltTest where
  path : Path
  lmod : Nat
  start : Nat
  duration : Nat
  deriving DecidableEq, Repr

/-- A Felt link (15). -/
structure FeltLink where
  /-- STATE. [3 | 15 R471 | 0 down] -/
  st : LinkSt := .down
  /-- The two directions: toward the far end, toward the near end. [- | 15 R455 | 0] -/
  toFar : FeltDir := {}
  toNear : FeltDir := {}
  /-- RETRY. [64 | 15 R471 | 0] -/
  retry : Word64 := 0
  /-- CAUSE. [32 | 15 R471 | 0] -/
  cause : Word := 0
  /-- Paused lane modules, and the consecutive CRC failures of each by 2 x module + direction. [- | 15 R458 | none: DC 9] -/
  paused : List Nat := []
  crcFails : Sparse Nat := []
  /-- Modules cleared until a full reset. [- | 15 R467 | none] -/
  cleared : List Nat := []
  /-- Agreement: records proposed by each end, confirms, start of agreement. [- | 15 R464 | none] -/
  propNear : Option FeltRec := none
  propFar : Option FeltRec := none
  confNear : Option FeltRec := none
  confFar : Option FeltRec := none
  agreeStart : Option Nat := none
  /-- A link declared down: the free-running count of its next training. [- | 15 R465 | none: DC 9] -/
  retryAt : Option Nat := none
  /-- No record has been agreed since the full reset, so that what earlier records say does not count. [1 | 15 R467 | 1] -/
  fresh : Bool := true
  /-- GZ_FAULT_FELT_LINK reported. [1 | 15 R465 | 0: DC 9] -/
  reported : Bool := false
  test : Option FeltTest := none
  /-- FELT_RETRAIN in progress, by path. [- | 15 R469 | none] -/
  retrain : List Path := []
  /-- Free-running count of each lane module's last recentring. [- | 15 R468 | 0: DC 9] -/
  recentred : Sparse Nat := []
  deriving DecidableEq, Repr

/-- The Felt (15). -/
structure Felt where
  /-- Links by number. [38 | 15 R453 | down] -/
  link : Sparse FeltLink := []
  /-- Route fences not yet returned: source, destination, and the links of the old route that each took. [- | 15 R462 | none] -/
  fences : List (Nat × Nat × List Nat) := []
  /-- Transfers held behind them, and memory transfers for which no route is in service, oldest first. [- | 15 R462, 21 R613 | none] -/
  held : List Crossing := []
  deriving DecidableEq, Repr

/-- The Hearth (17). -/
structure Hearth where
  /-- LIMIT L, PIN, VIN, IIN, HBMTOK, FACBUDGET, PTHERM. [32 each | 17 R520 | 0] -/
  limit : Int := 0
  pin : Nat := 0
  vin : Nat := 0
  iin : Nat := 0
  hbmTok : Nat := 0
  facBudget : Nat := 0
  ptherm : Int := 0
  /-- FLAGS [1:0]: limit in force. [2 | 17 R520 | 0] -/
  limitBy : Nat := 0
  /-- A limit has been computed since Kindling. [MODEL'S OWN | 17 R504 | 0] -/
  limited : Bool := false
  /-- Object 0x6001, LIMIT to PTHERM, as it stood at the last control cycle. [9 × 32 | 17 R520 | 0] -/
  status : List Word := List.replicate 9 0
  /-- Facility budget received; stale flag; stale reported; free-running count of the last one. [- | 17 R501 | none] -/
  facSeen : Bool := false
  stale : Bool := false
  facLast : Nat := 0
  /-- Cycle ran on the free-running count. [1 | 17 R508 | 0] -/
  freeCycle : Bool := false
  /-- Units that grant zero under R30, and the free-running count of the last grant. [- | 01 R30 | none, 0] -/
  noGrant : List Nat := []
  lastGrant : Nat := 0
  /-- Vat level of each core die, 0-256. [9 each | 17 R520 | 0] -/
  vatLevel : List Nat := [0, 0, 0, 0]
  /-- Operating point of each core die; cycles below 90 °C. [2 each | 17 R499, R509 | C0: DC 34] -/
  opPoint : List Nat := [0, 0, 0, 0]
  coolCycles : List Nat := [0, 0, 0, 0]
  /-- HBM tokens left in this cycle, in bytes: the escape floor of each core die, escapes above it, flow-context fetch and
  write-back. [- | 17 R505 | the floor of 64 tokens each, which is always granted; 0; 0] -/
  tokFloor : List Nat := [4194304, 4194304, 4194304, 4194304]
  tokEsc : Nat := 0
  tokFlow : Nat := 0
  /-- The same: spill read-back, spill write, broadcast, parity. [- | 17 R505 | 0] -/
  tokRead : Nat := 0
  tokSpill : Nat := 0
  tokBc : Nat := 0
  tokPar : Nat := 0
  /-- Broadcast tokens left for each (core die, tag). [- | 09 R324 | none] -/
  tokTag : Sparse Nat := []
  /-- Excess of the measured input power over L in the last cycle, W at the rails. [- | 17 R504 | 0] -/
  excess : Nat := 0
  fwd : Nat := 0
  /-- Junction temperatures, rail powers and rails of units 0-19 in 1/256 °C, W, mV. [- | 17 R521 | 0] -/
  tj : Sparse Int := []
  prail : Sparse Nat := []
  vrail : Sparse Nat := []
  /-- TINLET, TOUTLET, FLOW. [32 each | 17 R521 | 0] -/
  tinlet : Int := 0
  toutlet : Int := 0
  flow : Nat := 0
  /-- Failed sensors. [- | 17 R511 | none] -/
  sensorFailed : List Sensor := []
  /-- Warn conditions reported: sensor and, once inside again, the free-running count since when. [- | 17 R509 | none] -/
  warned : List (Sensor × Option Nat) := []
  /-- Input dips that ended in time (the rule gives the count no object). [32 | 17 R495 | 0: DC 9] -/
  dips : Word := 0
  /-- INFORCE and PENDING. [2, 8 | 17 R522 | 0, 0xFF] -/
  inForce : Nat := 0
  pendingProfile : Nat := 255
  /-- A change of the profile in force waits for the next control cycle. [1 | 17 R516 | 0] -/
  change : Bool := false
  /-- Hearth parameters in force. [- | 17 R516 | Balanced] -/
  cur : Profile := {}
  deriving DecidableEq, Repr

/-! ## Security -/

/-- A firmware image slot (19 Table 19-1, Table 19-6). -/
structure Image where
  valid : Bool := false
  fwver : Word := 0
  svn : Word := 0
  keyIdx : BitVec 4 := 0
  revoke : BitVec 4 := 0
  /-- Digests of the manifest, payload and die firmware that the boot extends. -/
  manifest : List Byte := []
  pdigest : List Byte := []
  diesDigest : List Byte := []
  deriving DecidableEq, Repr

/-- A copy of the floor record; `ok`: its KMAC256 tag under the floor key verifies (19 R563; a torn copy's does not). -/
structure FloorCopy where
  floor : Word := 0
  revoked : BitVec 4 := 0
  ok : Bool := true
  deriving DecidableEq, Repr

/-- An FW_STAGE in progress (19 R572). -/
structure StageJob where
  path : Path
  handle : Word
  bytes : List Byte
  deriving DecidableEq, Repr

/-- Security state (19): flash records, measurement registers, the stage in progress. -/
structure Sec where
  /-- Image slots A and B. [- | 19 R578, 22 R641 | A valid with FWVER 0 and SVN 0: DC 11; B invalid] -/
  imgA : Image := { valid := true }
  imgB : Image := {}
  /-- Running image (0 A, 1 B). [1 | 18 R551 | A: DC 11] -/
  running : Bool := false
  /-- NEXT, TRIAL, failed-trial count; the running image is on trial. [1, 1, 2, 1 | 19 R578 | A, 0, 0, 0: DC 11] -/
  next : Bool := false
  trial : Bool := false
  fails : Nat := 0
  onTrial : Bool := false
  /-- The two copies of the floor record in flash. [2 x (32 + 4 + 256) | 19 R563 | FLOOR 0, REVOKED 0, verifying: DC 11] -/
  floorA : FloorCopy := {}
  floorB : FloorCopy := {}
  /-- CD0 and CD2 have unwrapped the floor key at this boot. [1 each | 19 R563 | 1, 1: DC 11] -/
  key0 : Bool := true
  key2 : Bool := true
  /-- Identities of CD0 and CD2 are good. [1 each | 19 R568 | 1: DC 11] -/
  id0 : Bool := true
  id2 : Bool := true
  /-- MR0-MR7, 32 B each; absent = zeros. [8 x 256 | 19 R564 | 0] -/
  mr : Sparse (List Byte) := []
  stage : Option StageJob := none
  deriving DecidableEq, Repr

/-! ## Counters -/

/-- A unit's programmable counters (20 R584, R585). -/
structure UnitCtr where
  /-- CYCLE in tenths of a clock up to the free-running count `mark`. -/
  tenths : Nat := 0
  mark : Nat := 0
  pc : Sparse Word := []
  cfg : Sparse Word := []
  reload : Sparse Word := []
  resets : Word := 0
  /-- Counters whose overflow has not yet taken its packet sample (R593). -/
  owed : List Nat := []
  deriving DecidableEq, Repr

/-- A sample record (20 Table 20-6). -/
structure Sample where
  num : Word64
  time : Word
  unit : BitVec 8
  port : Port
  event : BitVec 8
  ctr : BitVec 3
  header : List Byte
  deriving DecidableEq, Repr

/-- A counter action (20 R588, R589). -/
inductive CtrAction where
  | freeze | unfreeze | snapshot | clear | snapFreeze
  /-- With the path that asked for it, for its log record (R591). -/
  | clearSat (path : Path)
  deriving DecidableEq, Repr

/-- Counters, samples and log limits (20). -/
structure Counters where
  /-- Fixed counters of the 0x9000 range, by family, selector and item; absent = 0. [64 each | 20 R587 | 0] -/
  fixed : Sparse Word64 := []
  /-- Snapshot views of the fixed counters. [64 each | 20 R590 | 0] -/
  fixedSnap : Sparse Word64 := []
  /-- Unit counters by unit number, and their snapshot (0x9002). [- | 20 R585 | 0] -/
  unit : Sparse UnitCtr := []
  unitSnap : Sparse UnitCtr := []
  /-- STATE: frozen, last snapshot on the free-running count; ATTIME; ATACT; SNAPNUM; SNAPTIME. [1, 1, 32, 2, 32, 32 | 20 R588 | 0] -/
  frozen : Bool := false
  snapFree : Bool := false
  atTime : Word := 0
  atAct : BitVec 2 := 0
  armed : Bool := false
  /-- Extended time of ATTIME as it was armed (R474). [64 | 20 R592 | 0] -/
  atExt : Word64 := 0
  snapNum : Word := 0
  snapTime : Word := 0
  /-- CTRL actions accepted and waiting for their boundary. [- | 20 R589 | none] -/
  actions : List (CtrAction × Word64) := []
  /-- Sample buffer, oldest first; next NUM; OVERWRITTEN. [256 x 48 B, 64, 64 | 20 R594 | empty, 0, 0] -/
  samples : List Sample := []
  sampleNext : Word64 := 0
  overwritten : Word64 := 0
  /-- WEND and WFLAGS; WEXP in force. [32, 2, 4 | 20 R596 | 0, 0, as restored] -/
  wend : Word := 0
  wflags : BitVec 2 := 0
  wexp : Nat := 3
  /-- Log records written in this control cycle; LOSTREC; MSI-X vector 2 raised in it. [-, 64, 1 | 20 R600, R603 | 0] -/
  cycleLogs : Nat := 0
  lostRec : Word64 := 0
  /-- Pairs of path and code logged in this control cycle. [- | 18 R550 | none] -/
  reqLogged : List (Nat × Word) := []
  deriving DecidableEq, Repr

/-- Free values that the model holds (no part of the spec's state). -/
structure Free where
  /-- Number of the next free draw. MODEL'S OWN; reset 0 (DC 5). -/
  counter : Nat := 0
  /-- Pipeline of a port die that originated packets enter (03 R73 names no pipeline). MODEL'S OWN; reset 0 (DC 5). -/
  origPipe : BitVec 2 := 0
  /-- Bytes one journal record takes (18 R554 gives no lengths). MODEL'S OWN; reset 32 (DC 5). -/
  recBytes : Nat := 32
  deriving DecidableEq, Repr

/-- The byte memories that commands address (18 R536, R545). -/
structure Stores where
  /-- BAR2 staging window, 16 MiB; an unlisted byte reads 0. [16 MiB | 18 R536 | 0: DC 8] -/
  bar2 : List Host.Cell := []
  /-- Staging of each path in each era (`stagingKey`), 16 MiB each; an unlisted byte reads 0, and only the present era is
  read or written. [16 MiB each | 18 R545 | 0] -/
  staging : Sparse (List Host.Cell) := []
  deriving DecidableEq, Repr

/-- Everything the module holds but the byte memories and the queue. -/
structure Sys where
  /-- What left the module, oldest first. [MODEL'S OWN | - | empty] -/
  out : List Output := []
  free : Free := {}
  clk : Clock := {}
  boot : Boot := {}
  /-- Live values of everything the journal keeps. [- | 18 R554 | the defaults] -/
  nv : Persist := {}
  jr : Journal := {}
  mg : Mgmt := {}
  tab : Tables := {}
  fwd : Fwd := {}
  ports : Ports := {}
  sw : Switch := {}
  flows : Flows := {}
  coll : Coll := {}
  graphs : Graphs := {}
  bc : Bc := {}
  vault : Vault := {}
  ocs : Ocs := {}
  mem : Mem := {}
  felt : Felt := {}
  hearth : Hearth := {}
  sec : Sec := {}
  cnt : Counters := {}
  deriving DecidableEq, Repr

/-- The state of the module. -/
structure State where
  /-- Commands that wait, first in first out. [MODEL'S OWN | - | empty] -/
  pending : List Instr := []
  stores : Stores := {}
  sys : Sys := {}
  deriving DecidableEq, Repr

/-- The canonical form of a byte memory whose unlisted bytes read 0: addresses strictly rise and no
entry is 0. -/
def Memory.wf : List Host.Cell → Bool
  | [] => true
  | [(_, b)] => b != 0
  | (a, b) :: (a', b') :: rest => b != 0 && decide (a < a') && Memory.wf ((a', b') :: rest)

/-- The module right after the release of reset: Kindling in PHASE 0x1, every field at its default. -/
def State.reset : State := {}

end Sys2Proof.Machine
end

