-- ==== Sys2Proof/Machine/Bits.lean ====
section
/-! DEFINITION. Sparse tables, byte order, CRC-32C and the mixing function. -/

namespace Sys2Proof.Machine

/-! ## Sparse tables -/

/-- The value at key `k`, if it is listed. -/
def get? {α : Type} : Sparse α → Nat → Option α
  | [], _ => none
  | (k, v) :: r, i => if k = i then some v else get? r i

/-- The value at key `k`, or `d` where it is not listed. -/
def getD {α : Type} (t : Sparse α) (k : Nat) (d : α) : α := (get? t k).getD d

/-- `t` with key `k` at `v`; the keys keep rising. -/
def put {α : Type} : Sparse α → Nat → α → Sparse α
  | [], i, v => [(i, v)]
  | (k, w) :: r, i, v =>
    if i < k then (i, v) :: (k, w) :: r else if k = i then (i, v) :: r else (k, w) :: put r i v

/-- `t` without key `k`. -/
def del {α : Type} (t : Sparse α) (k : Nat) : Sparse α := t.filter (fun p => p.1 != k)

/-- `t` with the value at `k` (or `d` where absent) put through `f`. -/
def modify {α : Type} (t : Sparse α) (k : Nat) (d : α) (f : α → α) : Sparse α := put t k (f (getD t k d))

/-- `t` with the value at `k` put through `f`; `t` itself where `k` is absent. -/
def update {α : Type} (t : Sparse α) (k : Nat) (f : α → α) : Sparse α :=
  match get? t k with
  | none => t
  | some v => put t k (f v)

/-- The entry of the list at `i`, or `d`. -/
def nth {α : Type} (l : List α) (i : Nat) (d : α) : α := (l[i]?).getD d

/-- `l` with entry `i` replaced by `v`; `l` itself where it has no entry `i`. -/
def setNth {α : Type} : List α → Nat → α → List α
  | [], _, _ => []
  | _ :: r, 0, v => v :: r
  | x :: r, i + 1, v => x :: setNth r i v

/-- `l` with entry `i` put through `f`. -/
def modNth {α : Type} : List α → Nat → (α → α) → List α
  | [], _, _ => []
  | x :: r, 0, f => f x :: r
  | x :: r, i + 1, f => x :: modNth r i f

/-- The least number below `n` from `i` up that satisfies `p`. -/
def firstFrom (p : Nat → Bool) : Nat → Nat → Option Nat
  | _, 0 => none
  | i, n + 1 => if p i then some i else firstFrom p (i + 1) n

/-- The lowest key below `n` that is not listed. -/
def lowestFree {α : Type} (t : Sparse α) (n : Nat) : Option Nat :=
  let rec go : Sparse α → Nat → Nat
    | [], i => i
    | (k, _) :: r, i => if k = i then go r (i + 1) else i
  let i := go t 0
  if i < n then some i else none

/-! ## Byte order -/

/-- Big-endian number of a byte list (00 R10). -/
def be (l : List Byte) : Nat := l.foldl (fun a b => a * 256 + b.toNat) 0

/-- `n` bytes of `w`, big-endian. -/
def toBe : Nat → Nat → List Byte
  | 0, _ => []
  | n + 1, w => toBe n (w / 256) ++ [BitVec.ofNat 8 w]

/-- Little-endian number of a byte list. -/
def le (l : List Byte) : Nat := l.foldr (fun b a => a * 256 + b.toNat) 0

/-- `n` bytes of `w`, little-endian. -/
def toLe : Nat → Nat → List Byte
  | 0, _ => []
  | n + 1, w => BitVec.ofNat 8 w :: toLe n (w / 256)

/-- Bytes `i` to `i + n - 1` of `l`; bytes past its end are 0. -/
def bytesAt (l : List Byte) (i n : Nat) : List Byte :=
  let t := (l.drop i).take n
  t ++ List.replicate (n - t.length) 0

/-- Big-endian number in `n` bytes at `i`. -/
def beAt (l : List Byte) (i n : Nat) : Nat := be (bytesAt l i n)

/-- 32-bit big-endian word at byte `i`. -/
def wordAt (l : List Byte) (i : Nat) : Word := BitVec.ofNat 32 (beAt l i 4)

/-- Bits `hi` down to `lo` of a number. -/
def bits (x hi lo : Nat) : Nat := (x / 2 ^ lo) % 2 ^ (hi + 1 - lo)

/-- Bit `i` of a number. -/
def bit (x i : Nat) : Bool := x.testBit i

/-- 1 for true, 0 for false. -/
def b2n (b : Bool) : Nat := if b then 1 else 0

/-- Field `hi`..`lo` of a word as a number. -/
def fld (w : Word) (hi lo : Nat) : Nat := bits w.toNat hi lo

/-- A list of 32-bit words as big-endian bytes. -/
def wordsToBytes (l : List Word) : List Byte := l.flatMap (fun w => toBe 4 w.toNat)

/-- Big-endian 32-bit words of a byte list whose length is a multiple of 4. -/
def bytesToWords (l : List Byte) : List Word := (List.range (l.length / 4)).map (fun i => wordAt l (4 * i))

/-- A byte list in pieces of `n` bytes, the last one shorter when they do not divide. -/
def chunks {α : Type} (n : Nat) (l : List α) : List (List α) :=
  (List.range ((l.length + n - 1) / n)).map (fun i => (l.drop (n * i)).take n)

/-! ## CRC-32C -/

/-- One bit of CRC-32C with the reflected polynomial (02 R43). -/
def crcBit (c : BitVec 32) : BitVec 32 := if c.getLsbD 0 then (c >>> 1) ^^^ 0x82F63B78#32 else c >>> 1

/-- One byte of CRC-32C. -/
def crcByte (c : BitVec 32) (b : Byte) : BitVec 32 :=
  let x := c ^^^ b.setWidth 32
  crcBit (crcBit (crcBit (crcBit (crcBit (crcBit (crcBit (crcBit x)))))))

/-- CRC-32C (02 R43). -/
def crc32c (l : List Byte) : Word := (l.foldl crcByte 0xFFFFFFFF#32) ^^^ 0xFFFFFFFF#32

/-! ## Hashing and serial arithmetic -/

/-- mix32 (03 R90). -/
def mix32 (x : Word) : Word :=
  let a := (x ^^^ (x >>> 16)) * 0x7FEB352D#32
  let b := (a ^^^ (a >>> 15)) * 0x846CA68B#32
  b ^^^ (b >>> 16)

/-- `a` follows `b` in 32-bit serial arithmetic. -/
def serialAfter (a b : Word) : Bool := 0 < (a - b).toInt

/-- `a` is at or after `b` in 32-bit serial arithmetic. -/
def serialGe (a b : Word) : Bool := 0 ≤ (a - b).toInt

/-- `a` is at or after `b` in 64-bit serial arithmetic. -/
def serialGe64 (a b : Word64) : Bool := 0 ≤ (a - b).toInt

/-- Integer as the two's complement number of `n` bits. -/
def twos (n : Nat) (x : Int) : Nat := (BitVec.ofInt n x).toNat

/-- Insert without repeats, rising. -/
def insertNat (x : Nat) : List Nat → List Nat
  | [] => [x]
  | y :: r => if x < y then x :: y :: r else if x = y then y :: r else y :: insertNat x r

/-- Sum of a list. -/
def sum (l : List Nat) : Nat := l.foldl (· + ·) 0

/-- The bytes of an ASCII string. -/
def ascii (x : String) : List Byte := x.toList.map fun c => BitVec.ofNat 8 c.toNat

/-- A list of bytes of exactly `n`, cut or filled up with zeros. -/
def fit (n : Nat) (l : List Byte) : List Byte := (l ++ List.replicate (n - l.length) 0).take n

end Sys2Proof.Machine
end

