-- ==== Sys2Proof/Machine/Codes.lean ====
section
/-! DEFINITION. Abort codes (18 Table 18-11) and fault codes (20 Table 20-7). -/

namespace Sys2Proof.Machine

/-- GZ_MGT_NOOBJ (18 R548). -/
abbrev mgtNoobj : Word := 0x01000001
/-- GZ_MGT_NOSUB (18 R548). -/
abbrev mgtNosub : Word := 0x01000002
/-- GZ_MGT_NOBLOCK (18 R548). -/
abbrev mgtNoblock : Word := 0x01000003
/-- GZ_MGT_READONLY (18 R548). -/
abbrev mgtReadonly : Word := 0x01000004
/-- GZ_MGT_WRITEONLY (18 R548). -/
abbrev mgtWriteonly : Word := 0x01000005
/-- GZ_MGT_TYPE (18 R548). -/
abbrev mgtType : Word := 0x01000006
/-- GZ_MGT_RANGE (18 R548). -/
abbrev mgtRange : Word := 0x01000007
/-- GZ_MGT_RESERVED (18 R548). -/
abbrev mgtReserved : Word := 0x01000008
/-- GZ_MGT_PATH (18 R548). -/
abbrev mgtPath : Word := 0x01000009
/-- GZ_MGT_BUSY (18 R548). -/
abbrev mgtBusy : Word := 0x0100000A
/-- GZ_MGT_STATE (18 R548). -/
abbrev mgtState : Word := 0x0100000B
/-- GZ_MGT_HANDLE (18 R548). -/
abbrev mgtHandle : Word := 0x0100000C
/-- GZ_MGT_DMA (18 R548). -/
abbrev mgtDma : Word := 0x0100000D
/-- GZ_MGT_FAILOVER (18 R548). -/
abbrev mgtFailover : Word := 0x0100000E
/-- GZ_MGT_JOURNAL (18 R548). -/
abbrev mgtJournal : Word := 0x0100000F
/-- GZ_MGT_SESSION (18 R548). -/
abbrev mgtSession : Word := 0x01000010
/-- GZ_MGT_FORMAT (18 R548). -/
abbrev mgtFormat : Word := 0x01000011
/-- GZ_SEC_AUTH (18 R548). -/
abbrev secAuth : Word := 0x02000001
/-- GZ_SEC_RIGHTS (18 R548). -/
abbrev secRights : Word := 0x02000002
/-- GZ_SEC_REPLAY (18 R548). -/
abbrev secReplay : Word := 0x02000003
/-- GZ_SEC_SIGNATURE (18 R548). -/
abbrev secSignature : Word := 0x02000004
/-- GZ_SEC_ROLLBACK (18 R548). -/
abbrev secRollback : Word := 0x02000005
/-- GZ_SEC_IMAGE (18 R548). -/
abbrev secImage : Word := 0x02000006
/-- GZ_FWD_EPOCH (18 R548). -/
abbrev fwdEpoch : Word := 0x03000001
/-- GZ_FWD_FENCED (18 R548). -/
abbrev fwdFenced : Word := 0x03000002
/-- GZ_FWD_UNREACHABLE (18 R548). -/
abbrev fwdUnreachable : Word := 0x03000003
/-- GZ_FWD_BADGROUP (18 R548). -/
abbrev fwdBadgroup : Word := 0x03000004
/-- GZ_FWD_SRCROUTE (18 R548). -/
abbrev fwdSrcroute : Word := 0x03000005
/-- GZ_FWD_TURN (18 R548). -/
abbrev fwdTurn : Word := 0x03000006
/-- GZ_FWD_LENGTH (18 R548). -/
abbrev fwdLength : Word := 0x03000007
/-- GZ_FWD_HCRC (18 R548). -/
abbrev fwdHcrc : Word := 0x03000008
/-- GZ_FWD_HEADER (18 R548). -/
abbrev fwdHeader : Word := 0x03000009
/-- GZ_FWD_KIND (18 R548). -/
abbrev fwdKind : Word := 0x0300000A
/-- GZ_FWD_JOB (18 R548). -/
abbrev fwdJob : Word := 0x0300000B
/-- GZ_FWD_GENERATION (18 R548). -/
abbrev fwdGeneration : Word := 0x0300000C
/-- GZ_FWD_HOPS (18 R548). -/
abbrev fwdHops : Word := 0x0300000D
/-- GZ_FWD_ADDRESS (18 R548). -/
abbrev fwdAddress : Word := 0x0300000E
/-- GZ_FWD_SERVICE (18 R548). -/
abbrev fwdService : Word := 0x0300000F
/-- GZ_FWD_PAYLOAD (18 R548). -/
abbrev fwdPayload : Word := 0x03000010
/-- GZ_FWD_AGE (18 R548). -/
abbrev fwdAge : Word := 0x03000011
/-- GZ_FWD_SRCFENCED (18 R548). -/
abbrev fwdSrcfenced : Word := 0x03000012
/-- GZ_FWD_PORTLOST (18 R548). -/
abbrev fwdPortlost : Word := 0x03000013
/-- GZ_SVC_BUSY (18 R548). -/
abbrev svcBusy : Word := 0x04000001
/-- GZ_FLOW_UNKNOWN (18 R548). -/
abbrev flowUnknown : Word := 0x05000001
/-- GZ_FLOW_FULL (18 R548). -/
abbrev flowFull : Word := 0x05000002
/-- GZ_TBL_STATE (18 R548). -/
abbrev tblState : Word := 0x06000001
/-- GZ_TBL_BADARG (18 R548). -/
abbrev tblBadarg : Word := 0x06000002
/-- GZ_TBL_FULL (18 R548). -/
abbrev tblFull : Word := 0x06000003
/-- GZ_TBL_BUSY (18 R548). -/
abbrev tblBusy : Word := 0x06000004
/-- GZ_VAT_DESC (18 R548). -/
abbrev vatDesc : Word := 0x07000001
/-- GZ_VAT_REVISION (18 R548). -/
abbrev vatRevision : Word := 0x07000002
/-- GZ_VAT_LENGTH (18 R548). -/
abbrev vatLength : Word := 0x07000003
/-- GZ_VAT_ESCFULL (18 R548). -/
abbrev vatEscfull : Word := 0x07000004
/-- GZ_COLL_DESC (18 R548). -/
abbrev collDesc : Word := 0x08000001
/-- GZ_COLL_MEMBERS (18 R548). -/
abbrev collMembers : Word := 0x08000002
/-- GZ_COLL_NOSRAM (18 R548). -/
abbrev collNosram : Word := 0x08000003
/-- GZ_COLL_STATE (18 R548). -/
abbrev collState : Word := 0x08000004
/-- GZ_COLL_NOCTX (18 R548). -/
abbrev collNoctx : Word := 0x08000005
/-- GZ_COLL_ABORTED (18 R548). -/
abbrev collAborted : Word := 0x08000006
/-- GZ_COLL_JOB (18 R548). -/
abbrev collJob : Word := 0x08000007
/-- GZ_COLL_MEMBER (18 R548). -/
abbrev collMember : Word := 0x08000008
/-- GZ_COLL_DECKLE (18 R548). -/
abbrev collDeckle : Word := 0x08000009
/-- GZ_COLL_TILE (18 R548). -/
abbrev collTile : Word := 0x0800000A
/-- GZ_COLL_WINDOW (18 R548). -/
abbrev collWindow : Word := 0x0800000B
/-- GZ_COLL_FORMAT (18 R548). -/
abbrev collFormat : Word := 0x0800000C
/-- GZ_COLL_STALE (18 R548). -/
abbrev collStale : Word := 0x0800000D
/-- GZ_COLL_STALL (18 R548). -/
abbrev collStall : Word := 0x0800000E
/-- GZ_COLL_FENCED (18 R548). -/
abbrev collFenced : Word := 0x0800000F
/-- GZ_COLL_HOSTABORT (18 R548). -/
abbrev collHostabort : Word := 0x08000010
/-- GZ_COLL_UPSTREAM (18 R548). -/
abbrev collUpstream : Word := 0x08000011
/-- GZ_COLL_HWFAULT (18 R548). -/
abbrev collHwfault : Word := 0x08000012
/-- GZ_COLL_EXCLUDED (18 R548). -/
abbrev collExcluded : Word := 0x08000013
/-- GZ_GRAPH_FORMAT (18 R548). -/
abbrev graphFormat : Word := 0x09000001
/-- GZ_GRAPH_ORDER (18 R548). -/
abbrev graphOrder : Word := 0x09000002
/-- GZ_GRAPH_JOB (18 R548). -/
abbrev graphJob : Word := 0x09000003
/-- GZ_GRAPH_PATH (18 R548). -/
abbrev graphPath : Word := 0x09000004
/-- GZ_GRAPH_PROFILE (18 R548). -/
abbrev graphProfile : Word := 0x09000005
/-- GZ_GRAPH_CRC (18 R548). -/
abbrev graphCrc : Word := 0x09000006
/-- GZ_GRAPH_BUSY (18 R548). -/
abbrev graphBusy : Word := 0x09000007
/-- GZ_GRAPH_FULL (18 R548). -/
abbrev graphFull : Word := 0x09000008
/-- GZ_GRAPH_NOSPACE (18 R548). -/
abbrev graphNospace : Word := 0x09000009
/-- GZ_GRAPH_NOGRAPH (18 R548). -/
abbrev graphNograph : Word := 0x0900000A
/-- GZ_GRAPH_STATE (18 R548). -/
abbrev graphState : Word := 0x0900000B
/-- GZ_GRAPH_BADARG (18 R548). -/
abbrev graphBadarg : Word := 0x0900000C
/-- GZ_GRAPH_STARVED (18 R548). -/
abbrev graphStarved : Word := 0x0900000D
/-- GZ_GRAPH_CANCELLED (18 R548). -/
abbrev graphCancelled : Word := 0x0900000E
/-- GZ_GRAPH_HWFAULT (18 R548). -/
abbrev graphHwfault : Word := 0x0900000F
/-- GZ_BC_PROFILE (18 R548). -/
abbrev bcProfile : Word := 0x0A000001
/-- GZ_BC_DESC (18 R548). -/
abbrev bcDesc : Word := 0x0A000002
/-- GZ_BC_JOB (18 R548). -/
abbrev bcJob : Word := 0x0A000003
/-- GZ_BC_STATE (18 R548). -/
abbrev bcState : Word := 0x0A000004
/-- GZ_BC_GROUP (18 R548). -/
abbrev bcGroup : Word := 0x0A000005
/-- GZ_BC_FULL (18 R548). -/
abbrev bcFull : Word := 0x0A000006
/-- GZ_BC_QUOTA (18 R548). -/
abbrev bcQuota : Word := 0x0A000007
/-- GZ_BC_NOSPACE (18 R548). -/
abbrev bcNospace : Word := 0x0A000008
/-- GZ_BC_BADARG (18 R548). -/
abbrev bcBadarg : Word := 0x0A000009
/-- GZ_BC_LENGTH (18 R548). -/
abbrev bcLength : Word := 0x0A00000A
/-- GZ_BC_UPSTREAM (18 R548). -/
abbrev bcUpstream : Word := 0x0A00000B
/-- GZ_BC_NOOBJ (18 R548). -/
abbrev bcNoobj : Word := 0x0A00000C
/-- GZ_BC_HWFAULT (18 R548). -/
abbrev bcHwfault : Word := 0x0A00000D
/-- GZ_VAULT_PROFILE (18 R548). -/
abbrev vaultProfile : Word := 0x0B000001
/-- GZ_VAULT_DESC (18 R548). -/
abbrev vaultDesc : Word := 0x0B000002
/-- GZ_VAULT_JOB (18 R548). -/
abbrev vaultJob : Word := 0x0B000003
/-- GZ_VAULT_STATE (18 R548). -/
abbrev vaultState : Word := 0x0B000004
/-- GZ_VAULT_NOSPACE (18 R548). -/
abbrev vaultNospace : Word := 0x0B000005
/-- GZ_VAULT_VERSION (18 R548). -/
abbrev vaultVersion : Word := 0x0B000006
/-- GZ_VAULT_RANGE (18 R548). -/
abbrev vaultRange : Word := 0x0B000007
/-- GZ_VAULT_BADSTRIPE (18 R548). -/
abbrev vaultBadstripe : Word := 0x0B000008
/-- GZ_VAULT_BADMSG (18 R548). -/
abbrev vaultBadmsg : Word := 0x0B000009
/-- GZ_SCHED_RANGE (18 R548). -/
abbrev schedRange : Word := 0x0C000001
/-- GZ_SCHED_GATE (18 R548). -/
abbrev schedGate : Word := 0x0C000002
/-- GZ_OCS_DESC (18 R548). -/
abbrev ocsDesc : Word := 0x0D000001
/-- GZ_OCS_PORT (18 R548). -/
abbrev ocsPort : Word := 0x0D000002
/-- GZ_OCS_LATE (18 R548). -/
abbrev ocsLate : Word := 0x0D000003
/-- GZ_OCS_STATE (18 R548). -/
abbrev ocsState : Word := 0x0D000004
/-- GZ_OCS_FULL (18 R548). -/
abbrev ocsFull : Word := 0x0D000005
/-- GZ_OCS_BADMSG (18 R548). -/
abbrev ocsBadmsg : Word := 0x0D000006
/-- GZ_PORT_STATE (18 R548). -/
abbrev portState : Word := 0x0E000001
/-- GZ_PORT_CONFIG (18 R548). -/
abbrev portConfig : Word := 0x0E000002
/-- GZ_PORT_NOTDRAINED (18 R548). -/
abbrev portNotdrained : Word := 0x0E000003
/-- GZ_PORT_CMIS (18 R548). -/
abbrev portCmis : Word := 0x0E000004
/-- GZ_MEM_RANGE (18 R548). -/
abbrev memRange : Word := 0x0F000001
/-- GZ_FELT_LAST (18 R548). -/
abbrev feltLast : Word := 0x10000001
/-- GZ_FELT_STATE (18 R548). -/
abbrev feltState : Word := 0x10000002
/-- GZ_TIME_RANGE (18 R548). -/
abbrev timeRange : Word := 0x11000001
/-- GZ_PWR_BUDGET (18 R548). -/
abbrev pwrBudget : Word := 0x12000001
/-- GZ_PWR_FAILING (18 R548). -/
abbrev pwrFailing : Word := 0x12000002
/-- GZ_PWR_RANGE (18 R548). -/
abbrev pwrRange : Word := 0x12000003
/-- GZ_PROF_RANGE (18 R548). -/
abbrev profRange : Word := 0x13000001
/-- GZ_FAULT_LINK_DOWN (20 R597). -/
abbrev faultLinkDown : Word := 0x81000001
/-- GZ_FAULT_LINK_DEGRADED (20 R597). -/
abbrev faultLinkDegraded : Word := 0x81000002
/-- GZ_FAULT_LINK_UP (20 R597). -/
abbrev faultLinkUp : Word := 0x81000003
/-- GZ_FAULT_LINK_TRAIN (20 R597). -/
abbrev faultLinkTrain : Word := 0x81000004
/-- GZ_FAULT_LINK_MISMATCH (20 R597). -/
abbrev faultLinkMismatch : Word := 0x81000005
/-- GZ_FAULT_LINK_SEASON (20 R597). -/
abbrev faultLinkSeason : Word := 0x81000006
/-- GZ_FAULT_LINK_CLASS (20 R597). -/
abbrev faultLinkClass : Word := 0x81000007
/-- GZ_FAULT_CAGE_POWER (20 R597). -/
abbrev faultCagePower : Word := 0x81000008
/-- GZ_FAULT_DIE_BIST (20 R597). -/
abbrev faultDieBist : Word := 0x81000009
/-- GZ_FAULT_FELT_LINK (20 R597). -/
abbrev faultFeltLink : Word := 0x82000001
/-- GZ_FAULT_FELT_MODULE (20 R597). -/
abbrev faultFeltModule : Word := 0x82000002
/-- GZ_FAULT_HBM_RATE (20 R597). -/
abbrev faultHbmRate : Word := 0x83000001
/-- GZ_FAULT_HBM_SPARE (20 R597). -/
abbrev faultHbmSpare : Word := 0x83000002
/-- GZ_FAULT_SRAM_BANK (20 R597). -/
abbrev faultSramBank : Word := 0x83000003
/-- GZ_FAULT_HBM_LOST (20 R597). -/
abbrev faultHbmLost : Word := 0x83000004
/-- GZ_FAULT_DIE_LOST (20 R597). -/
abbrev faultDieLost : Word := 0x84000001
/-- GZ_FAULT_VAT_OUT (20 R597). -/
abbrev faultVatOut : Word := 0x84000002
/-- GZ_FAULT_VAT_TILERESET (20 R597). -/
abbrev faultVatTilereset : Word := 0x84000003
/-- GZ_FAULT_COLL_ABORT (20 R597). -/
abbrev faultCollAbort : Word := 0x85000001
/-- GZ_FAULT_BC_UNREACH (20 R597). -/
abbrev faultBcUnreach : Word := 0x85000002
/-- GZ_FAULT_BC_UPSTREAM (20 R597). -/
abbrev faultBcUpstream : Word := 0x85000003
/-- GZ_FAULT_BC_FAILED (20 R597). -/
abbrev faultBcFailed : Word := 0x85000004
/-- GZ_FAULT_VAULT_LOST (20 R597). -/
abbrev faultVaultLost : Word := 0x85000005
/-- GZ_FAULT_COLL_NORESULT (20 R597). -/
abbrev faultCollNoresult : Word := 0x85000006
/-- GZ_FAULT_OCS_MISSED (20 R597). -/
abbrev faultOcsMissed : Word := 0x86000001
/-- GZ_FAULT_OCS_REFLIP (20 R597). -/
abbrev faultOcsReflip : Word := 0x86000002
/-- GZ_FAULT_OCS_LATE (20 R597). -/
abbrev faultOcsLate : Word := 0x86000003
/-- GZ_FAULT_TIME_STEP (20 R597). -/
abbrev faultTimeStep : Word := 0x87000001
/-- GZ_FAULT_TIME_HOLDOVER (20 R597). -/
abbrev faultTimeHoldover : Word := 0x87000002
/-- GZ_FAULT_PWR_EARLY (20 R597). -/
abbrev faultPwrEarly : Word := 0x88000001
/-- GZ_FAULT_PWR_BUDGET (20 R597). -/
abbrev faultPwrBudget : Word := 0x88000002
/-- GZ_FAULT_THERM_WARN (20 R597). -/
abbrev faultThermWarn : Word := 0x88000003
/-- GZ_FAULT_COOL_INLET (20 R597). -/
abbrev faultCoolInlet : Word := 0x88000004
/-- GZ_FAULT_COOL_FLOW (20 R597). -/
abbrev faultCoolFlow : Word := 0x88000005
/-- GZ_FAULT_THERM_TRIP (20 R597). -/
abbrev faultThermTrip : Word := 0x88000006
/-- GZ_FAULT_THERM_SENSOR (20 R597). -/
abbrev faultThermSensor : Word := 0x88000007
/-- GZ_FAULT_COLLIER_FAILOVER (20 R597). -/
abbrev faultCollierFailover : Word := 0x89000001
/-- GZ_FAULT_COLLIER_STANDBY (20 R597). -/
abbrev faultCollierStandby : Word := 0x89000002
/-- GZ_FAULT_JOURNAL (20 R597). -/
abbrev faultJournal : Word := 0x89000003
/-- GZ_FAULT_SEC_FLOOR (20 R597). -/
abbrev faultSecFloor : Word := 0x8A000001
/-- GZ_FAULT_SEC_IDENTITY (20 R597). -/
abbrev faultSecIdentity : Word := 0x8A000002
/-- GZ_FAULT_SEC_FALLBACK (20 R597). -/
abbrev faultSecFallback : Word := 0x8A000003

end Sys2Proof.Machine
end

