-- ==== Sys2Proof/Machine/Ops.lean ====
section
/-! DEFINITION. The named operations over the state: part updates, the clock, counters, the error log, the journal
buffer, the gates of the access paths, command slots, byte memories and bulk transfer regions. -/

namespace Sys2Proof.Machine

/-! ## Parts of the state -/

/-- `s` with its registers put through `f`; the queue and the byte memories stand. -/
def State.onSys (s : State) (f : Sys → Sys) : State := { s with sys := f s.sys }

/-- `s` with its registers and byte memories put through `f`; the queue stands. -/
def State.onMach (s : State) (f : Stores × Sys → Stores × Sys) : State :=
  let r := f (s.stores, s.sys)
  { s with stores := r.1, sys := r.2 }

/-- The part `free` put through `f`. -/
def Sys.modFree (f : Free → Free) (s : Sys) : Sys := { s with free := f s.free }

/-- The part `clk` put through `f`. -/
def Sys.modClk (f : Clock → Clock) (s : Sys) : Sys := { s with clk := f s.clk }

/-- The part `boot` put through `f`. -/
def Sys.modBoot (f : Boot → Boot) (s : Sys) : Sys := { s with boot := f s.boot }

/-- The part `nv` put through `f`. -/
def Sys.modNv (f : Persist → Persist) (s : Sys) : Sys := { s with nv := f s.nv }

/-- The part `jr` put through `f`. -/
def Sys.modJr (f : Journal → Journal) (s : Sys) : Sys := { s with jr := f s.jr }

/-- The part `mg` put through `f`. -/
def Sys.modMg (f : Mgmt → Mgmt) (s : Sys) : Sys := { s with mg := f s.mg }

/-- The part `tab` put through `f`. -/
def Sys.modTab (f : Tables → Tables) (s : Sys) : Sys := { s with tab := f s.tab }

/-- The part `fwd` put through `f`. -/
def Sys.modFwd (f : Fwd → Fwd) (s : Sys) : Sys := { s with fwd := f s.fwd }

/-- The part `ports` put through `f`. -/
def Sys.modPorts (f : Ports → Ports) (s : Sys) : Sys := { s with ports := f s.ports }

/-- The part `sw` put through `f`. -/
def Sys.modSw (f : Switch → Switch) (s : Sys) : Sys := { s with sw := f s.sw }

/-- The part `flows` put through `f`. -/
def Sys.modFlows (f : Flows → Flows) (s : Sys) : Sys := { s with flows := f s.flows }

/-- The part `coll` put through `f`. -/
def Sys.modColl (f : Coll → Coll) (s : Sys) : Sys := { s with coll := f s.coll }

/-- The part `graphs` put through `f`. -/
def Sys.modGraphs (f : Graphs → Graphs) (s : Sys) : Sys := { s with graphs := f s.graphs }

/-- The part `bc` put through `f`. -/
def Sys.modBc (f : Bc → Bc) (s : Sys) : Sys := { s with bc := f s.bc }

/-- The part `vault` put through `f`. -/
def Sys.modVault (f : Vault → Vault) (s : Sys) : Sys := { s with vault := f s.vault }

/-- The part `ocs` put through `f`. -/
def Sys.modOcs (f : Ocs → Ocs) (s : Sys) : Sys := { s with ocs := f s.ocs }

/-- The part `mem` put through `f`. -/
def Sys.modMem (f : Mem → Mem) (s : Sys) : Sys := { s with mem := f s.mem }

/-- The part `felt` put through `f`. -/
def Sys.modFelt (f : Felt → Felt) (s : Sys) : Sys := { s with felt := f s.felt }

/-- The part `hearth` put through `f`. -/
def Sys.modHearth (f : Hearth → Hearth) (s : Sys) : Sys := { s with hearth := f s.hearth }

/-- The part `sec` put through `f`. -/
def Sys.modSec (f : Sec → Sec) (s : Sys) : Sys := { s with sec := f s.sec }

/-- The part `cnt` put through `f`. -/
def Sys.modCnt (f : Counters → Counters) (s : Sys) : Sys := { s with cnt := f s.cnt }

/-- One thing leaves the module. -/
def Sys.emit (o : Output) (s : Sys) : Sys := { s with out := s.out ++ [o] }

/-- The unit that holds an item is written in full, and is poisoned no longer (14 R437). -/
def Sys.wrote (i : HbmItem) (s : Sys) : Sys :=
  s.modMem fun m => { m with poisoned := m.poisoned.filter fun e => e.2 != i }

/-- Units that held the items of `p` hold them no longer; they stay poisoned (14 R437). -/
def Sys.unheld (p : HbmItem → Bool) (s : Sys) : Sys :=
  s.modMem fun m => { m with poisoned := m.poisoned.map fun e => if p e.2 then (e.1, .free) else e }

/-- The next free draw and its number (log 5). -/
def Sys.draw (s : Sys) : Nat × Sys := (s.free.counter, s.modFree fun f => { f with counter := f.counter + 1 })

/-! ## Clock -/

/-- Fabric time: the low 32 bits of the extended time (16 R473). -/
def Sys.now (s : Sys) : Word := s.clk.ext.setWidth 32

/-- `n` ns pass. -/
def Sys.advance (n : Nat) (s : Sys) : Sys :=
  s.modClk fun c => { c with ext := c.ext + BitVec.ofNat 64 n, mono := c.mono + n }

/-- One idle step: 1 ns passes (log 1). -/
def Sys.tick (s : Sys) : Sys := s.advance 1

/-- The clock moves up to extended time `t` when it is behind it (log 2). -/
def Sys.toExt (t : Word64) (s : Sys) : Sys :=
  if serialGe64 s.clk.ext t then s else s.advance (t - s.clk.ext).toNat

/-- The free-running count moves up to `t` when it is behind it (log 2). -/
def Sys.toMono (t : Nat) (s : Sys) : Sys := s.advance (t - s.clk.mono)

/-- The first multiple of 2^n ns of extended time that lies after `last` (16 R488). -/
def nextBoundary (n : Nat) (last : Word64) : Word64 :=
  BitVec.ofNat 64 ((last.toNat / 2 ^ n + 1) * 2 ^ n)

/-- A 32-bit time extended to the nearest extended time (16 R474). -/
def Sys.extOf (t : Word) (s : Sys) : Word64 := s.clk.ext + (t - s.now).signExtend 64

/-- The boundary of 2^n ns at or before now. -/
def Sys.floorTo (n : Nat) (s : Sys) : Word64 := BitVec.ofNat 64 (s.clk.ext.toNat / 2 ^ n * 2 ^ n)

/-- The first due time from `t` on that lies in none of the runs `ran` of due times that have fired. -/
def skipRan (next : Word64 → Word64) (ran : List (Word64 × Word64)) : Nat → Word64 → Word64
  | 0, t => t
  | n + 1, t =>
    match ran.find? fun r => serialGe64 t r.1 && serialGe64 r.2 t with
    | some r => skipRan next ran n (next r.2)
    | none => t

/-- The next due time of a periodic event whose due times from `first` to `last`, and those of the earlier runs `ran`, have fired,
where `next` answers the first due time after a time: no due time fires twice (16 R488). -/
def Sys.dueOf (next : Word64 → Word64) (first last : Word64) (ran : List (Word64 × Word64)) (s : Sys) : Word64 :=
  let b := next s.clk.ext
  skipRan next ran ran.length (if serialGe64 s.clk.ext last || serialGe64 b first then next last else b)

/-- The same for the multiples of 2^n ns. -/
def Sys.dueOnce (n : Nat) (first last : Word64) (ran : List (Word64 × Word64)) (s : Sys) : Word64 :=
  s.dueOf (nextBoundary n) first last ran

/-- The run of fired due times goes on when the next one fires, and starts again where others were passed over. -/
def Sys.runOf (n : Nat) (first last : Word64) (s : Sys) : Word64 :=
  if s.floorTo n = last + BitVec.ofNat 64 (2 ^ n) then first else s.floorTo n

/-- Where the run starts again, the old one joins the earlier runs. -/
def Sys.ranOf (n : Nat) (first last : Word64) (ran : List (Word64 × Word64)) (s : Sys) : List (Word64 × Word64) :=
  if s.floorTo n = last + BitVec.ofNat 64 (2 ^ n) then ran else (first, last) :: ran

/-- The drain bound in ns (03 R81). -/
def Sys.drainNs (s : Sys) : Nat := s.fwd.drainUs * 1000

/-- An interval of `len` ns that starts now, on fabric time, or on the free-running count while the time-valid flag is
clear (03 R81). -/
def Sys.startInterval (len : Nat) (s : Sys) : Interval :=
  if s.clk.valid then { fabric := true, start := s.clk.ext.toNat, len } else { fabric := false, start := s.clk.mono, len }

/-- An interval that runs when the drain bound rises ends after the greater bound (03 R81). -/
def Interval.stretch (len : Nat) (i : Interval) : Interval := { i with len := max i.len len }

/-- Nanoseconds since the interval started; a step back of the fabric time counts as none. -/
def Sys.elapsed (i : Interval) (s : Sys) : Nat :=
  if i.fabric then (if serialGe64 s.clk.ext (BitVec.ofNat 64 i.start) then (s.clk.ext - BitVec.ofNat 64 i.start).toNat else 0)
  else s.clk.mono - i.start

/-- The clock moves up to the end of the interval when it is behind it (log 2). -/
def Sys.toEnd (i : Interval) (s : Sys) : Sys := s.advance (i.len - s.elapsed i)

/-! ## Counters -/

/-- Key of a fixed counter: family, selector and item (20 R587; log 13 numbers the items). -/
def ctrKey (fam sel item : Nat) : Nat := (fam * 2 ^ 16 + sel) * 2 ^ 32 + item

/-- Families that saturate (20 R580). -/
def saturates (fam : Nat) : Bool := fam == 0x9050 || fam == 0x9060

/-- A fixed counter (20 R579, R580, R590): a frozen ordinary counter ignores its events, a chaining counter wraps, a
saturating one stops at its top and knows no freeze. -/
def Sys.count (fam sel item n : Nat) (s : Sys) : Sys :=
  if s.cnt.frozen && !saturates fam then s
  else
    s.modCnt fun c =>
      { c with
        fixed := modify c.fixed (ctrKey fam sel item) 0 fun v =>
          if saturates fam then BitVec.ofNat 64 (min (v.toNat + n) (2 ^ 64 - 1)) else v + BitVec.ofNat 64 n }

/-- An ordinary counter kept beside the fixed families counts one event, which it ignores while it is frozen (20 R588). -/
def Sys.bump {w : Nat} (s : Sys) (x : BitVec w) : BitVec w := if s.cnt.frozen then x else x + 1

/-- One programmable counter takes `n` events (20 R584, R593): the new value and whether it overflowed. -/
def pcAdd (cfg reload v : Word) (n : Nat) : Word × Bool :=
  let t := v.toNat + n
  if t < 2 ^ 32 then (BitVec.ofNat 32 t, false)
  else if fld cfg 29 29 = 1 then (reload + BitVec.ofNat 32 (t - 2 ^ 32), true) else (BitVec.ofNat 32 t, true)

/-- The counter at `i` of a bank takes `n` events, and an odd neighbour with CHAIN counts its overflow (20 R584). -/
def bankAdd (u : UnitCtr) (i n : Nat) : UnitCtr :=
  let (v, o) := pcAdd (getD u.cfg i 0) (getD u.reload i 0) (getD u.pc i 0) n
  let owe (c : Word) (full : Bool) (j : Nat) (l : List Nat) : List Nat :=
    if full && fld c 29 29 == 1 then insertNat j l else l
  let u1 := { u with pc := put u.pc i v, owed := owe (getD u.cfg i 0) o i u.owed }
  let up := getD u.cfg (i + 1) 0
  if o && i % 2 == 0 && fld up 31 31 = 1 && fld up 30 30 = 1 then
    let (w, p) := pcAdd up (getD u.reload (i + 1) 0) (getD u.pc (i + 1) 0) 1
    { u1 with pc := put u1.pc (i + 1) w, owed := owe up p (i + 1) u1.owed }
  else u1

/-- `n` events of code `code` on a unit, at a port (20 R584, R586, Table 20-4). -/
def Sys.event (unit code port n : Nat) (s : Sys) : Sys :=
  if s.cnt.frozen || code == 0 then s
  else
    let u := getD s.cnt.unit unit {}
    let hits := (List.range 8).filter fun i =>
      let c := getD u.cfg i 0
      fld c 31 31 == 1 && !(i % 2 == 1 && fld c 30 30 == 1) && fld c 23 16 == code &&
        (fld c 15 15 == 0 || fld c 9 0 == port)
    if hits.isEmpty then s
    else s.modCnt fun c => { c with unit := put c.unit unit (hits.foldl (fun u i => bankAdd u i n) u) }

/-- Number of the active Collier pair as a unit, and of its core die (20 Table 20-1, 18 R523). -/
def Sys.collierCore (s : Sys) : Nat := if s.boot.cd2Active then 2 else 0

/-! ## HBM tokens (17 R505) -/

/-- The classes of Table 17-5 below the escape floor. -/
inductive TokClass where
  | readBack | escape | flow | spill | broadcast | parity
  deriving DecidableEq, Repr

/-- Bytes of tokens that the class holds. -/
def Hearth.pot (h : Hearth) : TokClass → Nat
  | .readBack => h.tokRead
  | .escape => h.tokEsc
  | .flow => h.tokFlow
  | .spill => h.tokSpill
  | .broadcast => h.tokBc
  | .parity => h.tokPar

/-- `n` bytes less in a class. -/
def Hearth.take (n : Nat) (k : TokClass) (h : Hearth) : Hearth :=
  match k with
  | .readBack => { h with tokRead := h.tokRead - n }
  | .escape => { h with tokEsc := h.tokEsc - n }
  | .flow => { h with tokFlow := h.tokFlow - n }
  | .spill => { h with tokSpill := h.tokSpill - n }
  | .broadcast => { h with tokBc := h.tokBc - n }
  | .parity => { h with tokPar := h.tokPar - n }

/-- Nothing that waits could spend the tokens of a class: no spilled packet, no contribution, no packet in a miss queue. -/
def Sys.classIdle (k : TokClass) (s : Sys) : Bool :=
  match k with
  | .readBack => s.sw.spillHeld == 0
  | .escape => (s.coll.waiting.all fun e => e.2.isEmpty) && !s.sw.svc.any fun d => d.svc == 1 && d.pkt.kind == 2
  | .flow => s.flows.missq.all fun e => e.2.isEmpty
  | _ => false

/-- Classes above a class in the order that cannot use their tokens, which pass down to it. -/
def Sys.passers (k : TokClass) (s : Sys) : List TokClass :=
  let above : List TokClass :=
    match k with
    | .readBack => []
    | .escape => [.readBack]
    | .flow => [.readBack, .escape]
    | _ => [.readBack, .escape, .flow]
  above.filter fun c => s.classIdle c

/-- Bytes that a class may spend: its own, and those that pass down to it. -/
def Sys.tokens (k : TokClass) (s : Sys) : Nat := s.hearth.pot k + ((s.passers k).map s.hearth.pot).foldl (· + ·) 0

/-- `n` bytes are spent out of the pots in order. -/
def Hearth.spend : List TokClass → Nat → Hearth → Hearth
  | [], _, h => h
  | k :: r, n, h => Hearth.spend r (n - h.pot k) (h.take (min n (h.pot k)) k)

/-- A class spends `n` bytes, its own first. -/
def Sys.spend (k : TokClass) (n : Nat) (s : Sys) : Sys := s.modHearth (Hearth.spend (k :: s.passers k) n)

/-! ## MSI-X, journal and log -/

/-- The PCIe interface answers: it is not lost with CD0 and PERST_N is released (01 R34, 22 R627). -/
def Sys.pcieUp (s : Sys) : Bool := !s.boot.pcieLost && !s.boot.perst

/-- A vector may leave: MSI-X is enabled and its entry of the table is not masked (18 R535). -/
def Sys.msixOpen (v : Nat) (s : Sys) : Bool := s.mg.msixOn && !(getD s.mg.msixTab v {}).masked

/-- An MSI-X vector is raised on the PCIe path (18 R536): its message leaves, or its pending bit is set (18 R535). -/
def Sys.msix (v : Nat) (s : Sys) : Sys :=
  if !s.pcieUp then s
  else if s.msixOpen v then s.emit (.msix v)
  else s.modMg fun m => { m with pba := m.pba ||| BitVec.ofNat 64 (2 ^ (v % 64)) }

/-- Vectors that are pending leave once they may (18 R535). -/
def Sys.msixFlush (s : Sys) : Sys :=
  (List.range 64).foldl
    (fun t v =>
      if t.mg.pba.getLsbD v && t.msixOpen v then
        (t.modMg fun m => { m with pba := m.pba &&& ~~~(BitVec.ofNat 64 (2 ^ v)) }).emit (.msix v)
      else t)
    s

/-- One journal record enters the buffer (18 R554, R555; its length is the model's free value, log 5). -/
def Sys.jrnl (s : Sys) : Sys :=
  (s.modJr fun j =>
    { j with
      buf := j.buf ++ [{ seq := j.seq, bytes := s.free.recBytes, content := s.nv }], seq := j.seq + 1
      buffered := j.buffered + s.free.recBytes }).event 20 0x42 0 1

/-- Every word of the detail of a log record, filled up to B63 with zeros (20 R602). -/
def detail8 (d : List Word) : List Word := (d ++ List.replicate (8 - d.length) 0).take 8

/-- A service, unit or environment error is counted, by unit and code, in a family of the model's own: 20 Table 20-8 asks for the
counter and Table 20-3 names no family for it (log 165). -/
def Sys.countError (type : BitVec 8) (unit : Nat) (code : Word) (s : Sys) : Sys :=
  if type = 3 ∨ type = 4 then s.count 0 unit code.toNat 1 else s

/-- A record is written to the error log: at most 256 in one control cycle, with MSI-X vector 2 once in a cycle that adds
records (20 R600, R601). -/
def Sys.record (code : Word) (type : BitVec 8) (unit port akind : Nat) (addr : Word64) (detail : List Word) (s : Sys) : Sys :=
  if 256 ≤ s.cnt.cycleLogs then (if s.cnt.frozen then s else s.modCnt fun c => { c with lostRec := c.lostRec + 1 })
  else
    let r : LogRec :=
      { num := s.nv.logNext, time := s.clk.ext, code, type, unit := BitVec.ofNat 8 unit, port := BitVec.ofNat 10 port,
        akind := BitVec.ofNat 4 akind, addr, detail := detail8 detail }
    let s1 := (s.modNv fun n => { n with log := n.log ++ [r], logNext := n.logNext + 1 }).jrnl
    let s2 := s1.modCnt fun c => { c with cycleLogs := c.cycleLogs + 1 }
    if s.cnt.cycleLogs = 0 then s2.msix 2 else s2

/-- An error is counted as its class asks, and its record is written (20 R599, R600). -/
def Sys.log (code : Word) (type : BitVec 8) (unit port akind : Nat) (addr : Word64) (detail : List Word) (s : Sys) : Sys :=
  (s.countError type unit code).record code type unit port akind addr detail

/-! ## Access paths and requests -/

/-- PATH of Table 18-10; 4 stands for the facility segment (log 14). -/
def pathNum : Path → Nat
  | .pcie => 1
  | .eth => 2
  | .inband => 3
  | .facility => 4

/-- What a path answers to a request before the object is looked at. -/
inductive Gate where
  /-- The request is handled. -/
  | opened
  /-- Nothing answers. -/
  | silent
  /-- The request is refused with this abort code. -/
  | refused (code : Word)
  deriving DecidableEq, Repr

/-- Rights of the key of an open session (19 Table 19-7). -/
def Sys.rights (path : Path) (s : Sys) : Nat :=
  let k := (getD s.mg.sessions (pathNum path) {}).keyHash
  match s.nv.trust.find? (fun e => e.2.1 == k) with
  | some e => e.2.2.toNat
  | none => 0

/-- A session is open on the path (19 R575). -/
def Sys.sessionOpen (path : Path) (s : Sys) : Bool := (getD s.mg.sessions (pathNum path) {}).st == 2

/-- The Collier serves objects 0x1000 and 0x1050 before READY on the PCIe path once the ROM phase has ended (21 R607), and in
SHUTDOWN and thermal shutdown on the PCIe path and the management Ethernet (21 R605, R616; log 15). -/
def Sys.early (path : Path) (index : Nat) (s : Sys) : Bool :=
  (index == 0x1000 || index == 0x1050) &&
    match s.boot.mode with
    | .kindling => path == .pcie && s.boot.phase != 1
    | .shutdown | .thermal => path == .pcie || path == .eth
    | _ => false

/-- With CD0 and CD2 failed Kindling stays in its phase, which object 0x1050 still reports (21 R606, R607). -/
def Sys.reportsPhase (path : Path) (index : Nat) (s : Sys) : Bool :=
  s.boot.mode == .kindling && s.boot.lostDies.contains 16 && s.boot.lostDies.contains 18 && s.early path index

/-- Rights that a session needs for an access (19 Table 19-7, R571). -/
def rightsFor (index : Nat) (write : Bool) : Nat :=
  if !write then 1 else if index = 0x8040 then 1 else if 0x8000 ≤ index && index ≤ 0x8FFF then 3 else 2

/-- Objects that a path without a session reaches (19 R575). -/
def openObject (index : Nat) : Bool := index == 0x1000 || index == 0x8001 || index == 0x8020

/-- What the path answers to an access to `index` (18 R534, R648; 19 R568, R575, R576; 21 R607). -/
def Sys.gate (path : Path) (index : Nat) (write : Bool) (s : Sys) : Gate :=
  if s.boot.bothLost && !s.reportsPhase path index then .silent
  else if path == .pcie && (s.boot.perst || (s.boot.pcieLost && !s.reportsPhase path index)) then .silent
  else if path == .inband && s.nv.owner == 0 then .silent
  else
    match s.boot.mode with
    | .off | .held => .silent
    | .recovery =>
      if path == .eth then (if index == 0x1000 then .opened else .refused mgtBusy)
      else if path != .pcie then .silent
      else if index == 0x1000 || index == 0x8040 || index == 0x8041 then .opened
      else .refused mgtBusy
    | m =>
      if (m == .shutdown || m == .thermal) && path != .pcie && path != .eth then .silent
      else if m != .ready && !s.early path index then .refused mgtBusy
      else
        match path with
        | .pcie => .opened
        | .facility =>
          if index == 0x1000 || (0x6000 ≤ index && index ≤ 0x6002) then (if write then .refused mgtPath else .opened)
          else .refused secAuth
        | p =>
          if s.sessionOpen p then
            (if index = 0x8020 ∨ rightsFor index write ≤ s.rights p then .opened else .refused secRights)
          else if openObject index then .opened
          else .refused secAuth

/-- Address of a dictionary access (18 Table 18-12). -/
def dictAddr (index block sub : Nat) : Word64 := BitVec.ofNat 64 (index * 65536 + block * 256 + sub)

/-- SHA3-256 of the key that a path has presented: of its session or handshake, or of a HELLO that is refused (20 Table
20-10). -/
def Sys.keyShown (path : Path) (addr : Word64) (s : Sys) : List Byte :=
  let x := getD s.mg.sessions (pathNum path) {}
  if x.st ≠ 0 then x.keyHash
  else if addr = dictAddr 0x8020 0 0 then Config.sha3 (bytesAt (getD s.mg.secIn (pathNum path) []) 0 1312)
  else []

/-- Item of family 0x9060 for a security failure (19 R578; log 13). -/
def secItem (code : Word) : Option Nat :=
  if code = secAuth then some 0
  else if code = secReplay then some 1
  else if code = secSignature then some 2
  else if code = secImage ∨ code = secRollback then some 3
  else none

/-- An error of a path is recorded (18 R550): its last abort, the first of each pair of path and code in a control cycle
in the error log, the others in family 0x9070. Security failures are counted and logged with the hash of the offending key, empty
when there is none (19 R578, 20 R602). -/
def Sys.reqErrorKey (key : List Byte) (path : Path) (code : Word) (kind : Nat) (addr : Word64) (op : Nat) (s : Sys) : Sys :=
  let s1 := s.modMg fun m =>
    { m with lastAbort := put m.lastAbort (pathNum path) { code, kind := BitVec.ofNat 4 kind, addr, time := s.now } }
  let s2 := match secItem code with | some i => s1.count 0x9060 (pathNum path) i 1 | none => s1
  if s.cnt.reqLogged.contains ((pathNum path), code) then s2.count 0x9070 (pathNum path) code.toNat 1
  else
    let s3 := s2.modCnt fun c => { c with reqLogged := ((pathNum path), code) :: c.reqLogged }
    if fld code 31 24 = 2 then
      s3.log code 0x06 20 0 kind addr
        (BitVec.ofNat 32 ((pathNum path) * 2 ^ 24) :: (List.range 7).map fun i => wordAt key (4 * i))
    else s3.log code 0x02 20 0 kind addr [BitVec.ofNat 32 ((pathNum path) * 2 ^ 24 + op * 2 ^ 16)]

/-- The same with the key that the path has presented. -/
def Sys.reqError (path : Path) (code : Word) (kind : Nat) (addr : Word64) (op : Nat) (s : Sys) : Sys :=
  s.reqErrorKey (s.keyShown path addr) path code kind addr op

/-- A value that persists may be written now: not after the flush of PWR_FAIL_EARLY (17 R497), not with a failed
journal (18 R558), not with a full buffer (18 R555). -/
def Sys.rwsOk (s : Sys) : Except Word Unit :=
  if s.boot.failing then .error pwrFailing
  else if s.jr.failed then .error mgtJournal
  else if 262144 < s.jr.buffered + s.free.recBytes then .error mgtBusy
  else .ok ()

/-- A persisted value is written: refused, or the live value changes and its record enters the journal buffer. -/
def Sys.rws (f : Persist → Persist) (s : Sys) : Except Word Sys :=
  match s.rwsOk with
  | .error c => .error c
  | .ok _ => .ok (s.modNv f).jrnl

/-! ## Selectors -/

/-- Key of a selector: path, index and sub-index (18 R529). -/
def selKey (path : Path) (index sub : Nat) : Nat := ((pathNum path) * 65536 + index) * 256 + sub

/-- A selector of a path. -/
def Sys.selOf (path : Path) (index sub : Nat) (s : Sys) : Word := getD s.mg.sel (selKey path index sub) 0

/-- A selector of a path is written. -/
def Sys.setSel (path : Path) (index sub : Nat) (v : Word) (s : Sys) : Sys :=
  s.modMg fun m => { m with sel := put m.sel (selKey path index sub) v }

/-! ## Command slots -/

/-- Index of a command object. -/
def SlotObj.index : SlotObj → Nat
  | .table => 0x3020
  | .coll => 0x4010
  | .graph => 0x4020
  | .bc => 0x5020
  | .vault => 0x5040
  | .port => 0x2004
  | .felt => 0x2051
  | .ocs => 0x2042
  | .sec => 0x8040

/-- Key of a slot. -/
def slotKey (o : SlotObj) (p : Path) : Nat := o.index * 8 + (pathNum p)

/-- The slot of a command object on a path. -/
def Sys.slot (o : SlotObj) (p : Path) (s : Sys) : Slot := getD s.mg.slots (slotKey o p) {}

/-- A slot put through `f`. -/
def Sys.modSlot (o : SlotObj) (p : Path) (f : Slot → Slot) (s : Sys) : Sys :=
  s.modMg fun m => { m with slots := modify m.slots (slotKey o p) {} f }

/-- ARGs of a slot are written. -/
def Sys.setArgs (o : SlotObj) (p : Path) (args : List (Nat × Word)) (s : Sys) : Sys :=
  s.modSlot o p fun sl => { sl with args := args.foldl (fun a e => put a e.1 e.2) sl.args }

/-- ARGn of a slot. -/
def Slot.arg (sl : Slot) (n : Nat) : Word := getD sl.args n 0

/-- STATUS is BUSY. -/
def Slot.busy (sl : Slot) : Bool := sl.status == 1

/-- A command is accepted (04 R136): STATUS becomes BUSY and ABORT 0. -/
def Sys.accept (o : SlotObj) (p : Path) (cmd : Word) (uses : List Nat) (s : Sys) : Sys :=
  s.modSlot o p fun sl => { sl with cmd, status := 1, abort := 0, uses }

/-! ## Byte memories and bulk transfer -/

/-- One byte; an unlisted byte reads 0 (18 Table 18-9; log 8). -/
def Memory.read (m : List Host.Cell) (a : Nat) : Byte := getD m a 0

/-- One byte is written; 0 is not listed, so equal memories are equal lists. -/
def Memory.write (m : List Host.Cell) (a : Nat) (b : Byte) : List Host.Cell := if b = 0 then del m a else put m a b

/-- `n` bytes at `a`. -/
def Memory.readN (m : List Host.Cell) (a n : Nat) : List Byte := (List.range n).map fun i => Memory.read m (a + i)

/-- A list of bytes at `a`. -/
def Memory.writeN (m : List Host.Cell) (a : Nat) : List Byte → List Host.Cell
  | [] => m
  | b :: r => Memory.writeN (Memory.write m a b) (a + 1) r

/-- Bytes of a BAR2 window or of the staging of a path (18 R536, R545). -/
def stagingBytes : Nat := 16777216

/-- What the control host has done to BAR2 and to the MSI-X table takes effect, while the PCIe interface answers (18 R535,
R536). -/
def World.enter (w : World) (m : Stores × Sys) : Stores × Sys :=
  if !m.2.pcieUp then m
  else
    let t := m.2.modMg fun g =>
      { g with
        msixTab := w.msix.foldl
          (fun x e => if e.1 < 64 then put x e.1 { addr := e.2.1, data := e.2.2.1, masked := e.2.2.2 } else x) g.msixTab
        msixOn := w.msixOn.getD g.msixOn }
    ({ m.1 with
       bar2 := w.bar2.foldl (fun x e => if e.1 < stagingBytes then Memory.write x e.1 e.2 else x) m.1.bar2 }, t.msixFlush)

/-- Key of a path's staging in an era. A full reset starts a new era, in which every byte reads 0 (18 Table 18-9, 21 R608). -/
def stagingKey (era : Nat) (path : Path) : Nat := era * 8 + pathNum path

/-- The staging of a path in an era. -/
def Stores.stagingOf (m : Stores) (era : Nat) (path : Path) : List Host.Cell := getD m.staging (stagingKey era path) []

/-- The staging of a path put through `f`: what earlier eras held is gone, and a memory of zeros is not listed. -/
def Stores.modStaging (m : Stores) (era : Nat) (path : Path) (f : List Host.Cell → List Host.Cell) : Stores :=
  let l := m.staging.filter fun e => e.1 / 8 == era
  let x := f (m.stagingOf era path)
  { m with staging := if x.isEmpty then del l (stagingKey era path) else put l (stagingKey era path) x }

/-- Key of a bulk transfer slot. -/
def bulkKey (path : Path) (slot : Nat) : Nat := (pathNum path) * 16 + slot

/-- The bulk slot that a handle names, as the path that uses it sees it (18 R546): its path, GEN and a defined slot with
at least `need` bytes, of the present era. -/
def Sys.region (path : Path) (handle : Word) (need : Nat) (s : Sys) : Except Word Bulk :=
  let b := getD s.mg.bulk (bulkKey path (fld handle 3 0)) {}
  if fld handle 31 28 = (pathNum path) ∧ b.handle = handle ∧ b.dKind ≠ 0 ∧ need ≤ b.dLen ∧ b.era = s.mg.era then .ok b
  else .error mgtHandle

/-- The bulk slot that a handle uses, for R546's GZ_MGT_BUSY. -/
def usesOf (path : Path) (handle : Word) : List Nat := [bulkKey path (fld handle 3 0)]

/-- `need` bytes of a region (18 R547): from host memory as the DMA returns them, or from BAR2 or staging. -/
def regionRead (st : Stores) (path : Path) (b : Bulk) (need : Nat) (dma : Dma) : Except Word (List Byte) :=
  match b.dKind.toNat with
  | 1 =>
    match dma with
    | .data l => .ok (bytesAt l 0 need)
    | .failed => .error mgtDma
  | 2 => .ok (Memory.readN st.bar2 b.dAddr.toNat need)
  | _ => .ok (Memory.readN (st.stagingOf b.era path) b.dAddr.toNat need)

/-- Bytes written into a region (18 R547): a DMA write to host memory, or BAR2 or staging. -/
def regionWrite (path : Path) (b : Bulk) (data : List Byte) (ok : Bool) (m : Stores × Sys) :
    Except Word (Stores × Sys) :=
  match b.dKind.toNat with
  | 1 => if ok then .ok (m.1, m.2.emit (.dmaWrite b.dAddr data)) else .error mgtDma
  | 2 => .ok ({ m.1 with bar2 := Memory.writeN m.1.bar2 b.dAddr.toNat data }, m.2)
  | _ => .ok (m.1.modStaging b.era path fun x => Memory.writeN x b.dAddr.toNat data, m.2)

end Sys2Proof.Machine
end

