-- ==== Sys2Proof/Machine/Operands.lean ====
section
/-! DEFINITION. The layout of packets and ordered sets on the wire (02): reading them, writing them and their checks. -/

namespace Sys2Proof.Machine

/-! ## Packets -/

/-- Bits of a word as a bit vector of `n` bits from bit `lo`. -/
def bv (n x lo : Nat) : BitVec n := BitVec.ofNat n (x / 2 ^ lo)

/-- The packet that a byte list holds (02 Table 02-1, R36, R55, R57). It is total: bytes past the end read 0. -/
def Pkt.parse (b : List Byte) : Pkt :=
  let w0 := beAt b 0 4
  let hlen : BitVec 4 := bv 4 w0 24
  let plen : BitVec 13 := bv 13 w0 0
  let w3 := beAt b 12 4
  let w6 := beAt b 24 4
  let h := hlen.toNat * 8
  let std := hlen == 4 || hlen == 6 || hlen == 7
  let n := plen.toNat
  let pad := (4 - n % 4) % 4
  { ver := bv 4 w0 28, hlen, tc := bv 3 w0 21, ep := bit w0 20, rm := bv 2 w0 18, vc := bit w0 17, xp := bit w0 16,
    rsv := bv 3 w0 13, plen, dgei := wordAt b 4, sgei := wordAt b 8, flow := bv 24 w3 8, kind := bv 8 w3 0,
    seq := wordAt b 16, ts := wordAt b 20, jtag := bv 16 w6 16, jgen := bv 8 w6 8, hops := bv 8 w6 0,
    hcrc := wordAt b 28,
    ext :=
      if hlen == 4 then .none
      else if hlen == 6 then .sr (BitVec.ofNat 128 (beAt b 32 16))
      else if hlen == 7 then .coll (BitVec.ofNat 192 (beAt b 32 24))
      else .raw (b.drop 32)
    payload := if std then bytesAt b h n else []
    pad := if std then bytesAt b (h + n) pad else []
    pcrc := if std && n != 0 then wordAt b (h + n + pad) else 0 }

/-- Bytes of the extension. -/
def Ext.bytes : Ext → List Byte
  | .none => []
  | .sr v => toBe 16 v.toNat
  | .coll v => toBe 24 v.toNat
  | .raw l => l

/-- The base header as 32 bytes. -/
def Pkt.header (p : Pkt) : List Byte :=
  toBe 4
      (p.ver.toNat * 2 ^ 28 + p.hlen.toNat * 2 ^ 24 + p.tc.toNat * 2 ^ 21 + b2n p.ep * 2 ^ 20 + p.rm.toNat * 2 ^ 18 +
        b2n p.vc * 2 ^ 17 + b2n p.xp * 2 ^ 16 + p.rsv.toNat * 2 ^ 13 + p.plen.toNat) ++
    toBe 4 p.dgei.toNat ++ toBe 4 p.sgei.toNat ++ toBe 4 (p.flow.toNat * 256 + p.kind.toNat) ++ toBe 4 p.seq.toNat ++
    toBe 4 p.ts.toNat ++ toBe 4 (p.jtag.toNat * 65536 + p.jgen.toNat * 256 + p.hops.toNat) ++ toBe 4 p.hcrc.toNat

/-- The bytes of a packet in the order of R36. -/
def Pkt.bytes (p : Pkt) : List Byte :=
  p.header ++ p.ext.bytes ++ p.payload ++ p.pad ++ (if p.plen = 0 then [] else toBe 4 p.pcrc.toNat)

/-- Length of a packet by its header fields (02 R38). -/
def Pkt.len (p : Pkt) : Nat :=
  p.hlen.toNat * 8 + (p.plen.toNat + 3) / 4 * 4 + (if 0 < p.plen.toNat then 4 else 0)

/-- The header CRC (02 R44): HOPS, and PTR of a source route, count as 0; a reserved HLEN covers bytes 0-27 only. -/
def Pkt.crc (p : Pkt) : Word :=
  let head := ({ p with hops := 0 } : Pkt).header.take 28
  match p.ext with
  | .none => crc32c head
  | .sr v => crc32c (head ++ toBe 16 (v.toNat % 2 ^ 124))
  | .coll v => crc32c (head ++ toBe 24 v.toNat)
  | .raw _ => crc32c head

/-- The payload CRC (02 R45). -/
def Pkt.dataCrc (p : Pkt) : Word := crc32c (p.payload ++ p.pad)

/-- The payload CRC holds, or there is no payload. -/
def Pkt.dataOk (p : Pkt) : Bool := p.plen == 0 || p.pcrc == p.dataCrc

/-- A packet with its two CRCs computed. -/
def Pkt.seal (p : Pkt) : Pkt :=
  let q := { p with pcrc := if p.plen = 0 then 0 else p.dataCrc }
  { q with hcrc := q.crc }

/-- Credit cells of a packet of `len` bytes (05 R148). -/
def cellsOf (len : Nat) : Nat := (len + 63) / 64

/-- Pool of a packet: shared up, shared turned, class 7 up, class 7 turned (05, "Hop credits"). -/
def poolOf (tc : BitVec 3) (vc : Bool) : Nat := (if tc == 7 then 2 else 0) + b2n vc

/-- Payload with its pad (02 R36). -/
def padOf (n : Nat) : List Byte := List.replicate ((4 - n % 4) % 4) 0

/-! ## Source-route extension (02 Table 02-6) -/

/-- PTR. -/
def srPtr (v : BitVec 128) : Nat := bits v.toNat 127 124

/-- NH. -/
def srNh (v : BitVec 128) : Nat := bits v.toNat 123 120

/-- HOPi. -/
def srHop (v : BitVec 128) (i : Nat) : Nat := bits v.toNat (111 - 10 * i) (102 - 10 * i)

/-- The extension with PTR + 1 (02 R46, R56). -/
def srNext (v : BitVec 128) : BitVec 128 := v + BitVec.ofNat 128 (2 ^ 124)

/-- NH is reserved, or PTR lies past it (02 R56). -/
def srBad (v : BitVec 128) : Bool := srNh v == 0 || 9 ≤ srNh v || srNh v < srPtr v

/-! ## Collective extension (02 Table 02-7) -/

/-- The fields of a collective extension. -/
structure CollExt where
  ctx : Nat
  fmt : Nat
  op : Nat
  tree : Bool
  tile : Nat
  member : Nat
  msr : Bool
  nr : Bool
  rt : Bool
  deckle : Word64
  deriving DecidableEq, Repr

/-- The fields of a 192-bit collective extension. -/
def CollExt.of (v : BitVec 192) : CollExt :=
  let x := v.toNat
  { ctx := bits x 191 170, fmt := bits x 169 165, op := bits x 164 162, tree := bit x 161, tile := bits x 159 128,
    member := bits x 127 108, msr := bit x 107, nr := bit x 106, rt := bit x 105, deckle := BitVec.ofNat 64 (bits x 63 0) }

/-- The extension that holds the fields. -/
def CollExt.bits (c : CollExt) : BitVec 192 :=
  BitVec.ofNat 192
    (c.ctx * 2 ^ 170 + c.fmt * 2 ^ 165 + c.op * 2 ^ 162 + b2n c.tree * 2 ^ 161 + c.tile * 2 ^ 128 +
      c.member * 2 ^ 108 + b2n c.msr * 2 ^ 107 + b2n c.nr * 2 ^ 106 + b2n c.rt * 2 ^ 105 + c.deckle.toNat)

/-- The collective extension of a packet. -/
def Pkt.coll (p : Pkt) : Option CollExt :=
  match p.ext with
  | .coll v => some (CollExt.of v)
  | _ => none

/-! ## Receive checks that need the packet alone (02 Tables 02-2, 02-3, 02-11) -/

/-- Check 3: VER 1, HLEN 4, 6 or 7, and XP 1 exactly when HLEN is not 4 (02 R37, R40). -/
def Pkt.headerOk (p : Pkt) : Bool :=
  p.ver == 1 && (p.hlen == 4 || p.hlen == 6 || p.hlen == 7) && p.xp == (p.hlen != 4)

/-- Route modes of Table 02-2. -/
abbrev rmSpray : BitVec 2 := 0
abbrev rmSource : BitVec 2 := 1
abbrev rmMulticast : BitVec 2 := 2
abbrev rmLocal : BitVec 2 := 3

/-- Check 4: kind, route mode, class and extension by Table 02-3, R41 and R42. Credit grants and notices carry no
extension, and a source-mode packet must carry one, so none of them passes in source mode (log 17). -/
def Pkt.kindOk (p : Pkt) : Bool :=
  let coll := p.hlen == 7
  let none := p.hlen == 4
  let low := p.tc != 7
  let ext := if p.rm == rmSource then p.hlen == 6 else p.hlen != 6
  let kind :=
    match p.kind.toNat with
    | 1 => !coll && p.rm != rmLocal && low
    | 2 => coll && p.rm == rmSpray && low
    | 3 => coll && (p.rm == rmSpray || p.rm == rmMulticast) && low
    | 4 => !coll && p.rm != rmLocal && low
    | 5 => coll && p.rm == rmSpray && low
    | 6 => none && (p.rm == rmSpray || p.rm == rmSource) && p.tc == 6
    | 7 => none && p.rm != rmMulticast && p.tc == 7
    | 8 => none && (p.rm == rmSpray || p.rm == rmSource) && p.tc == 6
    | 9 => !coll && p.rm != rmMulticast
    | _ => false
  ext && kind && (p.tc != 7 || p.plen.toNat ≤ 256)

/-- A local service GEI (02 Table 02-4). -/
def isLocalGei (g : Word) : Bool := 0xFFFFFF00 ≤ g.toNat

/-- FMT and OP are not reserved (02 R59, R60). -/
def CollExt.codesOk (c : CollExt) : Bool := 1 ≤ c.fmt && c.fmt ≤ 15 && c.op ≤ 4

/-- Kinds that a service accepts (02 Table 02-5); a credit grant goes to the service that owns the flow it grants (05 R157, R158),
and 0x00, 0x02 and 0x03 send under flow contexts (log 16). -/
def svcAccepts (s kind : Nat) : Bool :=
  match s with
  | 0 => kind == 9 || kind == 6
  | 1 => kind == 2 || kind == 3
  | 2 => kind == 4 || kind == 9 || kind == 6
  | 3 => kind == 5 || kind == 6
  | 4 => kind == 9
  | 5 => kind == 7 || kind == 8
  | 6 => kind == 9
  | _ => false

/-- Abort code of a packet that a service does not take (02 R50, 10 R349, 12 R382); `none` when it takes the packet. -/
def svcRefusal (s : Nat) (p : Pkt) : Option Word :=
  if s == 3 && p.kind == 9 then some vaultBadmsg
  else if !svcAccepts s p.kind.toNat then some fwdService
  else if s == 6 && beAt p.payload 0 1 != 2 then some ocsBadmsg
  else none

/-! ## Ordered sets (02 R64, Table 02-12) -/

/-- An ordered set is valid when its CRC-32C holds and its type is 0x01-0x03. -/
def osOk (b : List Byte) : Bool :=
  wordAt b 12 == crc32c (bytesAt b 0 12) && 1 ≤ beAt b 0 1 && beAt b 0 1 ≤ 3

/-- An ordered set of a type with a sequence number and ten bytes of content. -/
def osBuild (type : Nat) (seq : BitVec 8) (body : List Byte) : List Byte :=
  let b := BitVec.ofNat 8 type :: seq :: bytesAt body 0 10
  b ++ toBe 4 (crc32c b).toNat

/-! ## Notices (02 Table 02-10) -/

/-- Payload of a fault notice. -/
def faultPayload (code reporter time : Word) (port : Nat) : List Byte :=
  toBe 4 code.toNat ++ toBe 4 reporter.toNat ++ toBe 4 time.toNat ++ toBe 4 (port * 2 ^ 22)

/-- Payload of an error notice: the fault notice's fields with the abort code, and the offending bytes 0-31. -/
def errorPayload (code reporter time : Word) (port : Nat) (head : List Byte) : List Byte :=
  faultPayload code reporter time port ++ bytesAt head 0 32

end Sys2Proof.Machine
end

