-- ==== Sys2Proof/Machine/Lookup.lean ====
section
/-! DEFINITION. The forwarding tables: hash functions, placement, lookup, and the spray pick (03 R90, 04). -/

namespace Sys2Proof.Machine

/-! ## Hash functions (04 R113) -/

/-- Mask of a prefix of `len` bits. -/
def lpmMask (len : Nat) : Word := if len = 0 then 0 else 0xFFFFFFFF#32 <<< (32 - len)

/-- Key of a bank. -/
def bankKey (seed : Word) (bank : Bool) : Word :=
  if bank then ((seed >>> 16) ||| (seed <<< 16)) ^^^ 0x3C6EF372#32 else seed

/-- Candidate bucket of an exact-match key, 0-131,071. -/
def emBucket (gei seed : Word) (bank : Bool) : Nat := (mix32 (gei ^^^ bankKey seed bank) >>> 15).toNat

/-- Candidate bucket of a prefix, 0-16,383. -/
def lpmBucket (pfx : Word) (len : Nat) (seed : Word) (bank : Bool) : Nat :=
  (mix32 ((pfx &&& lpmMask len) ^^^ (BitVec.ofNat 32 len * 0x9E3779B9#32) ^^^ bankKey seed bank) >>> 18).toNat

/-! ## Positions (04 R111, R138) -/

/-- First positions of bank 1, of the overflow store and of the end. -/
structure Regions where
  bank1 : Nat
  ovf : Nat
  stop : Nat

/-- Regions of the exact-match table. -/
def emRegions : Regions := { bank1 := 524288, ovf := 1048576, stop := 1056768 }

/-- Regions of the LPM table. -/
def lpmRegions : Regions := { bank1 := 65536, ovf := 131072, stop := 132096 }

/-- The four positions of a bucket. -/
def bucketPos (r : Regions) (bank : Bool) (b : Nat) : List Nat :=
  let p := (if bank then r.bank1 else 0) + 4 * b
  [p, p + 1, p + 2, p + 3]

/-- LOC of a position: bank 0, bank 1 or overflow (04 Table 04-2). -/
def locOf (r : Regions) (pos : Nat) : Nat := if pos < r.bank1 then 0 else if pos < r.ovf then 1 else 2

/-- Positions of the two candidate buckets of an exact-match key. -/
def emCands (seed key : Word) : List Nat :=
  bucketPos emRegions false (emBucket key seed false) ++ bucketPos emRegions true (emBucket key seed true)

/-- Positions of the two candidate buckets of a prefix. -/
def lpmCands (seed pfx : Word) (len : Nat) : List Nat :=
  bucketPos lpmRegions false (lpmBucket pfx len seed false) ++ bucketPos lpmRegions true (lpmBucket pfx len seed true)

/-- The stored entry that satisfies `p`, at one of the candidate positions or in the overflow store (04 R119). -/
def findEntry {α : Type} (t : Sparse α) (r : Regions) (cands : List Nat) (p : α → Bool) : Option (Nat × α) :=
  match cands.find? (fun i => match get? t i with | some e => p e | none => false) with
  | some i => (get? t i).map fun e => (i, e)
  | none => t.find? fun e => r.ovf ≤ e.1 && p e.2

/-- Exact-match search. -/
def Version.emFind (v : Version) (key : Word) : Option (Nat × EmEntry) :=
  findEntry v.em emRegions (emCands v.seed key) (fun e => e.key == key)

/-- Search for a prefix of an exact length. -/
def Version.lpmFind (v : Version) (pfx : Word) (len : Nat) : Option (Nat × LpmEntry) :=
  findEntry v.lpm lpmRegions (lpmCands v.seed pfx len) (fun e => e.pfx == pfx &&& lpmMask len && e.len == len)

/-- A prefix covers filter index `i` (04 R120). -/
def covers (pfx : Word) (len i : Nat) : Bool :=
  if len ≤ 16 then (BitVec.ofNat 32 (i * 65536) &&& lpmMask len) == pfx else pfx.toNat / 65536 == i

/-- Filter vector `i`: bit L is 1 exactly when a stored prefix of length L covers the index (04 R120). -/
def Version.filter (v : Version) (i : Nat) : Nat :=
  v.lpm.foldl (fun a e => if covers e.2.pfx e.2.len i then a ||| 2 ^ e.2.len else a) 0

/-- Longest-prefix lookup from length `n - 1` down over the filter vector `f` (04 R121). -/
def lpmLoop (v : Version) (f : Nat) (gei : Word) : Nat → Option (Nat × LpmEntry)
  | 0 => none
  | n + 1 =>
    match (if bit f n then v.lpmFind (gei &&& lpmMask n) n else none) with
    | some e => some e
    | none => lpmLoop v f gei n

/-- Longest-prefix lookup (04 R121). -/
def Version.lpmLookup (v : Version) (gei : Word) : Option (Nat × LpmEntry) :=
  lpmLoop v (v.filter (gei.toNat / 65536)) gei 33

/-- Route result of a destination GEI: exact match first, then the longest prefix (03 R75). -/
def Version.route (v : Version) (gei : Word) : Option Word :=
  match v.emFind gei with
  | some e => some e.2.result
  | none => (v.lpmLookup gei).map fun e => e.2.result

/-! ## Placement (04 R117) -/

/-- Where an insert goes: the candidate bucket with fewer valid entries (bank 0 on a tie), its lowest free slot; with
both full, the lowest free slot of the overflow store; `none` when that is full too. -/
def freeSlot {α : Type} (t : Sparse α) (r : Regions) (cands : List Nat) : Option Nat :=
  let b0 := cands.take 4
  let b1 := cands.drop 4
  let used (l : List Nat) := (l.filter fun i => (get? t i).isSome).length
  let pick := if used b0 ≤ used b1 then b0 else b1
  match pick.find? (fun i => (get? t i).isNone) with
  | some i => some i
  | none => firstFrom (fun i => (get? t i).isNone) r.ovf (r.stop - r.ovf)

/-- The write that an exact-match insert makes (04 R117); `none` when every place is taken. -/
def Version.emPlace (v : Version) (e : EmEntry) : Option Nat :=
  match v.emFind e.key with
  | some (i, _) => some i
  | none => freeSlot v.em emRegions (emCands v.seed e.key)

/-- The write that an LPM insert makes (04 R117). -/
def Version.lpmPlace (v : Version) (e : LpmEntry) : Option Nat :=
  match v.lpmFind e.pfx e.len with
  | some (i, _) => some i
  | none => freeSlot v.lpm lpmRegions (lpmCands v.seed e.pfx e.len)

/-! ## Versions -/

/-- A version of the tables. -/
def Tables.ver (t : Tables) (b : Bool) : Version := if b then t.v1 else t.v0

/-- A version put through `f`. -/
def Tables.modVer (t : Tables) (b : Bool) (f : Version → Version) : Tables :=
  if b then { t with v1 := f t.v1 } else { t with v0 := f t.v0 }

/-- A key at a value, or without one. -/
def putOpt {α : Type} (t : Sparse α) (k : Nat) : Option α → Sparse α
  | some v => put t k v
  | none => del t k

/-- A spray set of empty slots and an invalid empty group are not listed. -/
def sprayOpt (s : List (BitVec 16)) : Option (List (BitVec 16)) := if s.all (· == 0) then none else some s

/-- As `sprayOpt`, for a group entry. -/
def groupOpt (g : Group) : Option Group := if g = {} then none else some g

/-- One item changes as a whole (04 R126). -/
def TblWrite.apply (t : Tables) : TblWrite → Tables
  | .em b i e => t.modVer b fun v => { v with em := putOpt v.em i e }
  | .lpm b i e => t.modVer b fun v => { v with lpm := putOpt v.lpm i e }
  | .spray b i s => t.modVer b fun v => { v with spray := putOpt v.spray i (sprayOpt s) }
  | .group b i g => t.modVer b fun v => { v with groups := putOpt v.groups i (groupOpt g) }
  | .none => t

/-- The tables with a list of writes applied in order. -/
def Tables.applyAll (t : Tables) (l : List InFlight) : Tables := l.foldl (fun t w => w.write.apply t) t

/-- The version as it stands after every write that the sequencer took up (04 R137). -/
def Tables.seqVer (t : Tables) (b : Bool) : Version := (t.applyAll t.inflight).ver b

/-- The version that one packet's lookup sees (04 R126): the completed writes, and of those in flight as many, oldest
first, as the die has applied: a free value (log 3). -/
def Sys.seenVer (b : Bool) (s : Sys) : Version × Sys :=
  if s.tab.inflight.isEmpty then (s.tab.ver b, s)
  else
    let d := s.draw
    (((s.tab.applyAll (s.tab.inflight.take (Config.writesSeen d.1 % (s.tab.inflight.length + 1)))).ver b), d.2)

/-- Items of version `b` through which the lookup of a unicast destination resolves: its entry, and the spray set of its result. -/
def Version.itemsOf (v : Version) (b : Bool) (gei : Word) : List TableItem :=
  let spray (r : Word) : List TableItem := if fld r 31 30 = 2 then [.spray b (fld r 13 0)] else []
  match v.emFind gei with
  | some e => .em b e.1 :: spray e.2.result
  | none =>
    match v.lpmLookup gei with
    | some e => .lpm b e.1 :: spray e.2.result
    | none => []

/-- An item is damaged on a port die and not yet loaded again (14 R443). -/
def Sys.damaged (die : Nat) (i : TableItem) (s : Sys) : Bool :=
  s.mem.damaged.any fun e => e.1 == die && e.2.1 == i && decide (s.clk.mono < e.2.2)

/-- A spray set: 64 slots, 0 where never written (03 R86). -/
def Version.sprayOf (v : Version) (id : Nat) : List (BitVec 16) := getD v.spray id (List.replicate 64 0)

/-! ## Ports as forwarding sees them -/

/-- Port configuration; the default WIDTH is 8 on multiples of 8 (13 Table 13-2). -/
def Sys.pcfg (p : Nat) (s : Sys) : PortCfg := getD s.nv.portCfg p { width := if p % 8 = 0 then 8 else 0 }

/-- A configured port has a width that is not 0 (13 R400). -/
def Sys.configured (p : Nat) (s : Sys) : Bool := (s.pcfg p).width != 0

/-- The state of a port. -/
def Sys.port (p : Nat) (s : Sys) : PortSt := getD s.ports.port p {}

/-- A port put through `f`. -/
def Sys.modPort (p : Nat) (f : PortSt → PortSt) (s : Sys) : Sys :=
  s.modPorts fun q => { q with port := modify q.port p {} f }

/-- DIR of a port (03 Table 03-6). -/
def Sys.dir (p : Nat) (s : Sys) : BitVec 2 := getD s.nv.dir p 2

/-- Number of bits set in the low 8 bits. -/
def popcount8 (m : BitVec 8) : Nat := ((List.range 8).filter fun i => m.getLsbD i).length

/-- Active lanes of a port. -/
def Sys.lanes (p : Nat) (s : Sys) : Nat := popcount8 (s.port p).active

/-- Seasoning record of a port (13 R412). -/
def Sys.season (p : Nat) (s : Sys) : Season := getD s.nv.season p {}

/-- Health weight (03 R88, Table 03-7; 13 R410, R414). -/
def Sys.hw (p : Nat) (s : Sys) : Nat :=
  let q := s.port p
  let w := (s.pcfg p).width
  if q.st == .up && q.peerState == 2 && (s.dir p == 0 || s.dir p == 1) && q.active != 0 && w != 0 then
    min (if (s.season p).hist then 4 else 2) (max 1 (4 * s.lanes p / w))
  else 0

/-- PFENCE of a port. -/
def Sys.pfence (p : Nat) (s : Sys) : Bool := getD s.fwd.pfence p false

/-- Health weight as R103 takes it: 0 behind a port fence. -/
def Sys.hwFenced (p : Nat) (s : Sys) : Nat := if s.pfence p then 0 else s.hw p

/-- Egress scheduler of a port. -/
def Sys.eg (p : Nat) (s : Sys) : EgPort := getD s.sw.eg p {}

/-- Egress scheduler of a port put through `f`. -/
def Sys.modEg (p : Nat) (f : EgPort → EgPort) (s : Sys) : Sys :=
  s.modSw fun w => { w with eg := modify w.eg p {} f }

/-- One of the 16 queues of a port (11 R352). -/
def EgPort.q (e : EgPort) (k : Nat) : List Desc := getD e.queue k []

/-- Queue number of a class and channel. -/
def queueKey (tc : BitVec 3) (vc : Bool) : Nat := 2 * tc.toNat + b2n vc

/-- Queued bytes of a port, over all its queues. -/
def EgPort.bytes (e : EgPort) : Nat := sum (e.queue.map fun q => sum (q.2.map Desc.len))

/-- LEVEL (03 R89). -/
def Sys.level (p : Nat) (s : Sys) : Nat := min 15 ((s.eg p).bytes / 16384)

/-! ## Spray pick (03 R90) -/

/-- Key of a pick. -/
def sprayKey (flow : BitVec 24) (seq ctr : Word) : Word :=
  ((flow.setWidth 32 <<< 8) ^^^ seq) ^^^ (ctr * 0x9E3779B9#32)

/-- Weight of a slot: configured weight times health weight, 0 for a turn up after arriving down. -/
def slotWeight (s : Sys) (down : Bool) (slot : BitVec 16) : Nat :=
  let p := bits slot.toNat 9 0
  if down && s.dir p == 1 then 0 else bits slot.toNat 15 12 * s.hwFenced p

/-- Port of the slot in which draw `r` falls, walking the weights. -/
def drawSlot (s : Sys) (down : Bool) : List (BitVec 16) → Nat → Nat
  | [], _ => 0
  | x :: rest, r =>
    let w := slotWeight s down x
    if r < w then bits x.toNat 9 0 else drawSlot s down rest (r - w)

/-- spray_pick: two weighted draws, the shorter queue wins, a tie keeps the first; `none` when no member is eligible. -/
def sprayPick (s : Sys) (slots : List (BitVec 16)) (down : Bool) (key : Word) : Option Nat :=
  let total := sum (slots.map (slotWeight s down))
  if total = 0 then none
  else
    let a := drawSlot s down slots ((mix32 key).toNat % total)
    let b := drawSlot s down slots ((mix32 (key ^^^ 0x5BD1E995#32)).toNat % total)
    some (if s.level b < s.level a then b else a)

/-- A GEI is in the fence list (03 R102). -/
def Sys.fenced (gei : Word) (s : Sys) : Bool := gei != 0 && s.fwd.fence.any fun e => e.2 == gei

/-- Switch service GEI of the module with a service code; none while VALID is clear (02 R48, 18 R552). -/
def Sys.ownGei (svc : Nat) (s : Sys) : Word :=
  BitVec.ofNat 32
    (0xE0000000 + s.nv.plane.toNat * 2 ^ 24 + s.nv.group.toNat * 2 ^ 16 + s.nv.index.toNat * 2 ^ 8 + svc)

/-- The service code, when the GEI is one of the module's own switch service GEIs (02 R48). -/
def Sys.ownService (gei : Word) (s : Sys) : Option Nat :=
  if s.nv.coordValid && gei.toNat / 256 == (s.ownGei 0).toNat / 256 then some (gei.toNat % 256) else none

/-- The job record of a tag; tag 0 is always active with generation 0 (02 R52). -/
def Sys.job (tag : BitVec 16) (s : Sys) : JobRec :=
  if tag = 0 then { active := true, gen := 0 } else if tag = 0xFFFF then {} else getD s.fwd.jobs tag.toNat {}

/-! ## Collective contexts as the port dies see them -/

/-- The tree of a tile (02 R58): T1 for an odd tile of a context with two trees. -/
def CtxDesc.tree (d : CtxDesc) (tile : Nat) : Bool := d.role1 != 0 && tile % 2 == 1

/-- The module's role in a tree: 1 root, 2 interior, 0 none (07 Table 07-1). -/
def CtxDesc.role (d : CtxDesc) (tree : Bool) : BitVec 2 := if tree then d.role1 else d.role0

/-- The core die that takes a copy of a replicated reduce result, when the module is interior in the result's tree
(07 R242). -/
def Sys.interiorCopy (p : Pkt) (s : Sys) : Option Nat :=
  match p.kind == 3, p.coll with
  | true, some c =>
    match get? s.coll.ctx c.ctx with
    | some x => if x.desc.role (x.desc.tree c.tile) = 2 then some (c.ctx % 4) else none
    | none => none
  | _, _ => none

/-- State of a version (03 Table 03-3). -/
def Sys.verState (b : Bool) (s : Sys) : BitVec 2 := if b then s.fwd.st1 else s.fwd.st0

end Sys2Proof.Machine
end

