-- ==== Sys2Proof/Machine/FeltNet.lean ====
section
/-! DEFINITION. The Felt as a network: its links and routes, transfers cut into flits, retry, and ring slots (15 R453-R462,
05 R174, R175, 01 R21, R22). -/

namespace Sys2Proof.Machine

/-! ## Links (15 Table 15-1) -/

/-- The pairs of the mesh links 32-37. -/
def meshPairs : List (Nat × Nat) := [(0, 1), (0, 2), (0, 3), (1, 2), (1, 3), (2, 3)]

/-- The two dies of a link as units: near end, far end. -/
def linkEnds (l : Nat) : Nat × Nat :=
  if l < 16 then (l, (l + 1) % 16)
  else if l < 32 then (16 + (l - 16) / 4, l - 16)
  else let p := nth meshPairs (l - 32) (0, 0); (16 + p.1, 16 + p.2)

/-- Lane modules in each direction. -/
def linkMods (l : Nat) : Nat := if l < 16 then 9 else if l < 32 then 20 else 25

/-- The mask of all lane modules of a link. -/
def fullMask (l : Nat) : BitVec 32 := BitVec.ofNat 32 (2 ^ linkMods l - 1)

/-- The mesh link of two core dies. -/
def meshLink (a b : Nat) : Nat := 32 + (meshPairs.findIdx fun p => p == (min a b, max a b))

/-- Links of a die, by unit number. -/
def dieLinks (u : Nat) : List Nat := (List.range 38).filter fun l => (linkEnds l).1 == u || (linkEnds l).2 == u

/-- A Felt link. -/
def Sys.link (n : Nat) (s : Sys) : FeltLink := getD s.felt.link n {}

/-- A link put through `f`. -/
def Sys.modLink (l : Nat) (f : FeltLink → FeltLink) (s : Sys) : Sys := s.modFelt fun t => { t with link := modify t.link l {} f }

/-- A Felt link in service (15 Table 15-9). -/
def Sys.linkUp (n : Nat) (s : Sys) : Bool := (s.link n).st == .full || (s.link n).st == .reduced

/-- A link is in service and neither of its dies is lost. -/
def Sys.linkOk (s : Sys) (l : Nat) : Bool :=
  s.linkUp l && !s.boot.lostDies.contains (linkEnds l).1 && !s.boot.lostDies.contains (linkEnds l).2

/-- The agreed record of a link. -/
def Sys.agreed (l : Nat) (s : Sys) : FeltRec := getD s.nv.feltAgreed l {}

/-- A direction of a link; `far` names the one toward the far end. -/
def FeltLink.dir (x : FeltLink) (far : Bool) : FeltDir := if far then x.toFar else x.toNear

/-- A direction of a link, put through `f`. -/
def Sys.modDir (l : Nat) (far : Bool) (f : FeltDir → FeltDir) (s : Sys) : Sys :=
  s.modLink l fun x => if far then { x with toFar := f x.toFar } else { x with toNear := f x.toNear }

/-- The die that sends, and the die that receives, in a direction of a link. -/
def dirFrom (l : Nat) (far : Bool) : Nat := if far then (linkEnds l).1 else (linkEnds l).2
def dirTo (l : Nat) (far : Bool) : Nat := if far then (linkEnds l).2 else (linkEnds l).1

/-- Lane modules of a link that are in service and not paused. -/
def Sys.modsOn (l : Nat) (s : Sys) : List Nat :=
  (List.range (linkMods l)).filter fun m => (s.agreed l).mask.getLsbD m && !(s.link l).paused.contains m

/-! ## Routes (15 R459, R460) -/

/-- The ring hop from a port die in a direction, and the die that it leads to. -/
def ringHop (d : Nat) (up : Bool) : Nat × Nat := if up then (d, (d + 1) % 16) else ((d + 15) % 16, (d + 15) % 16)

/-- The nearest port die in one direction whose hub link is in service, over ring hops in service. -/
def hubWalk (ok : Nat → Bool) (up : Bool) : Nat → Nat → Option (Nat × List Nat)
  | 0, _ => none
  | n + 1, d =>
    let h := ringHop d up
    if !ok h.1 then none
    else if ok (16 + h.2) then some (h.2, [h.1])
    else (hubWalk ok up n h.2).map fun r => (r.1, h.1 :: r.2)

/-- The hub that a port die uses: its own, or that of the nearest port die on the ring whose hub link is in service, ties
to the lower die number; with the ring direction and the ring hops to it (15 Table 15-5). -/
def hubOf (ok : Nat → Bool) (d : Nat) : Option (Nat × Bool × List Nat) :=
  if ok (16 + d) then some (d, true, [])
  else
    match hubWalk ok true 15 d, hubWalk ok false 15 d with
    | some a, some b =>
      if a.2.length < b.2.length ∨ (a.2.length = b.2.length ∧ a.1 ≤ b.1) then some (a.1, true, a.2) else some (b.1, false, b.2)
    | some a, none => some (a.1, true, a.2)
    | none, some b => some (b.1, false, b.2)
    | none, none => none

/-- The mesh links between two core dies. -/
def meshRoute (ok : Nat → Bool) (a b : Nat) : Option (List Nat) :=
  if a = b then some []
  else if ok (meshLink a b) then some [meshLink a b]
  else
    ((List.range 4).find? fun c => c != a && c != b && ok (meshLink a c) && ok (meshLink c b)).map fun c =>
      [meshLink a c, meshLink c b]

/-- Two port dies are neighbours over a ring hop in service: its direction. -/
def neighbour (ok : Nat → Bool) (a b : Nat) : Option Bool :=
  if a < 16 && b < 16 && b == (a + 1) % 16 && ok a then some true
  else if a < 16 && b < 16 && a == (b + 1) % 16 && ok b then some false
  else none

/-- The links of the route from one die to another, with the links that are in service (Tables 15-4 and 15-5). -/
def feltRoute (ok : Nat → Bool) (a b : Nat) : Option (List Nat) :=
  if a = b then some []
  else
    match neighbour ok a b with
    | some up => some [(ringHop a up).1]
    | none =>
      let src : Option (Nat × List Nat) :=
        if a < 16 then (hubOf ok a).map fun h => (h.1 / 4, h.2.2 ++ [16 + h.1]) else some (a - 16, [])
      let dst : Option (Nat × List Nat) :=
        if b < 16 then (hubOf ok b).map fun h => (h.1 / 4, (16 + h.1) :: h.2.2.reverse) else some (b - 16, [])
      match src, dst with
      | some x, some y => (meshRoute ok x.1 y.1).map fun m => x.2 ++ m ++ y.2
      | _, _ => none

/-- The ring legs of that route (05 R174; Table 15-5). -/
def ringLegs (ok : Nat → Bool) (a b : Nat) : List RingLeg :=
  if a = b ∨ (feltRoute ok a b).isNone then []
  else
    match neighbour ok a b with
    | some up => [{ entry := a, up, exit := b }]
    | none =>
      let into : List RingLeg :=
        match (if a < 16 then hubOf ok a else none) with
        | some h => if h.2.2.isEmpty then [] else [{ entry := a, up := h.2.1, exit := h.1 }]
        | none => []
      let out : List RingLeg :=
        match (if b < 16 then hubOf ok b else none) with
        | some h => if h.2.2.isEmpty then [] else [{ entry := h.1, up := !h.2.1, exit := b }]
        | none => []
      into ++ out

/-- A hop of a transfer from a die: link, direction, route stage (0 ring-in, 1 up, 2 across-1, 3 across-2, 4 down, 5
ring-out), and for a ring hop the direction and the die where it leaves the ring (15 R461). -/
structure Hop where
  link : Nat
  far : Bool
  stage : Nat
  up : Bool := true
  exit : Nat := 0

/-- How a transfer came to a die: the stage of its last hop, and its ring header (15 R455). -/
structure Came where
  stage : Nat
  exit : Nat := 0
  up : Bool := true

/-- A hop on the ring in a direction. -/
def ringStep (a : Nat) (up : Bool) (stage exit : Nat) : Hop := { link := (ringHop a up).1, far := up, stage, up, exit }

/-- The next hop of a transfer at die `a` for die `b`, which came there by `came` (none at its source). On the ring it goes on to
its exit die, where a detour takes that die's hub; past the down stage it goes out by the ring (15 R460, R461, Table 15-5). -/
def nextHop (ok : Nat → Bool) (a b : Nat) (came : Option Came) : Option Hop :=
  let fresh : Option Hop :=
    match feltRoute ok a b with
    | some (l :: _) =>
      if l < 16 then
        (ringLegs ok a b).head?.map fun leg => ringStep a leg.up (if leg.exit = b then 5 else 0) leg.exit
      else
        let far := (linkEnds l).1 == a
        let across := match came with | some c => if c.stage < 2 then 2 else 3 | none => 2
        some { link := l, far, stage := if 32 ≤ l then across else if far then 4 else 1 }
    | _ => none
  if a = b then none
  else
    match came with
    | some c =>
      if a < 16 ∧ c.stage = 4 then
        match (if b < 16 then hubOf ok b else none) with
        | some h => some (ringStep a (!h.2.1) 5 b)
        | none => none
      else if a < 16 ∧ (c.stage = 0 ∨ c.stage = 5) then
        if a ≠ c.exit ∧ ok (ringHop a c.up).1 then some (ringStep a c.up c.stage c.exit)
        else if a = c.exit ∧ ok (16 + a) then some { link := 16 + a, far := false, stage := 1 }
        else fresh
      else fresh
    | none => fresh

/-! ## Flits (15 R455-R457) -/

/-- FTYPE of a traffic kind (15 Table 15-3). -/
def Traffic.code : Traffic → Nat
  | .control => 1
  | .packet => 2
  | .memory => 3
  | .fence => 4

/-- The 8-byte transfer header: destination die, traffic kind, route stage, a zero byte, length in bytes (15 R455; the
places are log 127). -/
def xferHead (kind : Traffic) (dst stage len : Nat) : List Byte :=
  toBe 1 dst ++ toBe 1 kind.code ++ toBe 1 stage ++ [0] ++ toBe 4 len

/-- The 8-byte ring header: exit die, ring direction, slot kind (15 R455; the places are log 127). -/
def ringHead (x : Xfer) : List Byte :=
  toBe 1 x.exit ++ toBe 1 (b2n x.up) ++ toBe 1 (b2n (x.kind == .memory)) ++ List.replicate 5 0

/-- Transfer bytes in one flit of a link. -/
def flitRoom (l : Nat) : Nat := if l < 16 then 112 else 120

/-- A flit with its link fields and CRC (15 Table 15-2). -/
def flitBuild (payload : List Byte) (seq : BitVec 12) (ftype : Nat) (ack : BitVec 12) (nak : Bool) : List Byte :=
  let b := fit 120 payload ++ toBe 2 (seq.toNat * 16 + ftype) ++ toBe 2 (ack.toNat * 16 + 8 * b2n nak)
  b ++ toBe 4 (crc32c b).toNat

/-- SEQ, FTYPE, ACKSEQ and NAK of a flit, and whether its CRC holds. -/
structure FlitHead where
  seq : BitVec 12
  ftype : Nat
  ackSeq : BitVec 12
  nak : Bool
  ok : Bool
  deriving DecidableEq, Repr

/-- The fields of a flit. -/
def FlitHead.of (f : List Byte) : FlitHead :=
  let a := beAt f 120 2
  let b := beAt f 122 2
  { seq := bv 12 a 4, ftype := bits a 3 0, ackSeq := bv 12 b 4, nak := bit b 3, ok := wordAt f 124 == crc32c (bytesAt f 0 124) }

/-- `x` lies at or before `y` in 12-bit serial order. -/
def seqLe (x y : BitVec 12) : Bool := (y - x).toNat < 2048

/-- The lane module after `m` in round robin among those in service. -/
def nextMod (on : List Nat) (m : Nat) : Nat :=
  match on.find? (fun x => m < x) with
  | some x => x
  | none => on.headD 0

/-- A flit leaves on a lane module with the ACKSEQ and NAK that its sender owes the other direction (15 Table 15-2). -/
def Sys.putFlit (l : Nat) (far : Bool) (lmod : Nat) (seq : BitVec 12) (ftype : Nat) (payload : List Byte) (s : Sys) : Sys :=
  let back := (s.link l).dir (!far)
  s.emit (.flit l far lmod (flitBuild payload seq ftype (back.rxNext - 1) back.nak))

/-- An idle flit, which carries ACKSEQ and NAK only and takes no SEQ (15 Table 15-3). -/
def Sys.putIdle (l : Nat) (far : Bool) (s : Sys) : Sys :=
  let d := (s.link l).dir far
  let m := nextMod (s.modsOn l) d.rr
  s.putFlit l far m d.txSeq 0 []

/-- A transfer may send its next flit: it has begun, or the receiver has a buffer of its stage (15 R461). -/
def FeltDir.mayGo (l : Nat) (d : FeltDir) (x : Xfer) : Bool :=
  x.begun || x.kind == .fence || nth d.held x.stage 0 ≤ Config.stageRoom l x.stage

/-- The transfer of a kind whose flit goes next: the one that has begun, since flits of one kind are never interleaved (15
R456), else the oldest that may go; it never waits behind one that waits for the buffers of an earlier stage (15 R461). -/
def FeltDir.oldest (l : Nat) (d : FeltDir) (k : Traffic) : Option Nat :=
  match d.queue.findIdx? (fun x => x.kind == k && x.begun) with
  | some i => some i
  | none => d.queue.findIdx? fun x => x.kind == k && d.mayGo l x

/-- The transfer whose flit goes next: control traffic, then packets, then memory traffic (01 R21); one flit in 16 is
memory traffic's when it waits (01 R22). A route fence goes when everything before it has gone (15 R462). -/
def FeltDir.pick (l : Nat) (d : FeltDir) : Option Nat :=
  let fence := if d.queue.head?.any fun x => x.kind == .fence then some 0 else none
  let usual := ((((d.oldest l .control).or fence).or (d.oldest l .packet)).or (d.oldest l .memory))
  if 15 ≤ d.slot then (d.oldest l .memory).or usual else usual

/-- The buffer that a transfer held at its sender is free again (15 R461). -/
def Sys.freeBuf (b : Option (Nat × Bool × Nat)) (s : Sys) : Sys :=
  match b with
  | some (l, far, st) => s.modDir l far fun d => { d with held := modNth d.held st (· - 1) }
  | none => s

/-- The sender of a direction of a link puts out flits while its retry buffer has room and a transfer may go; the flits are
striped over the lane modules in service (15 R456, R457). -/
def Sys.pumpLoop (l : Nat) (far : Bool) : Nat → Sys → Sys
  | 0, s => s
  | fuel + 1, s =>
    let d := (s.link l).dir far
    let on := s.modsOn l
    if on.isEmpty ∨ 256 ≤ d.retry.length then s
    else
      match d.pick l with
      | none => s
      | some i =>
        match d.queue[i]? with
        | none => s
        | some x =>
          let n := flitRoom l
          let payload := (if l < 16 then ringHead x else []) ++ x.bytes.take n
          let m := nextMod on d.rr
          let last := x.bytes.length ≤ n
          let whole := d.sent ++ (if last then [(d.txSeq, { x with bytes := [], buf := none })] else [])
          let t := s.modDir l far fun d =>
            { d with
              txSeq := d.txSeq + 1
              retry := d.retry ++ [{ seq := d.txSeq, ftype := x.kind.code, payload, lmod := m }]
              queue := if last then d.queue.eraseIdx i else d.queue.set i { x with bytes := x.bytes.drop n, begun := true }
              sent := whole
              held := if x.begun ∨ x.kind = .fence then d.held else modNth d.held x.stage (· + 1)
              rr := m
              slot := if x.kind = .memory then 0 else min 15 (d.slot + 1) }
          let u := t.putFlit l far m d.txSeq x.kind.code payload
          Sys.pumpLoop l far fuel (if last then u.freeBuf x.buf else u)

/-- A link carries flits: it is in service, or it is quiesced and finishes what it has taken (15 R465, R469). -/
def Sys.linkLive (l : Nat) (s : Sys) : Bool :=
  let x := s.link l
  s.linkUp l ||
    (x.st != .down && !(x.toFar.queue.isEmpty && x.toNear.queue.isEmpty && x.toFar.retry.isEmpty && x.toNear.retry.isEmpty))

/-- The sender of a direction goes on as far as it can. -/
def Sys.pump (l : Nat) (far : Bool) (s : Sys) : Sys :=
  if s.linkLive l && !((s.link l).dir far).queue.isEmpty then s.pumpLoop l far 256 else s

/-- A transfer starts from die `a` toward die `b`, on the route that the links in service give; one that no route takes, or
that has no link to cross, is not seen on the Felt. -/
def Sys.feltHop (kind : Traffic) (a b : Nat) (came : Option Came) (bytes : List Byte) (buf : Option (Nat × Bool × Nat))
    (s : Sys) : Sys :=
  match nextHop s.linkOk a b came with
  | none => s.freeBuf buf
  | some h =>
    (s.modDir h.link h.far fun d =>
      { d with
        queue := d.queue ++
          [{ kind, dst := b, stage := h.stage, exit := h.exit, up := h.up, buf, whole := bytes
             bytes := xferHead kind b h.stage bytes.length ++ bytes }] }).pump h.link h.far

/-- A transfer starts at its source. -/
def Sys.feltSend (kind : Traffic) (a b : Nat) (bytes : List Byte) (s : Sys) : Sys := s.feltHop kind a b none bytes none

/-! ## Ring slots (05 R174, R175) -/

/-- Packet and memory slots of a ring direction of a die (05, "The bubble rule"). -/
def pktSlots : Nat := 32
def memSlots : Nat := 64

/-- Key of a ring direction of a die. -/
def ringKey (die : Nat) (up : Bool) : Nat := 2 * die + b2n up

/-- A ring direction of a die. -/
def Sys.ringDir (die : Nat) (up : Bool) (s : Sys) : RingDir := getD s.sw.ring (ringKey die up) {}

/-- A ring direction put through `f`. -/
def Sys.modRing (die : Nat) (up : Bool) (f : RingDir → RingDir) (s : Sys) : Sys :=
  s.modSw fun w => { w with ring := modify w.ring (ringKey die up) {} f }

/-- Port that a transfer is for, 0 where it is for none. -/
def Use.port : Use → Nat
  | .pull p _ => p
  | _ => 0

/-- A wait to enter the ring is counted (05 R175). -/
def Sys.countRingWait (die : Nat) (up : Bool) (port : Nat) (s : Sys) : Sys :=
  (s.count 0x9032 (ringKey die up) 0 1).event die 0x0A port 1

/-- A transfer takes the first of its ring legs: two slots of its kind are free there and nothing waits, or it waits (05 R174). -/
def Sys.enterRing (x : Crossing) (s : Sys) : Sys :=
  match x.legs with
  | [] => s
  | g :: _ =>
    let r := s.ringDir g.entry g.up
    if x.kind = .memory then
      if r.mems.length + 2 ≤ memSlots ∧ r.waitMem.isEmpty then s.modRing g.entry g.up fun r => { r with mems := r.mems ++ [x] }
      else (s.modRing g.entry g.up fun r => { r with waitMem := r.waitMem ++ [x] }).countRingWait g.entry g.up 0
    else if r.pkts.length + 2 ≤ pktSlots ∧ r.waitPkt.isEmpty then
      s.modRing g.entry g.up fun r => { r with pkts := r.pkts ++ [x] }
    else (s.modRing g.entry g.up fun r => { r with waitPkt := r.waitPkt ++ [x] }).countRingWait g.entry g.up x.use.port

/-! ## Transfers between dies -/

/-- A transfer may not start: a route fence to its destination is out (15 R462), or it is a memory transfer for which no route
is in service, which waits in its requester's queue until links agree (21 R613). -/
def Sys.barred (x : Crossing) (s : Sys) : Bool :=
  (s.felt.fences.any fun f => f.1 == x.src && f.2.1 == x.dst) || (x.kind == .memory && (feltRoute s.linkOk x.src x.dst).isNone)

/-- A transfer starts: it is sent over the Felt, and takes ring slots where its route has ring legs; control traffic takes none
(05, "The bubble rule"). True when it is there at once. -/
def Sys.crossNow (x : Crossing) (s : Sys) : Bool × Sys :=
  let legs := if x.kind = .control then [] else ringLegs s.linkOk x.src x.dst
  let t := s.feltSend x.kind x.src x.dst x.bytes
  if legs.isEmpty then (true, t) else (false, t.enterRing { x with legs })

/-- A transfer starts, or is held when it may not or when one of its dies is held before it (15 R462). -/
def Sys.cross (x : Crossing) (s : Sys) : Bool × Sys :=
  if s.barred x || s.felt.held.any fun y => y.src == x.src && y.dst == x.dst then
    (false, s.modFelt fun f => { f with held := f.held ++ [x] })
  else s.crossNow x

/-- A control message goes from die to die; it too is held behind a route fence to its destination (15 R462). -/
def Sys.sendControl (a b : Nat) (bytes : List Byte) (s : Sys) : Sys :=
  if a = b then s else (s.cross { kind := .control, src := a, dst := b, bytes, use := .control }).2

/-- Transfers that wait on their way, held behind fences or in or before ring slots. -/
def Sys.inTransit (s : Sys) : List Crossing :=
  s.felt.held ++ s.sw.ring.flatMap fun e => e.2.pkts ++ e.2.mems ++ e.2.waitPkt ++ e.2.waitMem

/-- Transfers on their way that fail `p` are gone. -/
def Sys.keepTransit (p : Crossing → Bool) (s : Sys) : Sys :=
  (s.modFelt fun f => { f with held := f.held.filter p }).modSw fun w =>
    { w with
      ring := w.ring.map fun e =>
        (e.1, { pkts := e.2.pkts.filter p, mems := e.2.mems.filter p, waitPkt := e.2.waitPkt.filter p, waitMem := e.2.waitMem.filter p }) }

/-! ## Memory transfers (01 R24, 05 R175) -/

/-- A memory transfer is at its destination: a stack's request queue takes it (05 R175). -/
def Sys.sinkMem (stack : Option Nat) (s : Sys) : Sys :=
  match stack with
  | some n => s.modMem fun m => { m with stack := modify m.stack n {} fun k => { k with requests := k.requests + 1 } }
  | none => s

/-- The die that a stack is attached to (01 R16). -/
def stackDie (n : Nat) : Nat := n

/-- Stacks in service, rising (14 R431). -/
def Sys.liveStacks (s : Sys) : List Nat := (List.range 20).filter fun n => (get? s.nv.stackLost n).isNone

/-- One HBM access of a die to a unit of 256 B: a request to the stack that holds it, one of those in service, or a response from
it, crosses the Felt unless the stack is the die's own (01 R24, 14 R431; log 125). -/
def Sys.memAccess (die : Nat) (request : Bool) (bytes : List Byte) (s : Sys) : Sys :=
  let d := s.draw
  let live := s.liveStacks
  let n := nth live (Config.stackOf d.1 % live.length) 0
  let t := d.2
  if live.isEmpty ∨ stackDie n = die then t
  else
    let stack := if request then some n else none
    let r := t.cross
      { kind := .memory, src := if request then die else stackDie n, dst := if request then stackDie n else die, bytes
        use := .memory stack }
    if r.1 then r.2.sinkMem stack else r.2

/-- The accesses of the units of 256 B that some bytes take. -/
def Sys.memUnits (die : Nat) (request : Bool) (bytes : List Byte) (s : Sys) : Sys :=
  (chunks 256 bytes).foldl (fun t b => t.memAccess die request b) s

end Sys2Proof.Machine
end

