-- ==== Sys2Proof/Machine/Egress.lean ====
section
/-! DEFINITION. The packet buffer, the egress queues, spill, origination, notices and drops (02, 03, 05, 09, 11). -/

namespace Sys2Proof.Machine

/-! ## Packet buffer (05 R148, R150, R154, R166) -/

/-- Credit allotment of an ingress pool in cells (05 Table 05-1). -/
def allot (width pool : Nat) : Nat :=
  match pool with
  | 0 => 6528 * width
  | 1 => 1024 * width
  | _ => 64 * width

/-- Cells of the originated-packets pool and of the Felt transit pool, and of the spill-return pool (05 Table 05-3). -/
def origCells : Nat := 8192
def transitCells : Nat := 8192
/-- Cells of the Felt transit pool that the ring slots of both directions take: 32 of 65 cells and 64 of 5 cells in each (05,
"The bubble rule"); the rest is staging. -/
def slotCells : Nat := 2 * (32 * 65 + 64 * 5)
def stageCells : Nat := transitCells - slotCells
def returnCells : Nat := 16384

/-- Cells return to their pool; freed ingress cells are counted in the CREDIT counter (05 R150). -/
def Sys.freeCells (pool : Pool) (cells : Nat) (s : Sys) : Sys :=
  match pool with
  | .ingress p k =>
    s.modPort p.toNat fun q =>
      { q with used := modNth q.used k (· - cells), freed := modNth q.freed k (· + BitVec.ofNat 16 cells) }
  | .originated d => s.modSw fun w => { w with orig := modify w.orig d 0 (· - cells) }
  | .spill => s
  | .spillReturn d => s.modSw fun w => { w with spillRet := modify w.spillRet d 0 (· - cells) }

/-- A buffered packet. -/
def Sys.pktRec (id : Nat) (s : Sys) : Option PktRec := get? s.sw.pkt id

/-- A packet with `copies` copies is buffered; its number is the next one. -/
def Sys.buffer (r : PktRec) (s : Sys) : Nat × Sys :=
  let id := s.sw.nextId
  let s1 := s.modSw fun w => { w with pkt := put w.pkt id r, nextId := id + 1 }
  let s2 :=
    match r.pool with
    | .ingress p k => s1.modPort p.toNat fun q => { q with used := modNth q.used k (· + r.cells) }
    | .originated d => s1.modSw fun w => { w with orig := modify w.orig d 0 (· + r.cells) }
    | _ => s1
  (id, s2)

/-- One copy of a packet has left, been dropped or been consumed; with the last copy its cells are freed (05 R150). -/
def Sys.releaseCopy (id : Nat) (s : Sys) : Sys :=
  match s.pktRec id with
  | none => s
  | some r =>
    if 1 < r.copies then s.modSw fun w => { w with pkt := put w.pkt id { r with copies := r.copies - 1 } }
    else
      let s1 := s.modSw fun w =>
        { w with
          pkt := del w.pkt id
          spillHeld := if r.pool = .spill then w.spillHeld - r.pkt.len else w.spillHeld }
      s1.freeCells r.pool r.cells

/-- Copies of a packet that wait on, leave from or are committed at the ports of a die, out of its transit pool. -/
def Sys.copiesOn (die id : Nat) (s : Sys) : Nat :=
  let here (d : Desc) : Bool := d.id == id && !d.spilled && !d.returned
  sum (s.sw.eg.map fun e =>
    if e.1 / 64 = die then
      (e.2.queue.foldl (fun a q => a + (q.2.filter here).length) 0) + b2n (e.2.tx.any here) + b2n (e.2.committed.any here)
    else 0)

/-- The die's copy of a multicast packet leaves its Felt transit pool with the last destination port (09 R299). -/
def Sys.releaseTransit (die id cells : Nat) (s : Sys) : Sys :=
  if s.copiesOn die id = 0 then s.modSw fun w => { w with transit := modify w.transit die 0 (· - cells) } else s

/-- A copy no longer needs its cells in the pools of its egress die: the spill-return pool, or Felt transit (05 R166). -/
def Sys.freeCopy (port : Nat) (d : Desc) (cells : Nat) (s : Sys) : Sys :=
  let die := port / 64
  if d.returned then s.modSw fun w => { w with spillRet := modify w.spillRet die 0 (· - cells) }
  else if d.mcast then (if d.spilled then s else s.releaseTransit die d.id cells)
  else if d.staged then s.modSw fun w => { w with transit := modify w.transit die 0 (· - cells) }
  else s

/-- A descriptor joins the tail of its queue at a port (11 R352, R375). -/
def Sys.enqueue (p : Nat) (d : Desc) (s : Sys) : Sys :=
  let e := s.eg p
  let ahead := (e.q 14).length + (e.q 15).length
  let d1 := if d.tc = 7 then { d with ahead } else d
  let s1 := s.modEg p fun e => { e with queue := modify e.queue (queueKey d.tc d.vc) [] (· ++ [d1]) }
  if d.tc = 7 ∧ 3 ≤ ahead then s1.count 0x9020 (p * 8 + 7) 5 1 else s1

/-! ## Spill (05 R168-R171) -/

/-- Size of the spill buffer in bytes under the allocation in force (14 Table 14-2). -/
def Sys.spillSize (s : Sys) : Nat :=
  match s.mem.alloc with
  | 0 | 1 => 64 * 2 ^ 30
  | 2 => 256 * 2 ^ 30
  | _ => 0

/-- Spill is enabled: ENABLE, and neither the Economy profile nor the loss of a stack forbids it. -/
def Sys.spillOn (s : Sys) : Bool := s.sw.spillCfg.enable && s.hearth.inForce != 3 && s.nv.stackLost.isEmpty

/-- The descriptor of a queue that is spilled next, so that what is spilled stays one contiguous run (05 R170): the first
one behind the run, else the last one before it; the newest when nothing is spilled. -/
def nextSpill (q : List Desc) : Option Desc :=
  let front := q.takeWhile fun d => !d.spilled
  let rest := q.drop front.length
  match rest.drop (rest.takeWhile Desc.spilled).length with
  | d :: _ => some d
  | [] => front.getLast?

/-- Copies of a packet are still to be made, or are on their way to a die. -/
def Sys.copiesOwed (id : Nat) (s : Sys) : Bool :=
  (s.sw.replWait.any fun w => w.id == id) ||
    s.inTransit.any fun x => match x.use with | .spread i _ _ => i == id | .copy _ i _ => i == id | _ => false

/-- Spill writes and read-backs stop in this cycle for want of tokens (05 R171, R173). -/
def Sys.spillStops (s : Sys) : Sys := s.modSw fun w => { w with spillShort := true }

/-- The copy by which the next packet of an ingress pool is spilled: it waits at a port with LEVEL of at least QMIN, is next
there (`nextSpill`), is not class 7, no copy of it waits to be made, and none has begun to leave (the lowest such queue, log
18). -/
def Sys.spillVictim (port pool : Nat) (s : Sys) : Option (Nat × Nat × Desc) :=
  s.sw.eg.findSome? fun e =>
    if s.sw.spillCfg.qmin ≤ s.level e.1 then
      e.2.queue.findSome? fun q =>
        match nextSpill q.2 with
        | some d =>
          match s.pktRec d.id with
          | some r =>
            if r.pool = .ingress (BitVec.ofNat 10 port) pool ∧ d.tc ≠ 7 ∧ !r.begun ∧ !s.copiesOwed d.id then some (e.1, q.1, d)
            else none
          | none => none
        | none => none
    else none

/-- One packet is written to the spill buffer, in units over the stacks (01 R24): its cells are freed and its descriptor is
marked. Other copies of a multicast packet stay in the transit pools of their dies. -/
def Sys.spillOne (v : Nat × Nat × Desc) (s : Sys) : Sys :=
  let (p, k, d) := v
  match s.pktRec d.id with
  | none => s
  | some r =>
    let s1 := s.modSw fun w =>
      { w with
        pkt := put w.pkt d.id { r with pool := .spill }
        spillHeld := w.spillHeld + d.len
        spillMax := max w.spillMax (w.spillHeld + d.len) }
    let s2 := s1.freeCells r.pool r.cells
    let s3 := s2.modEg p fun e =>
      { e with queue := modify e.queue k [] fun q => q.map fun x => if x.id = d.id then { x with spilled := true } else x }
    let s4 := ((if d.mcast then s3.releaseTransit (p / 64) d.id r.cells else s3).memUnits r.die true r.pkt.bytes).spend .spill d.len
    let port := match r.ingress with | some q => q.toNat | none => 0
    (s4.count 0x9031 port 0 1).event r.die 0x09 port 1

/-- Spilling goes on while the pool is not below LOW, a packet may be spilled, and tokens and room remain. -/
def Sys.spillLoop (port pool : Nat) : Nat → Sys → Sys
  | 0, s => s
  | fuel + 1, s =>
    let full := allot (s.pcfg port).width pool
    if s.sw.spillCfg.low * full ≤ nth (s.port port).used pool 0 * 100 then
      match s.spillVictim port pool with
      | some v =>
        if s.spillSize < s.sw.spillHeld + v.2.2.len then s
        else if v.2.2.len ≤ s.tokens .spill ∧ !s.hearth.noGrant.contains (port / 64) then
          Sys.spillLoop port pool fuel (s.spillOne v)
        else s.spillStops
      | none => s
    else s

/-- The occupancy check of a shared pool: above HIGH the tails of deep queues are spilled down to LOW (05 R169). -/
def Sys.spillCheck (port pool : Nat) (s : Sys) : Sys :=
  let full := allot (s.pcfg port).width pool
  let on := if pool = 0 then (s.port port).spillUp else (s.port port).spillTurned
  if pool < 2 && s.spillOn && (on || s.sw.spillCfg.high * full < nth (s.port port).used pool 0 * 100) then
    let t := s.spillLoop port pool 65536
    let still := decide (t.sw.spillCfg.low * full ≤ nth (t.port port).used pool 0 * 100)
    t.modPort port fun q => if pool = 0 then { q with spillUp := still } else { q with spillTurned := still }
  else s

/-- The check of every port's shared pools, when tokens have been granted again (05 R169, R171). -/
def Sys.spillAll (s : Sys) : Sys :=
  s.ports.port.foldl (fun t e => (t.spillCheck e.1 0).spillCheck e.1 1) s

/-! ## Log and counters of a drop (03 R105, R109; 20 Table 20-10) -/

/-- Item of a drop cause in families 0x9010 (Table 02-11) and 0x9011 (Table 03-11); log 13. -/
def dropItem (code : Word) : Nat × Nat :=
  match [fwdLength, fwdHcrc, fwdHeader, fwdKind, fwdJob, fwdGeneration, fwdHops, fwdAddress, collFormat, fwdPayload].findIdx?
      (· == code) with
  | some i => (0x9010, i)
  | none =>
    if code == fwdService || code == vaultBadmsg || code == ocsBadmsg then (0x9010, 7)
    else
      match [fwdAge, fwdEpoch, fwdSrcfenced, fwdFenced, fwdUnreachable, fwdBadgroup, fwdSrcroute, fwdTurn, fwdPortlost,
          svcBusy].findIdx? (· == code) with
      | some i => (0x9011, i)
      | none => (0x9011, 16 + code.toNat)

/-- Detail of a packet drop record. -/
def dropDetail (p : Pkt) (notice : Bool) : List Word :=
  [p.dgei, p.sgei,
   BitVec.ofNat 32 (p.jtag.toNat * 65536 + p.jgen.toNat * 256 + b2n p.ep * 128 + p.rm.toNat * 32 + b2n notice)]

/-- The offending GEI of a drop: the destination for an unusable destination, else the source (log 19). -/
def dropGei (code : Word) (p : Pkt) : Word :=
  if [fwdUnreachable, fwdFenced, fwdAddress, fwdService, fwdBadgroup, fwdEpoch].contains code then p.dgei else p.sgei

/-- A drop is counted, and the first of its cause and port in a control cycle is logged (03 R105, R109); the drop of a fault
or error notice is counted and nothing more (03 R106). -/
def Sys.dropCount (port die : Nat) (code : Word) (notice : Bool) (p : Pkt) (s : Sys) : Sys :=
  let it := dropItem code
  let s1 := (s.count it.1 port it.2 1).event die 0x05 port 1
  if s1.fwd.logged.contains (port, code) || p.kind == 7 || p.kind == 8 then s1
  else
    (s1.modFwd fun f => { f with logged := (port, code) :: f.logged }).log code 0x01 die port 4
      ((dropGei code p).setWidth 64) (dropDetail p notice)

/-! ## Resolve (03 R75-R103) -/

/-- Where a packet goes. -/
inductive Route where
  | drop (code : Word) (notice : Bool)
  /-- An egress port, with the spray set for a repick. -/
  | port (p : Nat) (spray : Option (Bool × Nat)) (pkt : Pkt)
  | copies (ports : List Nat) (pkt : Pkt)
  | service (s : Nat) (pkt : Pkt)
  deriving DecidableEq, Repr

/-- Port of a bitmap, rising. -/
def bitmapPorts (m : BitVec 1024) : List Nat := (List.range 1024).filter fun i => m.getLsbD i

/-- Why a multicast copy for a port is pruned: HW 0, port fence, endpoint fence, direction (09 R300). -/
def Sys.pruneCause (p : Nat) (down vc : Bool) (s : Sys) : Option Nat :=
  let c : Cabling := getD s.nv.cabling p {}
  if s.hw p = 0 then some 0
  else if s.pfence p then some 1
  else if c.dtype = 3 ∧ c.egei ≠ 0 ∧ s.fenced c.egei then some 2
  else if down ∧ !vc ∧ s.dir p = 1 then some 3
  else none

/-- Resolution of a destination GEI by exact match and longest prefix (03 R75-R77, R97). -/
def Sys.resolveGei (v : Version) (p : Pkt) (down : Bool) (ctr : Word) (s : Sys) : Route :=
  match v.route p.dgei with
  | none => .drop fwdUnreachable true
  | some r =>
    match fld r 31 30 with
    | 1 =>
      let q := fld r 9 0
      if s.hwFenced q = 0 then .drop fwdUnreachable true
      else if down ∧ !p.vc ∧ s.dir q = 1 then
        .drop (if p.rm = rmSource then fwdTurn else fwdUnreachable) true
      else .port q none p
    | 2 =>
      let id := fld r 13 0
      match sprayPick s (v.sprayOf id) down (sprayKey p.flow p.seq ctr) with
      | some q => .port q (if p.rm = rmSource then none else some (p.ep, id)) p
      | none => .drop (if p.rm = rmSource ∧ down ∧ !p.vc ∧
          (sprayPick s (v.sprayOf id) false (sprayKey p.flow p.seq ctr)).isSome then fwdTurn else fwdUnreachable) true
    | _ => .drop fwdUnreachable true

/-- A lookup on a port die in the version that EP selects; a FREE version has no route (03 R78, R79). A packet that resolves
through a damaged item is dropped without notice (14 R443). -/
def Sys.lookup (die : Nat) (p : Pkt) (down : Bool) (ctr : Word) (s : Sys) : Route × Sys :=
  if s.verState p.ep = 0 then (.drop fwdEpoch true, s)
  else
    let v := s.seenVer p.ep
    if p.rm = rmMulticast then
      let g := getD v.1.groups (p.dgei.toNat % 65536) {}
      if s.damaged die (.group p.ep (p.dgei.toNat % 65536)) then (.drop Config.memErrorCode false, v.2)
      else if g.valid then (.copies (bitmapPorts g.ports) p, v.2) else (.drop fwdBadgroup true, v.2)
    else if (v.1.itemsOf p.ep p.dgei).any fun i => s.damaged die i then (.drop Config.memErrorCode false, v.2)
    else (v.2.resolveGei v.1 p down ctr, v.2)

/-- Source hop (03 R56, R98): a hop that breaks Table 03-9 takes GZ_FWD_TURN, whatever else is wrong with it. -/
def Sys.sourceHop (v : BitVec 128) (p : Pkt) (ingress : Option Nat) (down : Bool) (s : Sys) : Route :=
  let q := srHop v (srPtr v)
  if !s.configured q then .drop fwdSrcroute true
  else if down ∧ !p.vc ∧ s.dir q = 1 then .drop fwdTurn true
  else if ingress = some q ∨ s.hwFenced q = 0 then .drop fwdSrcroute true
  else .port q none { p with ext := .sr (srNext v) }

/-- Resolve of a packet that passed the receive checks: fences first, then services, source hops and lookups, in the
order of Table 03-11. -/
def Sys.resolve (die : Nat) (p : Pkt) (ingress : Option Nat) (ctr : Word) (s : Sys) : Route × Sys :=
  let down := match ingress with | some q => s.dir q == 1 | none => false
  let own := if isLocalGei p.dgei then some (p.dgei.toNat % 256) else s.ownService p.dgei
  let hop := match p.ext with | .sr v => p.rm == rmSource && decide (srPtr v < srNh v) | _ => false
  if own.isNone && !hop && s.verState p.ep == 0 then (.drop fwdEpoch true, s)
  else if p.rm ≠ rmMulticast ∧ s.fenced p.sgei then (.drop fwdSrcfenced false, s)
  else if p.rm ≠ rmMulticast ∧ s.fenced p.dgei then (.drop fwdFenced true, s)
  else
    match own with
    | some k => (.service k p, s)
    | none =>
      match p.ext with
      | .sr v => if p.rm = rmSource ∧ srPtr v < srNh v then (s.sourceHop v p ingress down, s) else s.lookup die p down ctr
      | _ => s.lookup die p down ctr

/-! ## Pipelines -/

/-- Pipeline of a port on its die: one for each group of 16 lanes (03, "The pipeline"). -/
def pipeOf (port : Nat) : Nat := port % 64 / 16

/-- The pipeline that resolved a packet: of its ingress port, or the free one of originated packets (log 5). -/
def Sys.pipeKey (die : Nat) (ingress : Option Nat) (s : Sys) : Nat :=
  4 * die + (match ingress with | some p => pipeOf p | none => s.free.origPipe.toNat)

/-- ctr of a pipeline, and the state with this packet counted (03 R90). -/
def Sys.takeCtr (key : Nat) (s : Sys) : Word × Sys :=
  (getD s.fwd.ctr key 0, s.modFwd fun f => { f with ctr := modify f.ctr key 0 (· + 1) })

/-! ## Queueing a resolved packet -/

/-- A service's unit: the core die that Table 03-10 names. -/
def Sys.svcCore (svc : Nat) (p : Pkt) (s : Sys) : Nat :=
  match svc with
  | 1 | 3 => (match p.coll with | some c => c.ctx % 4 | none => p.jtag.toNat % 4)
  | 2 | 4 => p.jtag.toNat % 4
  | _ => s.collierCore

/-- Traffic kind of a packet on the Felt: class 7 is Felt control traffic (01, "Felt links"). -/
def Pkt.traffic (p : Pkt) : Traffic := if p.tc = 7 then .control else .packet

/-- A packet came down to the module: its ingress port has DIR = up (03 R90). -/
def Sys.arrivedDown (ingress : Option Port) (s : Sys) : Bool :=
  match ingress with
  | some q => s.dir q.toNat == 1
  | none => false

/-- The core die whose hub a port die uses: its own, or that of the alternate route (09 R298, 15 Table 15-5). -/
def Sys.coreOf (die : Nat) (s : Sys) : Nat :=
  match hubOf s.linkOk die with
  | some h => h.1 / 4
  | none => die / 4

/-- The port-die stage of a copy in a die's transit pool: each destination port gets its copy, or the copy is pruned and
counted (01 R19, 09 R300). -/
def Sys.portStage (die id : Nat) (ports : List Nat) (s : Sys) : Sys :=
  match s.pktRec id with
  | none => s
  | some r =>
    let p := r.pkt
    let cause (t : Sys) (q : Nat) : Option Nat := t.pruneCause q (t.arrivedDown r.ingress) p.vc
    let t := ports.foldl
      (fun t q =>
        match cause t q with
        | some c => t.count 0x9021 q c 1
        | none => t.enqueue q { id, len := p.len, tc := p.tc, vc := p.vc, mcast := true })
      s
    let pruned := ports.filter fun q => (cause s q).isSome
    pruned.foldl (fun t _ => t.releaseCopy id) (t.releaseTransit die id r.cells)

/-- The hub core die of a destination port die makes the die's copy, which crosses the Felt into the die's transit pool
(01 R19, 09 R298, R299). -/
def Sys.copyDown (die id : Nat) (ports : List Nat) (s : Sys) : Sys :=
  match s.pktRec id with
  | none => s
  | some r =>
    let core := s.coreOf die
    let s1 := (s.modSw fun w => { w with transit := modify w.transit die 0 (· + r.cells) }).event (16 + core) 0x27
      (match r.ingress with | some q => q.toNat | none => 0) 1
    let x := s1.cross { kind := r.pkt.traffic, src := 16 + core, dst := die, bytes := r.pkt.bytes, use := .copy die id ports }
    if x.1 then x.2.portStage die id ports else x.2

/-- The copy for a die may be made: the staging of its transit pool has room (09 R299). -/
def Sys.copyRoom (die cells : Nat) (s : Sys) : Bool := getD s.sw.transit die 0 + cells ≤ stageCells

/-- The copy of a packet for a die is made, or waits when it may not be made or others wait before it. -/
def Sys.replicate (id : Nat) (ports : List Nat) (die : Nat) (s : Sys) : Sys :=
  match s.pktRec id with
  | none => s
  | some r =>
    if ports.isEmpty then s
    else if s.copyRoom die r.cells && !(s.sw.replWait.any fun w => w.die == die) then s.copyDown die id ports
    else s.modSw fun w => { w with replWait := w.replWait ++ [{ die, id, ports }] }

/-- The core-die stage at the hub (01 R19, 09 R298): it sends one copy over the mesh to each other core die that serves a
destination, and each makes the copies for its port dies. `own` is the core die that takes a copy for itself (07 R242). -/
def Sys.spread (id : Nat) (ports : List Nat) (own : Option Nat) (s : Sys) : Sys :=
  match s.pktRec id with
  | none => s
  | some r =>
    let hub := s.coreOf r.die
    let dies := (List.range 16).filter fun d => ports.any fun q => q / 64 == d
    let cores := (List.range 4).filter fun c => c != hub && (own == some c || dies.any fun d => s.coreOf d == c)
    let port := match r.ingress with | some q => q.toNat | none => 0
    let s2 := cores.foldl
      (fun t c => (t.feltSend r.pkt.traffic (16 + hub) (16 + c) r.pkt.bytes).event (16 + hub) 0x27 port 1) s
    dies.foldl (fun t d => t.replicate id (ports.filter fun q => q / 64 == d) d) s2

/-- A multicast packet crosses to its hub core die for the core-die stage. -/
def Sys.coreStage (id : Nat) (ports : List Nat) (own : Option Nat) (s : Sys) : Sys :=
  match s.pktRec id with
  | none => s
  | some r =>
    let x := s.cross
      { kind := r.pkt.traffic, src := r.die, dst := 16 + s.coreOf r.die, bytes := r.pkt.bytes, use := .spread id ports own }
    if x.1 then x.2.spread id ports own else x.2

/-- A copy for a port that entered by the same port in the same class and channel is still to be made: a later packet may not pass
it (03 R74). -/
def Sys.mustWait (r : PktRec) (q : Nat) (s : Sys) : Bool :=
  let before (id : Nat) (ports : List Nat) : Bool :=
    ports.contains q &&
      match s.pktRec id with
      | some x => r.ingress.isSome && x.ingress == r.ingress && x.pkt.tc == r.pkt.tc && x.pkt.vc == r.pkt.vc
      | none => false
  (s.sw.replWait.any fun w => before w.id w.ports) ||
    s.inTransit.any fun x => match x.use with | .spread i l _ => before i l | .copy _ i l => before i l | _ => false

/-- A control packet for service 0x00 finds the queue of the in-band path full: 16 requests wait there (18 R537; log 35). -/
def Sys.inbandFull (svc : Nat) (p : Pkt) (s : Sys) : Bool :=
  svc == 0 && p.kind == 9 &&
    16 ≤ ((s.sw.svc ++ s.flows.missq.flatMap fun e => e.2).filter fun d => d.svc == 0 && d.pkt.kind == 9 && !d.late).length

/-- A resolved packet is queued (03 R74, R100, 09 R298-R300; 05 R166). `r` is the record to buffer. -/
def Sys.queueRoute (r : PktRec) (rt : Route) (s : Sys) : Sys :=
  match rt with
  | .drop _ _ => s
  | .port q spray p =>
    let b := s.buffer { r with pkt := p, copies := 1 }
    if s.mustWait r q then
      b.2.modSw fun w => { w with replWait := w.replWait ++ [{ die := q / 64, id := b.1, ports := [q], unicast := some spray }] }
    else b.2.enqueue q { id := b.1, len := p.len, tc := p.tc, vc := p.vc, spray }
  | .copies ports p =>
    let s := if ports.isEmpty then s.count 0x9021 1024 4 1 else s
    let ports := ports.filter fun q => some q != r.ingress.map BitVec.toNat
    let own := s.interiorCopy p
    if ports.isEmpty ∧ own.isNone then s
    else
      let b := s.buffer { r with pkt := p, copies := ports.length + b2n own.isSome }
      let t := b.2.coreStage b.1 ports own
      match own with
      | some c => t.modSw fun w => { w with svc := w.svc ++ [{ svc := 1, core := c, id := b.1, pkt := p }] }
      | none => t
  | .service k p =>
    let b := s.buffer { r with pkt := p, copies := 1 }
    (b.2.cross
      { kind := p.traffic, src := r.die, dst := 16 + s.svcCore k p, bytes := p.bytes, use := .service b.1 }).2.modSw fun w =>
        { w with
          svc := w.svc ++ [{ svc := BitVec.ofNat 8 k, core := s.svcCore k p, id := b.1, pkt := p, late := s.inbandFull k p }] }

/-! ## Origination (03 R73, R84; 21 R610) -/

/-- The module may originate a packet in this route mode now (21 R610). -/
def Sys.mayOriginate (p : Pkt) (s : Sys) : Bool := s.clk.valid || p.rm == rmLocal

/-- A full queue of a Collier service refuses the packet (03 R101). -/
def Sys.svcFull (rt : Route) (s : Sys) : Bool :=
  match rt with
  | .service k _ =>
    (k == 0 || k == 5 || k == 6) && 64 ≤ (s.sw.svc.filter fun d => d.svc.toNat == k).length
  | _ => false

/-- A packet that core die `core` originates enters the pipeline of PD4n and is resolved like a received one; its own
services refuse what they refuse of a received one (02 R50, 12 R382); a drop of it draws no notice (03 R73, R106). -/
def Sys.enterOriginated (core : Nat) (p : Pkt) (s : Sys) : Sys :=
  let die := 4 * core
  let c := s.takeCtr (s.pipeKey die none)
  let rt := c.2.resolve die p none c.1
  let refused := match rt.1 with | .service k x => svcRefusal k x | _ => none
  match rt.1, refused with
  | .drop code notice, _ => rt.2.dropCount 0 die code notice p
  | _, some code => rt.2.dropCount 0 die code true p
  | _, none =>
    if rt.2.svcFull rt.1 then rt.2.dropCount 0 die svcBusy true p
    else rt.2.queueRoute
      { pkt := p, ingress := none, die, pool := .originated die, cells := cellsOf p.len, copies := 1, crcOk := true,
        arrived := s.clk.ext, header := p.header }
      rt.1

/-- A local copy of a link notice joins the class 7 queue of its port, without lookup (03 R73, 13 R418): it does not reach Resolve,
and does not count in the pipeline's ctr (R90; log 159). A port that has left Up while it waited gets none. -/
def Sys.enterLocal (core port : Nat) (p : Pkt) (s : Sys) : Sys :=
  let die := 4 * core
  if (s.port port).st ≠ .up then s.dropCount 0 die fwdPortlost false p
  else
    let b := s.buffer
      { pkt := p, ingress := none, die, pool := .originated die, cells := cellsOf p.len, copies := 1, crcOk := true,
        arrived := s.clk.ext, header := p.header }
    b.2.enqueue port { id := b.1, len := p.len, tc := 7, vc := false }

/-- An originated packet is at PD4n: it enters the pipeline, or is the local copy for a port. -/
def Sys.enterAt (core : Nat) (w : Pkt × Option Nat) (s : Sys) : Sys :=
  match w.2 with
  | none => s.enterOriginated core w.1
  | some q => s.enterLocal core q w.1

/-- An originated packet crosses from its core die to PD4n. -/
def Sys.enter (core : Nat) (w : Pkt × Option Nat) (s : Sys) : Sys :=
  let x := s.cross
    { kind := w.1.traffic, src := 16 + core, dst := 4 * core, bytes := w.1.bytes, use := .origin core w.1 w.2 }
  if x.1 then x.2.enterAt core w else x.2

/-- Cells of the originated-packets pool that packets on their way to PD4n will take. -/
def Sys.originCells (core : Nat) (s : Sys) : Nat :=
  sum (s.inTransit.map fun x => match x.use with | .origin c p _ => if c = core then cellsOf p.len else 0 | _ => 0)

/-- The originated-packets pool of a core die's PD4n has room for a packet. -/
def Sys.poolRoom (core len : Nat) (s : Sys) : Bool :=
  getD s.sw.orig (4 * core) 0 + s.originCells core + cellsOf len ≤ origCells

/-- The same, and nothing waits before it. -/
def Sys.origRoom (core len : Nat) (s : Sys) : Bool := s.poolRoom core len && (getD s.sw.origWait core []).isEmpty

/-- A packet with the fields that the module writes into every packet it originates: source epoch, send time, CRCs. -/
def Sys.stamp (p : Pkt) (s : Sys) : Pkt := { p with ep := s.fwd.epoch, ts := s.now }.seal

/-- A packet enters at a core die's PD4n when the pool has room, else it waits (05 R167). -/
def Sys.enterOrWait (core : Nat) (p : Pkt) (q : Option Nat) (s : Sys) : Sys :=
  let x := s.stamp p
  if s.origRoom core x.len then s.enter core (x, q)
  else s.modSw fun w => { w with origWait := modify w.origWait core [] (· ++ [(x, q)]) }

/-- Core die `core` originates a packet; in a route mode that R610 withholds, nothing is sent. -/
def Sys.originate (core : Nat) (p : Pkt) (s : Sys) : Sys := if s.mayOriginate p then s.enterOrWait core p none else s

/-- Waiting packets of a core die enter while the pool has room. -/
def Sys.drainOrig (core : Nat) : Nat → Sys → Sys
  | 0, s => s
  | fuel + 1, s =>
    match getD s.sw.origWait core [] with
    | [] => s
    | p :: rest =>
      if s.poolRoom core p.1.len then
        Sys.drainOrig core fuel ((s.modSw fun w => { w with origWait := put w.origWait core rest }).enter core (s.stamp p.1, p.2))
      else s

/-- A copy is released, and packets that waited for its cells enter. -/
def Sys.release (id : Nat) (s : Sys) : Sys :=
  match s.pktRec id with
  | some { pool := .originated d, .. } => (s.releaseCopy id).drainOrig (d / 4) 64
  | _ => s.releaseCopy id

/-- A packet in spray mode under tag 0 from one of the module's own services. -/
def Sys.ownPkt (svc kind : Nat) (tc : BitVec 3) (dgei : Word) (flow : BitVec 24) (seq : Word) (payload : List Byte)
    (s : Sys) : Pkt :=
  { hlen := 4, tc, rm := rmSpray, plen := BitVec.ofNat 13 payload.length, dgei, sgei := s.ownGei svc, flow,
    kind := BitVec.ofNat 8 kind, seq, payload, pad := padOf payload.length }

/-! ## Error notices (03 R106-R108) -/

/-- The notice bucket of a port die. -/
def Sys.bucket (die : Nat) (s : Sys) : Nat := getD s.fwd.bucket die 32

/-- The notice cache of a port die without the pairs that entered 65,536 ns ago or earlier. -/
def Sys.liveCache (die : Nat) (s : Sys) : List (Word × Word × Word64) :=
  (getD s.fwd.cache die []).filter fun e => (s.clk.ext - e.2.2).toNat < 65536

/-- An error notice about a packet that die `die` (through PD4n of its hub) or a core die found at fault. It is withheld
without a time, by the bucket, by the cache and by a full pool, and counted as suppressed; none goes out about a notice
or about a packet of the module's own (03 R106, R107, R108; 05 R167; 21 R610). -/
def Sys.errorNotice (die core port : Nat) (code : Word) (p : Pkt) (head : List Byte) (s : Sys) : Sys :=
  if p.kind = 7 ∨ p.kind = 8 ∨ (s.ownService p.sgei).isSome then s
  else
    let cache := s.liveCache die
    let n := s.ownPkt 5 8 6 p.sgei 0 0 (errorPayload code (s.ownGei 5) s.now port head)
    if !s.clk.valid || cache.any (fun e => e.1 == p.sgei && e.2.1 == code) || s.bucket die == 0 || !s.origRoom core n.len
    then s.count 0x9012 die 1 1
    else
      let kept := if 256 ≤ cache.length then cache.drop 1 else cache
      let s1 := s.modFwd fun f =>
        { f with
          bucket := put f.bucket die (s.bucket die - 1)
          cache := put f.cache die (kept ++ [(p.sgei, code, s.clk.ext)]) }
      (s1.count 0x9012 die 0 1).originate core n

/-- A packet is dropped on a port die: counted, logged, and answered with a notice when its cause calls for one. -/
def Sys.dropOn (port die : Nat) (code : Word) (notice : Bool) (p : Pkt) (head : List Byte) (s : Sys) : Sys :=
  let s1 := s.dropCount port die code notice p
  if notice then s1.errorNotice die (die / 4) port code p head else s1

/-- A packet that core die `core` drops after delivery; its notice is limited by PD4n (03 R73). -/
def Sys.dropAtCore (core port : Nat) (code : Word) (notice : Bool) (p : Pkt) (head : List Byte) (s : Sys) : Sys :=
  let s1 := s.dropCount port (16 + core) code notice p
  if notice then s1.errorNotice (4 * core) core port code p head else s1

/-! ## Fault notices (13 R416, R418; 20 R598) -/

/-- Local copies of a link notice: one in the class 7 queue of every other port whose link state is Up (13 R418, 03 R73). -/
def Sys.localCopies (code : Word) (port : Nat) (s : Sys) : Sys :=
  if s.nv.fnlLocal.toNat % 2 = 0 then s
  else
    let n : Pkt := { s.ownPkt 5 7 7 0xFFFFFF05 0 0 (faultPayload code (s.ownGei 5) s.now port) with rm := rmLocal }
    s.ports.port.foldl (fun t e => if e.1 ≠ port ∧ e.2.st = .up then t.enterOrWait s.collierCore n (some e.1) else t) s

/-- A fault notice goes to each GEI of the fault notice list, in class 7 under tag 0 (20 R598). -/
def Sys.notify (code : Word) (port : Nat) (s : Sys) : Sys :=
  s.nv.fnl.foldl
    (fun t g =>
      if g = 0 then t
      else t.originate t.collierCore (t.ownPkt 5 7 7 g 0 0 (faultPayload code (t.ownGei 5) t.now port)))
    s

/-- A fault is logged and reported to each GEI of the fault notice list, and, for a link code, by local copies
(20 R597-R599, 13 R418). -/
def Sys.fault (code : Word) (unit port : Nat) (locals : Bool) (detail : List Word) (s : Sys) : Sys :=
  let s2 := (s.log code 0x03 unit port 0 0 detail).notify code port
  if locals then s2.localCopies code port else s2

/-- As `fault`, for an event that names no port. -/
def Sys.faultUnit (code : Word) (unit : Nat) (detail : List Word) (s : Sys) : Sys := s.fault code unit 0 false detail

/-! ## A port leaves its spray sets (03 R91, R92, R646) -/

/-- A copy on its way to a port gives up its place there. -/
def Sys.leaveRing (port : Nat) (d : Desc) (s : Sys) : Sys :=
  if d.crossing then s.keepTransit fun x => x.use != .pull port d.id else s

/-- The descriptor of a copy that is no longer pulled. -/
def Desc.unpulled (d : Desc) : Desc := { d with waits := false, crossing := false, staged := false }

/-- A queued descriptor whose port has HW 0 is repicked, or dropped (03 R92; for a copy placed without lookup the spec names
no rule, log 128). -/
def Sys.repickOne (port : Nat) (d : Desc) (s0 : Sys) : Sys :=
  match s0.pktRec d.id with
  | none => s0
  | some r =>
    let s := s0.freeCopy port d r.cells
    let iport := match r.ingress with | some q => q.toNat | none => 0
    let give (t : Sys) : Sys := t.release d.id
    if d.mcast then give (s.dropCount iport r.die fwdPortlost false r.pkt)
    else if r.pkt.rm = rmLocal then give (s.dropCount iport r.die fwdPortlost false r.pkt)
    else
      match d.spray with
      | some (v, id) =>
        let c := s.takeCtr (s.pipeKey r.die (r.ingress.map BitVec.toNat))
        let w := c.2.seenVer v
        if s.damaged r.die (.spray v id) then give (w.2.dropCount iport r.die Config.memErrorCode false r.pkt)
        else
        match sprayPick w.2 (w.1.sprayOf id) (s.arrivedDown r.ingress) (sprayKey r.pkt.flow r.pkt.seq c.1) with
        | some q => (w.2.event r.die 0x08 port 1).enqueue q d.unpulled
        | none => give (w.2.dropOn iport r.die fwdUnreachable true r.pkt r.header)
      | none =>
        give (s.dropOn iport r.die (if r.pkt.rm = rmSource then fwdSrcroute else fwdUnreachable) true r.pkt r.header)

/-- Every packet queued or committed at a port whose HW has become 0 is repicked or dropped; the packet on the wire is
lost when the link failed (03 R92, R646; 11 R356; its code is log 128). -/
def Sys.portLost (port : Nat) (txLost : Bool) (s : Sys) : Sys :=
  let e := s.eg port
  let all := e.committed.toList ++ e.queue.flatMap (fun q => q.2)
  let s0 := e.committed.toList.foldl (fun t d => t.leaveRing port d) s
  let s1 := s0.modEg port fun e =>
    { e with queue := [], committed := none, tx := if txLost then none else e.tx }
  let s2 :=
    match (if txLost then e.tx else none) with
    | none => s1
    | some d =>
      match s1.pktRec d.id with
      | none => s1
      | some r =>
        let iport := match r.ingress with | some q => q.toNat | none => 0
        let t := s1.dropCount iport r.die fwdPortlost false r.pkt
        (t.freeCopy port d r.cells).release d.id
  all.foldl (fun t d => t.repickOne port d) s2

/-- Deficits and the class under visit fall back when a port leaves Up (11 R359). -/
def Sys.resetDrr (port : Nat) (s : Sys) : Sys :=
  s.modEg port fun e => { e with cur := 0, deficit := List.replicate 6 0, opened := List.replicate 6 false }

end Sys2Proof.Machine
end

