-- ==== Sys2Proof/Machine/Gates.lean ====
section
/-! DEFINITION. Gate lists (11 R366-R372) and the eligibility of an egress head (11 R353-R362). -/

namespace Sys2Proof.Machine

/-! ## Gate lists -/

/-- Cycle of a list in ns. -/
def GateList.cycle (g : GateList) : Nat := sum (g.entries.map fun e => e.2)

/-- Entry number, gates and ns left at `off` ns into a cycle. -/
def entryAt : List (BitVec 8 × Nat) → Nat → Nat → Nat × BitVec 8 × Nat
  | [], i, _ => (i, 0xFF, 0)
  | (g, d) :: r, i, off => if off < d then (i, g, d - off) else entryAt r (i + 1) (off - d)

/-- The entry in force of a running list at extended time `t`, counted from its start E, before E as well as after it
(11 R371). -/
def GateList.at (g : GateList) (t : Word64) : Nat × BitVec 8 × Nat :=
  if g.cycle = 0 then (0, 0xFF, 0) else entryAt g.entries 0 ((t - g.start).toInt % (g.cycle : Int)).toNat

/-- Gates while no list runs (11 R371). -/
def Sys.defGates (port : Nat) (s : Sys) : BitVec 8 := getD s.nv.defGates port 0xFF

/-- Gates at a time, and for how many ns they last (none: for ever), with a running and a pending list. -/
def gatesFrom (run pend : Option GateList) (defg : BitVec 8) (t : Word64) : BitVec 8 × Option Nat :=
  let now :=
    match pend with
    | some g => if serialGe64 t g.start then (if g.entries.isEmpty then none else some g) else run
    | none => run
  let left :=
    match pend with
    | some g => if serialGe64 t g.start then none else some (g.start - t).toNat
    | none => none
  match now with
  | none => (defg, left)
  | some g =>
    let e := g.at t
    (e.2.1, some (match left with | some n => min n e.2.2 | none => e.2.2))

/-- The gate of class `c` is open from `t` for `d` ns, through entries and a takeover (11 R368). -/
def openThrough (run pend : Option GateList) (defg : BitVec 8) (c : Nat) : Nat → Word64 → Nat → Bool
  | 0, _, _ => true
  | fuel + 1, t, d =>
    let g := gatesFrom run pend defg t
    if !g.1.getLsbD c then false
    else
      match g.2 with
      | none => true
      | some n => if d ≤ n || n = 0 then true else openThrough run pend defg c fuel (t + BitVec.ofNat 64 n) (d - n)

/-- ns that `len` bytes take on the active lanes of a port, rounded up: 25 B per ns and lane. -/
def Sys.txTime (port len : Nat) (s : Sys) : Nat :=
  let r := 25 * max 1 (s.lanes port)
  (len + r - 1) / r

/-- When a packet picked now can start: at once, or when the packet in transmission ends, at most 120 ns from now (11 R356). -/
def Sys.startTime (port : Nat) (s : Sys) : Word64 :=
  let e := s.eg port
  if e.tx.isSome then s.clk.ext + BitVec.ofNat 64 (min 120 (e.txEnd - s.clk.mono)) else s.clk.ext

/-- The gate test of a packet, from its start to its last byte (11 R368): no list runs while the time-valid flag is clear
(R371); class 7 is always open (R367). -/
def Sys.gateOk (port c len : Nat) (s : Sys) : Bool :=
  let e := s.eg port
  let run := if s.clk.valid then e.running else none
  let pend := if s.clk.valid then e.pending else none
  c == 7 || openThrough run pend (s.defGates port) c 200 (s.startTime port) (s.txTime port (len + 48))

/-! ## Eligibility -/

/-- Scheduler settings in force at a port. -/
def Sys.schedOf (port : Nat) (s : Sys) : Sched := getD s.sw.sched port {}

/-- Class 6 is always shaped; classes 0-5 when they have a rate (11 R360). -/
def Sys.shaped (port c : Nat) (s : Sys) : Bool := c == 6 || (c < 6 && nth (s.schedOf port).rate c 0 != 0)

/-- Bytes that a shaper gains at a refill. -/
def Sys.gain (port c : Nat) (s : Sys) : Nat := nth (s.schedOf port).rate c 0 * 25 * s.lanes port

/-- Depth of a bucket. -/
def Sys.depth (port c : Nat) (s : Sys) : Nat := max (nth (s.schedOf port).burst c 0) (s.gain port c + 4160)

/-- The peer has returned credits for a packet, beyond the headroom that classes 0-5 leave (05 R149, R153). -/
def Sys.creditOk (port : Nat) (d : Desc) (s : Sys) : Bool :=
  let head := if d.tc.toNat < 6 then 128 * (s.pcfg port).width else 0
  cellsOf d.len + head ≤ nth (s.port port).credit (poolOf d.tc d.vc) 0

/-- The shaper of the packet's class lets it start. -/
def Sys.tokensOk (port : Nat) (d : Desc) (s : Sys) : Bool :=
  !s.shaped port d.tc.toNat || d.len ≤ nth (s.eg port).tokens d.tc.toNat 0

/-- Head of a queue that is not in the spill buffer. -/
def Sys.head (port k : Nat) (s : Sys) : Option Desc :=
  match (s.eg port).q k with
  | d :: _ => if d.spilled then none else some d
  | [] => none

/-- The head of queue `k`, when it is eligible (11 R353). -/
def Sys.eligible (port k : Nat) (s : Sys) : Option Desc :=
  match s.head port k with
  | some d =>
    if (s.port port).st == .up && s.creditOk port d && s.gateOk port d.tc.toNat d.len && s.tokensOk port d then some d
    else none
  | none => none

/-- The queue of a class that is served next: the two alternate while both heads are eligible (11 R355). -/
def Sys.classHead (port c : Nat) (s : Sys) : Option (Nat × Desc) :=
  match s.eligible port (2 * c), s.eligible port (2 * c + 1) with
  | some u, some t => if nth (s.eg port).lastTurned c false then some (2 * c, u) else some (2 * c + 1, t)
  | some u, none => some (2 * c, u)
  | none, some t => some (2 * c + 1, t)
  | none, none => none

/-- drr_pick (11 R358) on the class under visit, the deficits and the open visits. -/
def drrPick (quantum : List Nat) (headLen : Nat → Option Nat) (empty : Nat → Bool) : Nat → EgPort → Option Nat × EgPort
  | 0, e => (none, e)
  | k + 1, e =>
    let c := e.cur
    let q := nth quantum c 16384
    let visit (e : EgPort) : EgPort :=
      if nth e.opened c false then e
      else { e with deficit := setNth e.deficit c (min (nth e.deficit c 0 + q) (q + 4160)), opened := setNth e.opened c true }
    let leave (e : EgPort) : EgPort :=
      { e with
        deficit := if empty c then setNth e.deficit c 0 else e.deficit
        opened := setNth e.opened c false
        cur := (c + 1) % 6 }
    match headLen c with
    | some n =>
      let e1 := visit e
      if n ≤ nth e1.deficit c 0 then (some c, { e1 with deficit := modNth e1.deficit c (· - n) })
      else drrPick quantum headLen empty k (leave e1)
    | none => drrPick quantum headLen empty k (leave e)

/-- The next packet of a port: class 7, else class 6, else by deficit round robin (11 R354). It answers the queue and the
descriptor, and the scheduler after the pick, which drr_pick changes even when it finds none (R358). -/
def Sys.pick (port : Nat) (s : Sys) : Option (Nat × Desc) × EgPort :=
  let e := s.eg port
  match s.classHead port 7 with
  | some h => (some h, e)
  | none =>
    match s.classHead port 6 with
    | some h => (some h, e)
    | none =>
      let r := drrPick (s.schedOf port).quantum (fun c => (s.classHead port c).map fun h => h.2.len)
        (fun c => (e.q (2 * c)).isEmpty && (e.q (2 * c + 1)).isEmpty) 12 e
      (r.1.bind fun c => s.classHead port c, r.2)

end Sys2Proof.Machine
end

