-- ==== Sys2Proof/Machine/Forward.lean ====
section
/-! DEFINITION. Packets at the ports: receipt, commit, transmission, spill read-back, ring entry, replication, refills and
the notice cache (02, 03, 05, 09, 11). -/

namespace Sys2Proof.Machine

/-! ## Ordered sets (02 R64-R70, 05 R151) -/

/-- A port whose link is trained exchanges ordered sets, unless a lane test has replaced them (13 R425). -/
def PortSt.linked (q : PortSt) : Bool :=
  match q.st with
  | .disabled => false
  | .training => q.trained
  | _ => q.test.isNone

/-- An ordered set is received on a port: a bad CRC or a reserved type is discarded and counted (02 R64); one of another
type than the command's has no effect here. -/
def Sys.osReceive (port type : Nat) (bytes : List Byte) (act : Sys → Sys) (s : Sys) : Sys :=
  if !(s.port port).linked then s
  else if bytes.length ≠ 16 ∨ !osOk bytes then s.count 0x9022 port 2 1
  else if beAt bytes 0 1 ≠ type then s
  else act (s.modPort port fun q => { q with osLast := s.clk.mono })

/-- Newly returned credits: the difference modulo 2^16 of each counter (02 R66). -/
def creditTake (new : List (BitVec 16)) (q : PortSt) : PortSt :=
  { q with
    credit := (List.range 4).map fun i => nth q.credit i 0 + (nth new i 0 - nth q.lastRx i 0).toNat
    lastRx := new }

/-- The four counters of a CREDIT ordered set. -/
def creditValues (b : List Byte) : List (BitVec 16) := (List.range 4).map fun i => BitVec.ofNat 16 (beAt b (2 + 2 * i) 2)

/-- CREDIT_OS_RECEIVE (R66). -/
def execCreditOsReceive (port : Port) (bytes : List Byte) (s : State) : Host.Outcome State Fault Refusal :=
  .next (s.onSys (Sys.osReceive port.toNat 1 bytes fun t => t.modPort port.toNat (creditTake (creditValues bytes))))

/-- An ordered set leaves a port with the port's next sequence number (02 R64). -/
def Sys.osSend (port type : Nat) (body : List Byte) (s : Sys) : Sys :=
  let q := s.port port
  (s.modPort port fun q => { q with osSeq := q.osSeq + 1 }).emit
    (.orderedSet (BitVec.ofNat 10 port) (osBuild type q.osSeq body))

/-- Link state code of a port state (02 R68, 13 R409). -/
def PState.code : PState → Nat
  | .training => 0
  | .seasoning => 1
  | .up => 2
  | .draining => 3
  | .maintenance => 4
  | .disabled => 5

/-- A CREDIT ordered set is due: on a change, or 1,000 ns after the last (02 R65). -/
def Sys.creditDue (port : Nat) (s : Sys) : Bool :=
  let q := s.port port
  q.freed != q.lastTx || decide (q.creditSent + 1000 ≤ s.clk.mono)

/-- A CREDIT ordered set goes. -/
def Sys.creditOut (port : Nat) (s : Sys) : Sys :=
  let q := s.port port
  (s.osSend port 1 (q.freed.flatMap fun v => toBe 2 v.toNat)).modPort port fun q =>
    { q with lastTx := q.freed, creditSent := s.clk.mono }

/-- When the next TIME ordered set of a port is due: at each multiple of 16,384 ns (02 R65). -/
def Sys.timeDueAt (port : Nat) (s : Sys) : Word64 :=
  let q := s.port port
  s.dueOnce 14 q.timeFirst q.timeSent q.timeRan

/-- A TIME ordered set goes, with the fabric time as it enters the transmit path (02 R67). -/
def Sys.timeOut (port : Nat) (s : Sys) : Sys :=
  let q := s.port port
  let flags := b2n s.clk.valid * 128 + b2n s.clk.holdover * 64
  (s.osSend port 2 (toBe 1 flags ++ [0] ++ toBe 4 s.now.toNat)).modPort port fun q' =>
    { q' with
      timeFirst := s.runOf 14 q.timeFirst q.timeSent, timeRan := s.ranOf 14 q.timeFirst q.timeSent q.timeRan
      timeSent := s.floorTo 14 }

/-- A LINK_ID ordered set goes; coordinates read 0 while VALID is clear (02 R68, 18 R552). -/
def Sys.linkIdOut (port : Nat) (s : Sys) : Sys :=
  let q := s.port port
  let n (x : Nat) : Nat := if s.nv.coordValid then x else 0
  let body := toBe 1 (n s.nv.plane.toNat * 16 + 1) ++ toBe 1 (n s.nv.group.toNat) ++ toBe 1 (n s.nv.index.toNat) ++
    toBe 2 port ++ toBe 1 q.st.code
  (s.osSend port 3 body).modPort port fun q => { q with linkSent := s.clk.mono }

/-- The ordered sets that are due go in the order CREDIT, TIME, LINK_ID, between packets only (02 R64, R70). -/
def Sys.osFlush (port : Nat) (s : Sys) : Sys :=
  if !(s.port port).linked || (s.eg port).tx.isSome then s
  else
    let a := if s.creditDue port then s.creditOut port else s
    let b := if serialGe64 a.clk.ext (a.timeDueAt port) then a.timeOut port else a
    if (b.port port).linkSent + 1048576 ≤ b.clk.mono then b.linkIdOut port else b

/-- A CREDIT ordered set falls due: at once on a change, else when 1,000 ns have passed since the last (02 R65). Behind a
packet on the wire it waits (R64). -/
def Sys.creditSend (port : Nat) (s : Sys) : Sys :=
  let q := s.port port
  if !q.linked then s
  else (if q.freed = q.lastTx then s.toMono (q.creditSent + 1000) else s).osFlush port

/-- CREDIT_OS_SEND (R65). -/
def execCreditOsSend (port : Port) (s : State) : Host.Outcome State Fault Refusal :=
  .next (s.onSys (Sys.creditSend port.toNat))

/-- A TIME ordered set falls due at the next multiple of 16,384 ns (02 R65, R67). -/
def Sys.timeSend (port : Nat) (s : Sys) : Sys :=
  if !(s.port port).linked then s else (s.toExt (s.timeDueAt port)).osFlush port

/-- TIME_OS_SEND (R67). -/
def execTimeOsSend (port : Port) (s : State) : Host.Outcome State Fault Refusal :=
  .next (s.onSys (Sys.timeSend port.toNat))

/-- A LINK_ID ordered set falls due every 1,048,576 ns (02 R65, R68). -/
def Sys.linkIdSend (port : Nat) (s : Sys) : Sys :=
  let q := s.port port
  if !q.linked then s else (s.toMono (q.linkSent + 1048576)).osFlush port

/-- LINK_ID_SEND (R65). -/
def execLinkIdSend (port : Port) (s : State) : Host.Outcome State Fault Refusal :=
  .next (s.onSys (Sys.linkIdSend port.toNat))

/-! ## Receive checks (02 R62) -/

/-- Check 8 (02 R49-R51, R56): the code of the first part that fails. -/
def Sys.addressCheck (p : Pkt) (s : Sys) : Option Word :=
  if (p.rm == rmLocal) != isLocalGei p.dgei then some fwdAddress
  else if p.rm = rmMulticast ∧ 65536 ≤ p.dgei.toNat then some fwdAddress
  else
    let own := if p.rm = rmLocal then some (p.dgei.toNat % 256) else if p.rm = rmMulticast then none else s.ownService p.dgei
    match own.bind fun k => svcRefusal k p with
    | some c => some c
    | none =>
      match p.ext with
      | .sr v =>
        if srBad v || (srPtr v < srNh v && !s.configured (srHop v (srPtr v))) then some fwdSrcroute else none
      | _ => none

/-- Check 9 (02 R58-R60) for a packet that the module consumes: FMT and OP are not reserved, and TREE fits the context
that CTX names, when that is not FREE. DESIGN CHOICE (log 160): a multicast result of which an interior module takes a copy
(07 R242) is forwarded without this check. -/
def Sys.collCheck (p : Pkt) (s : Sys) : Bool :=
  match (if (s.ownService p.dgei).isSome || isLocalGei p.dgei then p.coll else none) with
  | none => true
  | some c =>
    c.codesOk &&
      match get? s.coll.ctx c.ctx with
      | none => true
      | some x => if x.desc.role1 == 0 then !c.tree else c.tree == (c.tile % 2 == 1)

/-- Checks 1-9 of Table 02-11 in order: abort code of the first that fails and whether it sends a notice (02 R62). -/
def Sys.receiveChecks (p : Pkt) (len : Nat) (s : Sys) : Option (Word × Bool) :=
  let j := s.job p.jtag
  if len ≠ p.len ∨ len < 32 ∨ 4160 < len ∨ 4096 < p.plen.toNat then some (fwdLength, false)
  else if p.hcrc ≠ p.crc then some (fwdHcrc, false)
  else if !p.headerOk then some (fwdHeader, true)
  else if !p.kindOk then some (fwdKind, true)
  else if !j.active then some (fwdJob, true)
  else if j.gen ≠ p.jgen then some (fwdGeneration, false)
  else if 32 ≤ p.hops.toNat then some (fwdHops, true)
  else
    match s.addressCheck p with
    | some c => some (c, true)
    | none => if s.collCheck p then none else some (collFormat, true)

/-- Age of a packet (02 R53). -/
def Sys.age (p : Pkt) (s : Sys) : Nat := (s.now - p.ts).toNat

/-- The packet is older than the drain bound; not checked while the time-valid flag is clear (03 R82). -/
def Sys.tooOld (p : Pkt) (s : Sys) : Bool := s.clk.valid && s.drainNs < s.age p

/-- A port that has nothing on the wire, committed or queued. -/
def EgPort.idle (e : EgPort) : Bool := e.tx.isNone && e.committed.isNone && e.queue.all fun q => q.2.isEmpty

/-- A packet that is at the head of its queue at a port may start there now (11 R353). -/
def Sys.mayStart (port : Nat) (d : Desc) (s : Sys) : Bool :=
  (s.port port).st == .up && s.creditOk port d && s.gateOk port d.tc.toNat d.len && s.tokensOk port d

/-- A cut-through packet has begun to leave when its payload CRC is known: its egress port is on the same die or one that its
packet reaches without a wait, idle, no faster, and nothing holds the packet there (02 R45, 03 R72; log 20). -/
def Sys.begun (port q : Nat) (p : Pkt) (s : Sys) : Bool :=
  s.lanes q ≤ s.lanes port && (s.eg q).idle && s.mayStart q { id := 0, len := p.len, tc := p.tc, vc := p.vc }

/-- A multicast copy is pruned at the port-die stage, or has begun to leave (02 R45, 09 R300). -/
def Sys.keptCopy (port : Nat) (p : Pkt) (q : Nat) (s : Sys) : Bool :=
  s.begun port q p || (s.pruneCause q (s.dir port == 1) p.vc).isSome

/-- What a failed payload CRC leaves of a route (02 R45): a copy that has begun goes on and is cut; the others are
dropped. A contribution or a parity packet is checked at its core die, after the checks of Table 07-5 (07 R234). -/
def Sys.crcRoute (port : Nat) (rt : Route) (s : Sys) : Route :=
  match rt with
  | .port q sp p => if s.begun port q p then .port q sp p else .drop fwdPayload false
  | .copies l p =>
    if l.any fun q => q != port && s.begun port q p then .copies (l.filter fun q => s.keptCopy port p q) p
    else .drop fwdPayload false
  | .service k p => if (k = 1 ∧ p.kind = 2) ∨ (k = 3 ∧ p.kind ≠ 6) then .service k p else .drop fwdPayload false
  | r => r

/-- Copies of a multicast packet that a failed payload CRC drops beside the first: each is counted under check 10 (02
R45). -/
def Sys.crcDrops (port : Nat) (rt : Route) (s : Sys) : Nat :=
  match rt with
  | .copies l p =>
    let n := (l.filter fun q => q != port && !s.keptCopy port p q).length
    if l.any fun q => q != port && s.begun port q p then n else n - 1
  | _ => 0

/-- A dropped packet's cells are freed and counted at once (05 R150). -/
def Sys.freeDropped (port : Nat) (p : Pkt) (len : Nat) (s : Sys) : Sys :=
  s.modPort port fun q => { q with freed := modNth q.freed (poolOf p.tc p.vc) (· + BitVec.ofNat 16 (cellsOf len)) }

/-- A received packet is dropped. -/
def Sys.receiveDrop (port : Nat) (p : Pkt) (bytes : List Byte) (code : Word) (notice : Bool) (s : Sys) : Sys :=
  (s.dropOn port (port / 64) code notice p bytes).freeDropped port p bytes.length

/-! ## PACKET_COMMIT -/

/-- The head of a queue is dropped and counted, with no notice. -/
def Sys.dropHead (port k : Nat) (code : Word) (d : Desc) (s : Sys) : Sys :=
  let s1 := s.modEg port fun e => { e with queue := modify e.queue k [] (List.drop 1) }
  match s1.pktRec d.id with
  | none => s1
  | some r =>
    let ip := match r.ingress with | some q => q.toNat | none => 0
    let s2 := s1.dropCount ip r.die code false r.pkt
    let s3 := if d.spilled ∧ code = fwdAge then s2.count 0x9031 ip 1 1 else s2
    (s3.freeCopy port d r.cells).release d.id

/-- A packet that is too old at its commit, or at the head of its queue while it is spilled, is dropped and counted
(05 R172, 11 R357). -/
def Sys.ageDrop (port k : Nat) (d : Desc) (s : Sys) : Sys := s.dropHead port k fwdAge d

/-- The packet of a descriptor is too old. -/
def Sys.descOld (d : Desc) (s : Sys) : Bool :=
  match s.pktRec d.id with
  | some r => r.ingress.isSome && s.tooOld r.pkt
  | none => false

/-- The payload CRC of a descriptor's packet has failed (02 R45). -/
def Sys.descBad (d : Desc) (s : Sys) : Bool :=
  match s.pktRec d.id with
  | some r => !r.crcOk
  | none => false

/-- Spilled packets at the head of a queue that are too old are dropped without a read-back (05 R172). -/
def Sys.dropOldHeads (port k : Nat) : Nat → Sys → Sys
  | 0, s => s
  | fuel + 1, s =>
    match (s.eg port).q k with
    | d :: _ => if d.spilled && s.descOld d then Sys.dropOldHeads port k fuel (s.ageDrop port k d) else s
    | [] => s

/-- The same for every queue of a port. -/
def Sys.dropSpilled (port : Nat) (s : Sys) : Sys :=
  (List.range 16).foldl (fun t k => t.dropOldHeads port k ((t.eg port).q k).length) s

/-- The record of the packet of a copy whose cells are not at its egress die: it is pulled over the Felt. -/
def Sys.elsewhere (port : Nat) (d : Desc) (s : Sys) : Option PktRec :=
  match s.pktRec d.id with
  | some { pool := .spillReturn _, .. } => none
  | some r => if d.mcast ∨ r.die = port / 64 then none else some r
  | none => none

/-- A committed copy is pulled over the Felt into the transit staging of its egress die, whose cells it takes as it is sent, so
that what leaves the ring never waits (05 R166, R174, R175; log 129). Without room there it waits. -/
def Sys.pull (port : Nat) (d : Desc) (s : Sys) : Desc × Sys :=
  match s.elsewhere port d with
  | none => ({ d with waits := false }, s)
  | some r =>
    if !s.copyRoom (port / 64) (cellsOf d.len) then ({ d with waits := true }, s)
    else
      let x := (s.modSw fun w => { w with transit := modify w.transit (port / 64) 0 (· + cellsOf d.len) }).cross
        { kind := r.pkt.traffic, src := r.die, dst := port / 64, bytes := r.pkt.bytes, use := .pull port d.id }
      ({ d with waits := false, staged := true, crossing := !x.1 }, x.2)

/-- The transmission of a number of an outbound flow: its TS and its intervals run from here (05 R162, Table 05-5). -/
def Sys.noteStart (p : Pkt) (s : Sys) : Sys :=
  let mine (f : Flow) : Bool :=
    f.outbound && f.flow == p.flow && f.jtag == p.jtag && (p.rm == rmMulticast || f.peer == p.dgei) && p.kind != 6 &&
      f.svc == p.sgei.setWidth 8
  let again (f : Flow) : Flow :=
    if f.sent.any fun e => e.1 == p.seq then
      { f with
        sent := (f.sent.filter fun e => e.1 != p.seq) ++ [(p.seq, s.clk.ext, s.startInterval (2 * s.drainNs))]
        resent := f.resent.map fun e => if e.1 = p.seq then (e.1, s.startInterval s.drainNs) else e
        last := s.now, lastIv := s.startInterval 0, changed := true }
    else f
  s.modFlows fun t => { t with ctx := t.ctx.map fun e => if mine e.2 then (e.1, again e.2) else e }

/-- A packet starts on the wire behind the ordered sets that are due (02 R70): a copy of an originated packet takes its send time
now (02 R39), and a class 7 crossing is measured (11 R375). -/
def Sys.startTx (port : Nat) (d : Desc) (s0 : Sys) : Sys :=
  let s := s0.osFlush port
  let s1 := s.modEg port fun e =>
    { e with tx := some { d with ts := s.now }, committed := none, txEnd := s.clk.mono + s.txTime port d.len }
  match s1.pktRec d.id with
  | none => s1
  | some r =>
    let s2 := s1.modSw fun w => { w with pkt := put w.pkt d.id { r with begun := true } }
    if r.ingress.isNone then s2.noteStart r.pkt
    else if d.tc = 7 then
      let x := (s.clk.ext - r.arrived).toNat
      let s3 := s2.modPort port fun q => { q with c7max := max q.c7max x }
      if 1250 < x then s3.count 0x9020 (port * 8 + 7) 6 1 else s3
    else s2

/-- A committed packet whose payload CRC is known to have failed before its first byte left is dropped, and its credits and
tokens go back (02 R45). -/
def Sys.dropCommitted (port : Nat) (d : Desc) (s : Sys) : Sys :=
  let s1 := (s.modEg port fun e =>
      { e with
        committed := none
        tokens := if s.shaped port d.tc.toNat then modNth e.tokens d.tc.toNat (· + d.len) else e.tokens }).modPort port fun q =>
    { q with credit := modNth q.credit (poolOf d.tc d.vc) (· + cellsOf d.len) }
  match s1.pktRec d.id with
  | none => s1
  | some r =>
    let ip := match r.ingress with | some q => q.toNat | none => 0
    ((s1.dropCount ip r.die fwdPayload false r.pkt).freeCopy port d r.cells).release d.id

/-- The committed packet starts when nothing is on the wire, it has been pulled, and the gate of its class is open long enough now
(11 R356, R368). -/
def Sys.startNext (port : Nat) (s : Sys) : Sys :=
  let e := s.eg port
  match e.tx, e.committed with
  | none, some d =>
    if d.waits || d.crossing then s
    else if s.descBad d then s.dropCommitted port d
    else if s.gateOk port d.tc.toNat d.len then s.startTx port d
    else s
  | _, _ => s

/-- At a commit, the classes with a head that fails the gate test are counted (11 R368, R376). -/
def Sys.countGateWaits (port : Nat) (s : Sys) : Sys :=
  (List.range 7).foldl
    (fun t c =>
      let waits (k : Nat) : Bool :=
        match s.head port k with
        | some d => !s.gateOk port c d.len
        | none => false
      if waits (2 * c) || waits (2 * c + 1) then t.count 0x9020 (port * 8 + c) 3 1 else t)
    s

/-- The picked packet takes its credits and tokens, leaves its queue, and is committed and pulled. -/
def Sys.commitTo (port k : Nat) (d : Desc) (e : EgPort) (s : Sys) : Sys :=
  let c := d.tc.toNat
  let s1 := (s.countGateWaits port).modEg port fun _ =>
    { e with
      queue := modify e.queue k [] (List.drop 1)
      lastTurned := setNth e.lastTurned c (k % 2 == 1)
      tokens := if s.shaped port c then modNth e.tokens c (· - d.len) else e.tokens }
  let s2 := s1.modPort port fun q => { q with credit := modNth q.credit (poolOf d.tc d.vc) (· - cellsOf d.len) }
  let r := s2.pull port d
  r.2.modEg port fun e => { e with committed := some r.1 }

/-- The picked packet is committed, and starts on an idle port. -/
def Sys.commit (port k : Nat) (d : Desc) (e : EgPort) (s : Sys) : Sys := (s.commitTo port k d e).startNext port

/-- Picks until one may go; those too old are dropped at their commit (11 R357), and so are those whose payload CRC has failed
while they waited (02 R45). -/
def Sys.commitLoop (port : Nat) : Nat → Sys → Sys
  | 0, s => s
  | fuel + 1, s =>
    match s.pick port with
    | (none, e) => s.modEg port fun _ => e
    | (some (k, d), e) =>
      if s.descOld d then Sys.commitLoop port fuel ((s.modEg port fun _ => e).ageDrop port k d)
      else if s.descBad d then Sys.commitLoop port fuel ((s.modEg port fun _ => e).dropHead port k fwdPayload d)
      else s.commit port k d e

/-- A committed packet that waits for staging is pulled when there is room. -/
def Sys.pullAgain (port : Nat) (s : Sys) : Sys :=
  match (s.eg port).committed with
  | some d =>
    if d.waits then
      let r := s.pull port d
      (r.2.modEg port fun e => { e with committed := some r.1 }).startNext port
    else s.startNext port
  | none => s

/-- The scheduler of a port commits its next packet once the packet on the wire has at most 120 ns left (11 R354-R358). -/
def Sys.commitPort (port : Nat) (s : Sys) : Sys :=
  let s0 := if (s.eg port).tx.isSome ∧ (s.eg port).committed.isNone then s.toMono ((s.eg port).txEnd - 120) else s
  let s1 := s0.dropSpilled port
  if (s1.eg port).committed.isSome then s1.pullAgain port
  else s1.commitLoop port (1 + sum ((s1.eg port).queue.map fun q => q.2.length))

/-- PACKET_COMMIT (R356). -/
def execPacketCommit (port : Port) (s : State) : Host.Outcome State Fault Refusal :=
  .next (s.onSys (Sys.commitPort port.toNat))

/-! ## PACKET_TRANSMIT_DONE -/

/-- Demand bucket of a port in force (12 R377). -/
def Sys.demandBucket (port : Nat) (s : Sys) : Nat := (getD s.ocs.bucket port (BitVec.ofNat 6 (port / 16))).toNat

/-- The packet as it left: a copy of an originated packet carries the time at which its byte 0 left (02 R39). -/
def PktRec.asSent (r : PktRec) (d : Desc) : Pkt := if r.ingress.isNone then ({ r.pkt with ts := d.ts } : Pkt).seal else r.pkt

/-- The packet on the wire leaves, and is counted for its class, its port and its demand cell (11 R376, 12 R378, 20 R586,
R595). -/
def Sys.txLeave (port : Nat) (d : Desc) (r : PktRec) (s : Sys) : Sys :=
  let die := port / 64
  let c := d.tc.toNat
  let s1 := (s.modEg port fun e => { e with tx := none }).emit (.packet (BitVec.ofNat 10 port) (r.asSent d) !r.crcOk)
  let s2 := (s1.count 0x9020 (port * 8 + c) 0 1).count 0x9020 (port * 8 + c) 1 d.len
  let s3 := ((s2.event die 0x03 port 1).event die 0x04 port d.len).modPort port fun q => { q with txBytes := q.txBytes + d.len }
  let s4 := if c = 7 then s3.event die 0x0D port 1 else s3
  match r.ingress with
  | some i =>
    s4.modOcs fun o => { o with matrix := modify o.matrix (64 * s.demandBucket i.toNat + s.demandBucket port) 0 (· + d.len) }
  | none => s4

/-- Committed copies of a die that wait for its transit staging are pulled, in port order, while there is room. -/
def Sys.pullDie (die : Nat) (s : Sys) : Sys :=
  s.sw.eg.foldl (fun t e => if e.1 / 64 = die ∧ e.2.committed.any (fun d => d.waits) then t.pullAgain e.1 else t) s

/-- Its copy is freed, and copies that waited for the cells are pulled (05 R150, R166). -/
def Sys.txFree (port : Nat) (d : Desc) (r : PktRec) (s : Sys) : Sys :=
  ((s.freeCopy port d r.cells).release d.id).pullDie (port / 64)

/-- The ordered sets that are due go (02 R70), and the committed packet starts. -/
def Sys.txNext (port : Nat) (s : Sys) : Sys := (s.osFlush port).startNext port

/-- The transmission at a port ends, at the time its last byte leaves. -/
def Sys.txDone (port : Nat) (s0 : Sys) : Sys :=
  match (s0.eg port).tx with
  | none => s0
  | some d =>
    let s := s0.toMono (s0.eg port).txEnd
    match s.pktRec d.id with
    | none => (s.modEg port fun e => { e with tx := none }).txNext port
    | some r => ((s.txLeave port d r).txFree port d r).txNext port

/-- PACKET_TRANSMIT_DONE (R150). -/
def execPacketTransmitDone (port : Port) (s : State) : Host.Outcome State Fault Refusal :=
  .next (s.onSys (Sys.txDone port.toNat))

/-! ## PACKET_RECEIVE: the whole packet -/

/-- Ports of a route. -/
def Route.ports : Route → List Nat
  | .port q _ _ => [q]
  | .copies l _ => l
  | _ => []

/-- A packet whose payload CRC failed after it had begun to leave goes on at once (02 R45). -/
def Sys.startBegun (q id : Nat) (s : Sys) : Sys :=
  match s.pick q with
  | (some (k, d), e) =>
    if d.id = id then
      let t := s.commitTo q k d e
      match (t.eg q).committed with
      | some x => if x.waits || x.crossing then t else t.startTx q x
      | none => t
    else s
  | (none, _) => s

/-- A packet arrives whole on a port (02 R62, 03 R71, R104): receive checks, age, Resolve, payload CRC, queue, spill. -/
def Sys.receive (port : Nat) (bytes : List Byte) (s : Sys) : Sys :=
  let st := (s.port port).st
  let die := port / 64
  if st == .maintenance then ((s.count 0x9010 port 15 1).event die 0x05 port 1).freeDropped port (Pkt.parse bytes) bytes.length
  else if !(st == .up || st == .draining || st == .seasoning) then s
  else
    let p := Pkt.parse bytes
    let len := bytes.length
    let s1 := ((s.modPort port fun q => { q with rxBytes := q.rxBytes + len }).event die 0x01 port 1).event die 0x02 port len
    match s1.receiveChecks p len with
    | some (code, notice) => s1.receiveDrop port p bytes code notice
    | none =>
      if s1.tooOld p then s1.receiveDrop port p bytes fwdAge false
      else
        let c := s1.takeCtr (s1.pipeKey die (some port))
        let r := c.2.resolve die p (some port) c.1
        let rt := if p.dataOk then r.1 else r.2.crcRoute port r.1
        let lost := if p.dataOk then 0 else r.2.crcDrops port r.1
        let u := (List.range lost).foldl (fun t _ => t.dropCount port die fwdPayload false p) r.2
        match rt with
        | .drop code notice => u.receiveDrop port p bytes code notice
        | _ =>
          if u.svcFull rt then u.receiveDrop port p bytes svcBusy true
          else
            let fwd (q : Pkt) : Pkt := { q with hops := q.hops + 1 }
            let rt1 :=
              match rt with
              | .port q sp x => Route.port q sp (fwd x)
              | .copies l x => .copies l (fwd x)
              | x => x
            let rec0 : PktRec :=
              { pkt := p, ingress := some (BitVec.ofNat 10 port), die,
                pool := .ingress (BitVec.ofNat 10 port) (poolOf p.tc p.vc), cells := cellsOf len, copies := 1,
                crcOk := p.dataOk, arrived := s.clk.ext, header := bytes.take 32 }
            let t := u.queueRoute rec0 rt1
            let v := if p.dataOk then t else rt1.ports.foldl (fun t q => t.startBegun q u.sw.nextId) t
            (if t.sw.nextId = u.sw.nextId then v.freeDropped port p len else v).spillCheck port (poolOf p.tc p.vc)

/-- PACKET_RECEIVE (R62). -/
def execPacketReceive (port : Port) (bytes : List Byte) (s : State) : Host.Outcome State Fault Refusal :=
  .next (s.onSys (Sys.receive port.toNat bytes))

/-! ## Spill read-back, ring entry, replication -/

/-- The next spilled packet of a queue is read back when less than 16,384 B of the queue is in SRAM, tokens remain and
the spill-return pool of the egress die has room (05 R170, R171); a head that is too old is dropped instead (R172). DESIGN
CHOICE (log 161): the part in SRAM is what stands before the spilled run, since what is behind it cannot leave first. -/
def Sys.readback (port : Nat) (tc : BitVec 3) (turned : Bool) (s : Sys) : Sys :=
  let k := queueKey tc turned
  let s := s.dropOldHeads port k ((s.eg port).q k).length
  let q := (s.eg port).q k
  let front := q.takeWhile fun d => !d.spilled
  match q.drop front.length with
  | [] => s
  | d :: _ =>
    match s.pktRec d.id with
    | none => s
    | some r =>
      let die := port / 64
      if 16384 ≤ sum (front.map Desc.len) ∨ returnCells < getD s.sw.spillRet die 0 + r.cells then s
      else if s.tokens .readBack < d.len ∨ s.hearth.noGrant.contains die then s.spillStops
      else
        let s1 := s.modSw fun w =>
          { w with
            pkt := if d.mcast then w.pkt else put w.pkt d.id { r with pool := .spillReturn die }
            spillRet := modify w.spillRet die 0 (· + r.cells)
            spillHeld := if d.mcast then w.spillHeld else w.spillHeld - d.len }
        ((s1.memUnits die false r.pkt.bytes).spend .readBack d.len).modEg port fun e =>
          { e with
            queue := modify e.queue k [] fun l =>
              l.map fun x => if x.id = d.id then { x with spilled := false, returned := d.mcast } else x }

/-- SPILL_READBACK (R170). -/
def execSpillReadback (port : Port) (tc : BitVec 3) (turned : Bool) (s : State) : Host.Outcome State Fault Refusal :=
  .next (s.onSys (Sys.readback port.toNat tc turned))

/-- A copy that was pulled is in the staging of its egress die, and may start (05 R175). -/
def Sys.pulledIn (port id : Nat) (s : Sys) : Sys :=
  (s.modEg port fun e =>
    { e with committed := e.committed.map fun d => if d.id = id then { d with crossing := false } else d }).startNext port

/-- Unicast packets at the front of what waits for a die join their queues: the copies that they waited for are made, or on
their way (03 R74). -/
def Sys.passUnicast (die : Nat) : Nat → Sys → Sys
  | 0, s => s
  | fuel + 1, s =>
    match s.sw.replWait.find? (fun w => w.die == die) with
    | some { id, ports := q :: _, unicast := some spray, .. } =>
      let owed := s.inTransit.any fun x => match x.use with | .copy _ _ l => l.contains q | .spread _ l _ => l.contains q | _ => false
      if owed then s
      else
        let t := s.modSw fun w => { w with replWait := w.replWait.filter fun x => !(x.die == die && x.id == id) }
        match s.pktRec id with
        | none => Sys.passUnicast die fuel t
        | some r =>
          let d : Desc := { id, len := r.pkt.len, tc := r.pkt.tc, vc := r.pkt.vc, spray }
          Sys.passUnicast die fuel (if t.hw q = 0 then t.repickOne q d else t.enqueue q d)
    | _ => s

/-- A transfer is at its destination die (05 R175); packets that may not pass a copy follow it (03 R74). -/
def Sys.arrive (u : Use) (s : Sys) : Sys :=
  match u with
  | .pull port id => s.pulledIn port id
  | .service _ => s
  | .spread id ports own =>
    let t := s.spread id ports own
    ((ports.map (· / 64)).eraseDups).foldl (fun t d => t.passUnicast d t.sw.replWait.length) t
  | .copy die id ports => let t := s.portStage die id ports; t.passUnicast die t.sw.replWait.length
  | .origin core p q => s.enterAt core (p, q)
  | .memory stack => s.sinkMem stack
  | .control => s

/-- The transfers of a kind in the slots of a ring direction, and the slots, put through `f`. -/
def RingDir.slotsOf (memory : Bool) (r : RingDir) : List Crossing := if memory then r.mems else r.pkts
def RingDir.modSlots (memory : Bool) (f : List Crossing → List Crossing) (r : RingDir) : RingDir :=
  if memory then { r with mems := f r.mems } else { r with pkts := f r.pkts }

/-- Slots of a kind. -/
def slotCount (memory : Bool) : Nat := if memory then memSlots else pktSlots

/-- The oldest transfer of a kind in a ring direction of a die that can move goes on to the next die: off the ring where its leg
ends, else to a free slot there (05 R174, R175). -/
def Sys.ringMove (die : Nat) (up memory : Bool) (s : Sys) : Sys :=
  let n := (ringHop die up).2
  let room := decide (((s.ringDir n up).slotsOf memory).length < slotCount memory)
  let ends (x : Crossing) : Bool := x.legs.head?.any fun g => g.exit == n
  let here := (s.ringDir die up).slotsOf memory
  match here.findIdx? fun x => ends x || room with
  | none => s
  | some i =>
    match here[i]? with
    | none => s
    | some x =>
      let t := s.modRing die up (RingDir.modSlots memory (List.eraseIdx · i))
      if ends x then
        let y := { x with legs := x.legs.drop 1 }
        if y.legs.isEmpty then t.arrive x.use else t.enterRing y
      else t.modRing n up (RingDir.modSlots memory (· ++ [x]))

/-- The first packet that waits to enter a ring direction of a die takes a slot when two are free (05 R174). -/
def Sys.ringTakePkt (die : Nat) (up : Bool) (s : Sys) : Sys :=
  let r := s.ringDir die up
  match r.waitPkt with
  | [] => s
  | x :: rest =>
    if r.pkts.length + 2 ≤ pktSlots then s.modRing die up fun r => { r with pkts := r.pkts ++ [x], waitPkt := rest } else s

/-- The same for memory transfers and their slots. -/
def Sys.ringTakeMem (die : Nat) (up : Bool) (s : Sys) : Sys :=
  let r := s.ringDir die up
  match r.waitMem with
  | [] => s
  | x :: rest =>
    if r.mems.length + 2 ≤ memSlots then s.modRing die up fun r => { r with mems := r.mems ++ [x], waitMem := rest } else s

/-- Packets of a ring direction of a die: one moves on, and the first that waits enters. -/
def Sys.ringPkt (die : Nat) (up : Bool) (s : Sys) : Sys := (s.ringMove die up false).ringTakePkt die up

/-- Memory transfers of a ring direction of a die. -/
def Sys.ringMem (die : Nat) (up : Bool) (s : Sys) : Sys := (s.ringMove die up true).ringTakeMem die up

/-- Transfers held between two dies start, oldest first, while they may (15 R462, 21 R613). -/
def Sys.releasePair (a b : Nat) : Nat → Sys → Sys
  | 0, s => s
  | fuel + 1, s =>
    match s.felt.held.findIdx? fun x => x.src == a && x.dst == b with
    | none => s
    | some i =>
      match s.felt.held[i]? with
      | none => s
      | some x =>
        if s.barred x then s
        else
          let t := (s.modFelt fun f => { f with held := f.held.eraseIdx i }).crossNow x
          Sys.releasePair a b fuel (if t.1 then t.2.arrive x.use else t.2)

/-- Every transfer that is held starts, where it may. -/
def Sys.releaseAll (s : Sys) : Sys :=
  ((s.felt.held.map fun x => (x.src, x.dst)).eraseDups).foldl (fun t p => t.releasePair p.1 p.2 t.felt.held.length) s

/-- One turn of a ring direction of a die: packets first, then, where the turn is memory's, memory transfers (01 R21; 05 R174,
R175). -/
def Sys.ringEnter (die : Nat) (up memory : Bool) (s : Sys) : Sys :=
  let t := s.ringPkt die up
  if memory then t.ringMem die up else t

/-- RING_ENTRY (R174). -/
def execRingEntry (die : Die) (up memory : Bool) (s : State) : Host.Outcome State Fault Refusal :=
  .next (s.onSys (Sys.ringEnter die.toNat up memory))

/-- Cells of an originated packet that came free let waiting packets of its core die enter (05 R167). -/
def Sys.drainAfter (pool : Pool) (s : Sys) : Sys :=
  match pool with
  | .originated d => s.drainOrig (d / 4) 64
  | _ => s

/-- The first copy that waits for a die is made when its transit pool has room (09 R299), and unicast packets behind it go on. -/
def Sys.replResume (die : Nat) (s0 : Sys) : Sys :=
  let s := s0.passUnicast die s0.sw.replWait.length
  match s.sw.replWait.find? (fun w => w.die == die) with
  | none => s
  | some w =>
    if w.unicast.isSome then s
    else
      let s1 := s.modSw fun x => { x with replWait := x.replWait.filter fun y => !(y.die == die && y.id == w.id) }
      match s.pktRec w.id with
      | none => s1
      | some r =>
        if s.copyRoom die r.cells then ((s1.copyDown die w.id w.ports).drainAfter r.pool).passUnicast die s1.sw.replWait.length
        else s

/-- REPLICATION_RESUME (R299). -/
def execReplicationResume (die : Die) (s : State) : Host.Outcome State Fault Refusal :=
  .next (s.onSys (Sys.replResume die.toNat))

/-! ## Refills and the notice cache -/

/-- The shapers of one port gain their tokens under the settings now in force, clipped to their depths, and the deficits
are clipped to their caps (11 R360-R363). -/
def Sys.refillPort (port : Nat) (s : Sys) : Sys :=
  s.modEg port fun e =>
    { e with
      tokens := (List.range 7).map fun c => min (nth e.tokens c 0 + s.gain port c) (s.depth port c)
      deficit := (List.range 6).map fun c => min (nth e.deficit c 0) (nth (s.schedOf port).quantum c 16384 + 4160) }

/-- The buckets of a port that enters Up are full (11 R362). -/
def Sys.fillTokens (port : Nat) (s : Sys) : Sys :=
  s.modEg port fun e => { e with tokens := (List.range 7).map fun c => s.depth port c }

/-- Refills at which a shaped class waits only for tokens are counted (11 R376). -/
def Sys.countTokenWaits (port : Nat) (s : Sys) : Sys :=
  (List.range 7).foldl
    (fun t c =>
      let waits (k : Nat) : Bool :=
        match s.head port k with
        | some d => s.creditOk port d && s.gateOk port c d.len && !s.tokensOk port d
        | none => false
      if s.shaped port c && (waits (2 * c) || waits (2 * c + 1)) then t.count 0x9020 (port * 8 + c) 2 1 else t)
    s

/-- Ports whose link state is Up. -/
def Sys.upPorts (s : Sys) : List Nat := (s.ports.port.filter fun e => e.2.st == .up).map fun e => e.1

/-- A refill at the next boundary of 1,024 ns (11 R361, R363; 03 R108): pending scheduler settings take effect, every
shaper refills once, every notice bucket gains 4; the HBM has served the requests of the ring (05 R175; log 125). A step of
the time backward moves the last refill back with it (`Sys.stepApply`). -/
def Sys.refill (s : Sys) : Sys :=
  let t := s.toExt (nextBoundary 10 s.clk.lastRefill)
  let t1 := t.upPorts.foldl (fun u p => u.countTokenWaits p) t
  let t2 := t1.modSw fun w => { w with sched := t.nv.sched }
  let t3 := t2.upPorts.foldl (fun u p => u.refillPort p) t2
  let t4 := (t3.modFwd fun f => { f with bucket := f.bucket.map fun e => (e.1, min 32 (e.2 + 4)) }).modMem fun m =>
    { m with stack := m.stack.map fun e => (e.1, { e.2 with requests := 0 }) }
  t4.modClk fun c => { c with lastRefill := t4.floorTo 10 }

/-- SHAPER_REFILL (R361). -/
def execShaperRefill (s : State) : Host.Outcome State Fault Refusal := .next (s.onSys Sys.refill)

/-- The oldest pair leaves the notice cache of a port die 65,536 ns after it entered (03 R108). -/
def Sys.cacheExpire (die : Nat) (s : Sys) : Sys :=
  match getD s.fwd.cache die [] with
  | [] => s
  | e :: rest => (s.toExt (e.2.2 + 65536)).modFwd fun f => { f with cache := put f.cache die rest }

/-- NOTICE_CACHE_EXPIRE (R108). -/
def execNoticeCacheExpire (die : Die) (s : State) : Host.Outcome State Fault Refusal :=
  .next (s.onSys (Sys.cacheExpire die.toNat))

end Sys2Proof.Machine
end

