-- ==== Sys2Proof/Machine/Flow.lean ====
section
/-! DEFINITION. Deliveries to the module's services, and flow contexts: opening, receiving, grants, acknowledgement, loss,
closing and the context cache (05 R156-R184). -/

namespace Sys2Proof.Machine

/-! ## Deliveries -/

/-- A delivery is still on its way to its core die: held behind a route fence, or in or before a ring slot (15 R462, 05 R174). -/
def Sys.heldDelivery (d : Delivery) (s : Sys) : Bool :=
  s.inTransit.any fun x => match x.use with | .service i => i == d.id | .spread i _ _ => i == d.id | _ => false

/-- The first packet waiting for a core die's service units that satisfies `p` and is not held, taken from the queue. -/
def Sys.takeDelivery (p : Delivery → Bool) (s : Sys) : Option (Delivery × Sys) :=
  match s.sw.svc.findIdx? fun d => p d && !s.heldDelivery d with
  | none => none
  | some i =>
    match s.sw.svc[i]? with
    | some d => some (d, s.modSw fun w => { w with svc := w.svc.eraseIdx i })
    | none => none

/-- A delivered packet is consumed: its cells are freed (05 R150). -/
def Sys.consume (d : Delivery) (s : Sys) : Sys := s.release d.id

/-- Ingress port of a delivered packet, 0 for one of the module's own. -/
def Sys.portOf (d : Delivery) (s : Sys) : Nat :=
  match s.pktRec d.id with
  | some { ingress := some p, .. } => p.toNat
  | _ => 0

/-- The payload CRC of a delivered packet held. -/
def Sys.crcOf (d : Delivery) (s : Sys) : Bool :=
  match s.pktRec d.id with
  | some r => r.crcOk
  | none => true

/-- Received bytes 0-31 of a delivered packet. -/
def Sys.headOf (d : Delivery) (s : Sys) : List Byte :=
  match s.pktRec d.id with
  | some r => r.header
  | none => d.pkt.header

/-- A delivered packet is dropped by its service: counted, logged, and answered with a notice where `notice` says so; one that
needs a flow context is answered with none while HBM is remapped (14 R448). -/
def Sys.dropDelivered (core : Nat) (code : Word) (notice : Bool) (d : Delivery) (s : Sys) : Sys :=
  let mute := s.mem.remapping && (code == flowUnknown || code == flowFull)
  s.dropAtCore core (s.portOf d) code (notice && !mute) d.pkt (s.headOf d)

/-- Items of family 0x9011 for counts that the spec places in no family (log 13). -/
abbrev itemFlowDiscard : Nat := 32
abbrev itemGrantIgnored : Nat := 33
abbrev itemResultIgnored : Nat := 34
abbrev itemRecordIgnored : Nat := 35
abbrev itemBarrierExtra : Nat := 36
abbrev itemStagingDropped : Nat := 37
abbrev itemPruned : Nat := 38
abbrev itemNoticeSink : Nat := 39

/-- One event of such a count, at a port. -/
def Sys.tally (item port : Nat) (s : Sys) : Sys := s.count 0x9011 port item 1

/-! ## Contexts -/

/-- The flow context of a key (05 R176). -/
def Sys.findFlow (peer : Word) (flow : BitVec 24) (outbound : Bool) (s : Sys) : Option (Nat × Flow) :=
  s.flows.ctx.find? fun e => e.2.peer == peer && e.2.flow == flow && e.2.outbound == outbound

/-- A flow context put through `f`: it differs from the one in HBM (05 R181). -/
def Sys.modFlow (i : Nat) (f : Flow → Flow) (s : Sys) : Sys :=
  s.modFlows fun t => { t with ctx := update t.ctx i fun x => { f x with changed := true } }

/-- Home core die of a context (05 R181, 03 R100): CTX mod 4 for rebuild shards, the active Collier's die for the in-band path,
else JTAG mod 4. -/
def Flow.home (f : Flow) : Nat := if f.svc = 3 ∨ f.svc = 0 then f.obj.toNat % 4 else f.jtag.toNat % 4

/-- A context may be opened on a core die (05 R184), but not while HBM is remapped (14 R448). -/
def Sys.flowRoom (core : Nat) (s : Sys) : Bool :=
  !s.mem.remapping && s.flows.ctx.length < 4194304 && (s.flows.ctx.filter fun e => e.2.home == core).length < 1048576

/-- The least recently used of a full set of 8, which index `i` replaces (05 R181; the set of an index is its value modulo 4,096,
log 23). -/
def cacheVictim (i : Nat) (l : List Nat) : Option Nat :=
  let set := l.filter fun j => j != i && j % 4096 == i % 4096
  if l.contains i || set.length < 8 then none else set.head?

/-- Index `i` becomes the most recently used of its set. -/
def cacheTouch (i : Nat) (l : List Nat) : List Nat :=
  (l.filter fun j => j != i && cacheVictim i l != some j) ++ [i]

/-- The context that index `i` replaces on a core die, when it has changed and goes back to HBM (05 R181). -/
def Sys.writeBack (core i : Nat) (s : Sys) : Option Nat :=
  (cacheVictim i (getD s.flows.cached core [])).filter fun v => (get? s.flows.ctx v).any Flow.changed

/-- A context is used on its home core die; a changed one that it replaces is written back, for which it takes flow-context tokens
(17 Table 17-5; log 109). -/
def Sys.touch (core i : Nat) (s : Sys) : Sys :=
  let t := s.modFlows fun t => { t with cached := modify t.cached core [] (cacheTouch i) }
  match s.writeBack core i with
  | none => t
  | some v =>
    ((t.memAccess (16 + core) true []).modFlows fun t =>
      { t with ctx := update t.ctx v fun f => { f with changed := false } }).spend .flow 256

/-- A context lies in the cache of its home core die. -/
def Sys.isCached (core i : Nat) (s : Sys) : Bool := (getD s.flows.cached core []).contains i

/-- A key of the sending side may not be used yet: its last flow has not rested for the flow idle time plus one drain bound
(05 R164). -/
def Sys.rests (peer : Word) (flow : BitVec 24) (s : Sys) : Bool :=
  s.flows.resting.any fun e => e.1 == peer && e.2.1 == flow && decide (s.elapsed e.2.2 < e.2.2.len)

/-- A context is opened at the lowest free index, when its core die has room, and for an outbound one when its key may be used
(05 R164, R177, R184; log 23). -/
def Sys.openFlow (f : Flow) (s : Sys) : Option (Nat × Sys) :=
  if s.flowRoom f.home && !(f.outbound && ((s.findFlow f.peer f.flow true).isSome || s.rests f.peer f.flow)) then
    (lowestFree s.flows.ctx 4194304).map fun i =>
      let t := s.modFlows fun t => { t with ctx := put t.ctx i { f with lastIv := s.startInterval 0, changed := true } }
      (i, (t.wrote (.flow i)).touch f.home i)
  else none

/-- Objects and rebuilds no longer name a context (4,194,304 names none). -/
def Sys.forgetFlow (i : Nat) (s : Sys) : Sys :=
  let gone (o : Option Nat) : Option Nat := if o = some i then none else o
  (s.modBc fun b =>
    { b with
      objs := b.objs.map fun o =>
        { o with inflow := gone o.inflow, receivers := o.receivers.map fun r => { r with flow := gone r.flow } } }).modVault
    fun v =>
      { v with
        slot := v.slot.map fun e =>
          (e.1, { e.2 with
            rebuild := e.2.rebuild.map fun r => { r with flows := r.flows.map fun j => if j = i then 4194304 else j } }) }

/-- A context becomes FREE, and nothing names it any more; the key of an outbound one rests (05 R164). -/
def Sys.freeFlow (i : Nat) (s : Sys) : Sys :=
  let rest : List (Word × BitVec 24 × Interval) :=
    match get? s.flows.ctx i with
    | some f => if f.outbound then [(f.peer, f.flow, { f.lastIv with len := s.nv.flowIdle * 1000 + s.drainNs })] else []
    | none => []
  (s.forgetFlow i).modFlows fun t =>
    { t with
      ctx := del t.ctx i
      resting := (t.resting.filter fun e => decide (s.elapsed e.2.2 < e.2.2.len)) ++ rest
      cached := t.cached.map fun e => (e.1, e.2.filter fun j => j != i) }

/-- The window that the receiver of a flow keeps (05 Table 05-6; 09 R308 for objects): WIN 255, or 4,095. -/
def winOf (svc : BitVec 8) : BitVec 16 := if svc = 2 then 4095 else 255

/-- A new context whose numbers start at `first` (05 R159). -/
def Flow.new (peer : Word) (flow : BitVec 24) (outbound : Bool) (jtag : BitVec 16) (jgen svc : BitVec 8) (first : Word)
    (obj : Word) (ridx : Nat) : Flow :=
  { peer, flow, outbound, jtag, jgen, svc, ack := first, limit := first + 16, next := first, grantAck := first,
    win := if outbound then 15 else winOf svc, obj, ridx }

/-! ## Grants (05 R157-R161) -/

/-- Bit i: number ACK + 1 + i is among the numbers `got`. -/
def ackMap (n : Nat) (ack : Word) (got : List Word) : Nat :=
  got.foldl (fun a x => let d := (x - (ack + 1)).toNat; if d < n then a ||| 2 ^ d else a) 0

/-- Numbers from ACK up to the highest received that are missing. -/
def Flow.missing (f : Flow) : List Word :=
  ((List.range (f.next - f.ack).toNat).map fun i => f.ack + BitVec.ofNat 32 i).filter fun x => !f.got.contains x

/-- Every missing number below the highest received is lost: the packet that carried it is older than the drain bound
(05 R161), which needs a valid time (02 R53). -/
def Sys.lossNow (f : Flow) (s : Sys) : Bool :=
  s.clk.valid && f.next != f.ack && !f.got.isEmpty && s.drainNs < (s.now - f.hts).toNat

/-- The receiver of a flow sends a grant (05 R157, R160): the limit follows ACK and never falls; without a time it is
withheld and counted as suppressed (21 R610). -/
def Sys.sendGrant (i : Nat) (close : Bool) (s : Sys) : Sys :=
  match get? s.flows.ctx i with
  | none => s
  | some f =>
    let core := f.home
    if !s.clk.valid then s.count 0x9012 (4 * core) 1 1
    else
      let lim := f.ack + (f.win.setWidth 32) + 1
      let limit := if serialAfter lim f.limit then lim else f.limit
      let lost := s.lossNow f
      let body := toBe 4 f.ack.toNat ++ toBe 4 limit.toNat ++ toBe 4 (ackMap 32 f.ack f.got) ++
        toBe 4 (b2n close * 2 ^ 25 + b2n lost * 2 ^ 24)
      let p := { s.ownPkt f.svc.toNat 6 6 f.peer f.flow (f.gseq + 1) body with jtag := f.jtag, jgen := f.jgen }
      (s.modFlow i fun f =>
          { f with
            limit, gseq := f.gseq + 1, grantAck := f.ack, grantTime := s.clk.ext
            lost := if lost then f.missing else f.lost }).originate core p

/-- An OPEN context moves to CLOSING; an inbound one sends one grant with CLOSE set (05 R179). -/
def Sys.closeFlow (i : Nat) (s : Sys) : Sys :=
  match get? s.flows.ctx i with
  | none => s
  | some f =>
    if f.st ≠ .opened then s
    else
      let t := s.modFlow i fun f => { f with st := .closing, closing := some (s.startInterval s.drainNs) }
      if f.outbound then t else t.sendGrant i true

/-! ## Receiving (05 R160-R163) -/

/-- Numbers at the front of `got` that ACK now passes over. -/
def ackOver : Nat → Word → List Word → Word × List Word
  | 0, a, l => (a, l)
  | n + 1, a, l => if l.contains a then ackOver n (a + 1) (l.filter fun x => x != a) else (a, l)

/-- An accepted number enters the context. -/
def Flow.accept (f : Flow) (seq ts : Word) : Flow :=
  let high := serialGe seq f.next
  let a := ackOver (f.got.length + 1) f.ack (seq :: f.got)
  { f with
    ack := a.1, got := a.2
    next := if high then seq + 1 else f.next
    hts := if high then ts else f.hts }

/-- A grant is due: ACK has advanced by a quarter of the window, or a loss is found for the first time (05 R160). -/
def Sys.grantDue (f : Flow) (s : Sys) : Bool :=
  (f.limit - f.grantAck).toNat / 4 ≤ (f.ack - f.grantAck).toNat && f.ack != f.grantAck ||
    (s.lossNow f && f.missing.any fun x => !f.lost.contains x)

/-- A grant goes out when one is due. -/
def Sys.grantIfDue (i : Nat) (s : Sys) : Sys :=
  match get? s.flows.ctx i with
  | some f => if s.grantDue f then s.sendGrant i false else s
  | none => s

/-- A packet arrives for an inbound context (05 R163, R179): true when its payload is to be taken. DESIGN CHOICE (log 162): a
packet that is discarded is not the flow's last packet, so LAST and the idle time stand. -/
def Sys.flowAccepts (i : Nat) (d : Delivery) (s : Sys) : Bool × Sys :=
  match get? s.flows.ctx i with
  | none => (false, s)
  | some f =>
    match f.st with
    | .closing => (false, (s.tally itemFlowDiscard (s.portOf d)).sendGrant i true)
    | .stale => (false, s.tally itemFlowDiscard (s.portOf d))
    | .opened =>
      let q := d.pkt.seq
      if serialAfter f.ack q || f.got.contains q then (false, (s.tally itemFlowDiscard (s.portOf d)).sendGrant i false)
      else if serialGe q f.limit then (false, s.dropDelivered f.home Config.windowCode true d)
      else
        (true, s.modFlow i fun f => { f.accept q d.pkt.ts with last := s.now, lastIv := s.startInterval 0 })

/-! ## Acknowledgement at the sender (05 R158, R162) -/

/-- A grant's payload. -/
structure GrantBody where
  ack : Word
  limit : Word
  sack : Nat
  close : Bool
  lost : Bool
  deriving DecidableEq, Repr

/-- The fields of a grant payload. -/
def GrantBody.of (l : List Byte) : GrantBody :=
  let w := beAt l 12 4
  { ack := wordAt l 0, limit := wordAt l 4, sack := beAt l 8 4, close := bit w 25, lost := bit w 24 }

/-- Numbers that a SACK map names as received. -/
def sackNums (ack : Word) (m : Nat) : List Word :=
  ((List.range 32).filter fun i => bit m i).map fun i => ack + 1 + BitVec.ofNat 32 i

/-- Numbers that a grant with LOST reports: ACK, and the clear SACK bits below the highest set one (05 Table 05-2). -/
def lostNums (g : GrantBody) : List Word :=
  g.ack :: ((List.range 32).filter fun i => !bit g.sack i && decide (2 ^ (i + 1) ≤ g.sack)).map fun i =>
    g.ack + 1 + BitVec.ofNat 32 i

/-- An accepted grant advances the sender's context; a lost number becomes due unless its last resend is younger than
one drain bound (05 R158, R162). -/
def Sys.takeGrant (i : Nat) (gseq : Word) (g : GrantBody) (s : Sys) : Sys :=
  s.modFlow i fun f =>
    let ack := if serialAfter g.ack f.ack then g.ack else f.ack
    let got := ((f.got ++ sackNums g.ack g.sack).eraseDups).filter fun x => serialGe x ack
    let a := ackOver (got.length + 1) ack got
    let out := f.sent.filter fun e => serialGe e.1 a.1 && !a.2.contains e.1
    let quiet (x : Word) : Bool := f.resent.any fun e => e.1 == x && decide (s.elapsed e.2 < e.2.len)
    let due := if g.lost then (lostNums g).filter fun x => out.any (fun e => e.1 == x) && !quiet x else []
    { f with
      gseq, ack := a.1, got := a.2, sent := out
      limit := if serialAfter g.limit f.limit then g.limit else f.limit
      win := BitVec.ofNat 16 (((if serialAfter g.limit f.limit then g.limit else f.limit) - a.1).toNat - 1)
      due := (((f.due.filter fun x => out.any fun e => e.1 == x) ++ due).eraseDups)
      resent := f.resent.filter fun e => out.any fun o => o.1 == e.1 }

/-- Number `x` has left on an outbound flow; `again` marks a resend (05 R162). -/
def Sys.noteSent (i : Nat) (x : Word) (again : Bool) (s : Sys) : Sys :=
  s.modFlow i fun f =>
    { f with
      next := if serialGe x f.next then x + 1 else f.next
      sent := (f.sent.filter fun e => e.1 != x) ++ [(x, s.clk.ext, s.startInterval (2 * s.drainNs))]
      due := f.due.filter fun y => y != x
      resent := if again then (f.resent.filter fun e => e.1 != x) ++ [(x, s.startInterval s.drainNs)] else f.resent
      last := s.now
      lastIv := s.startInterval 0 }

/-- TS of the oldest unacknowledged transmission, as HTS of an outbound context reads (`Sys.noteStart` keeps it at the time at
which the packet left). -/
def Flow.oldest (f : Flow) : Word :=
  match f.sent with
  | e :: r => ((r.foldl (fun a x => if serialGe64 a x.2.1 then x.2.1 else a) e.2.1).setWidth 32)
  | [] => 0

/-- Nothing is outstanding on a flow (05 R179). -/
def Flow.quiet (f : Flow) : Bool := if f.outbound then f.sent.isEmpty else f.got.isEmpty

/-- The idle time in ns. -/
def Sys.idleNs (s : Sys) : Nat := s.nv.flowIdle * 1000

/-- Nanoseconds left of an interval. -/
def Sys.left (v : Interval) (s : Sys) : Nat := v.len - s.elapsed v

/-- Numbers of an outbound context that are due for resending: two drain bounds have passed since their last
transmission (05 R162). -/
def Sys.overdue (f : Flow) (s : Sys) : List Word := (f.sent.filter fun e => s.left e.2.2 == 0).map fun e => e.1

/-- Nanoseconds until the next deadline of a context (05 R183): its resend deadline, else its idle deadline; none when it is in
no list of the wheel, which one with missing numbers leaves at its idle deadline. -/
def Sys.deadline (f : Flow) (s : Sys) : Option Nat :=
  let idle := s.idleNs - s.elapsed f.lastIv
  if f.st ≠ .opened then none
  else
    match f.outbound, f.sent with
    | true, e :: r => some (r.foldl (fun a x => min a (s.left x.2.2)) (s.left e.2.2))
    | _, _ => if f.quiet || idle != 0 then some idle else none

/-! ## The cache and the miss queue (05 R182) -/

/-- A delivered packet finds its context in the cache, or waits for the fetch in the miss queue; with the miss queue full
it stays where it is, held by hop credits. `act` runs when the context is at hand. -/
def Sys.withContext (core i : Nat) (d : Delivery) (act : Sys → Sys) (s whenFull : Sys) : Sys :=
  let q := getD s.flows.missq core []
  if s.isCached core i then act (s.touch core i)
  else if 1024 ≤ q.length then whenFull
  else
    ((s.modFlows fun t =>
      { t with
        missq := put t.missq core (q ++ [d])
        misses := modify t.misses core 0 s.bump }).event (16 + core) 0x24 0 1).memAccess (16 + core) true []

/-- A packet of a flow toward a service that keeps flows is checked against its context, found or opened (05 R163, R177, R182),
the grant that is due goes, and the packet is consumed; true when its payload is to be taken. `whenFull`: the state while the
miss queue is full. -/
def Sys.inboundTake (core : Nat) (d : Delivery) (f : Flow) (s whenFull : Sys) : Bool × Sys :=
  let p := d.pkt
  let run (i : Nat) (t : Sys) : Bool × Sys :=
    let r := t.flowAccepts i d
    (r.1, (r.2.grantIfDue i).consume d)
  match s.findFlow p.sgei p.flow false with
  | some (i, _) => if s.isCached core i then run i (s.touch core i) else (false, s.withContext core i d id whenFull)
  | none =>
    if !serialAfter 16 p.seq then (false, (s.dropDelivered core flowUnknown true d).consume d)
    else
      match s.openFlow f with
      | none => (false, (s.dropDelivered core flowFull true d).consume d)
      | some (i, t) => run i t

/-! ## The module's in-band messages (18 R540; 05 R156, R162, R177) -/

/-- The flow ID under which the module's in-band messages go to `gei`: the lowest that is neither in use toward it nor resting
(log 130). -/
def Sys.inbandFlow (gei : Word) (s : Sys) : BitVec 24 :=
  BitVec.ofNat 24 ((firstFrom
    (fun n => (s.findFlow gei (BitVec.ofNat 24 n) true).isNone && !s.rests gei (BitVec.ofNat 24 n)) 0 256).getD 0)

/-- One in-band message leaves under its number; `again` marks a resend. -/
def Sys.inbandOut (i : Nat) (seq : Word) (again : Bool) (msg : List Byte) (s : Sys) : Sys :=
  match get? s.flows.ctx i with
  | none => s
  | some f =>
    ((s.noteSent i seq again).modMg fun m => { m with inbandSent := put m.inbandSent (2 ^ 32 * i + seq.toNat) msg }).originate
      f.home (s.ownPkt 0 9 6 f.peer f.flow seq msg)

/-- In-band messages that wait for the peer of a flow leave in order while its window allows. -/
def Sys.inbandPump (i : Nat) : Nat → Sys → Sys
  | 0, s => s
  | fuel + 1, s =>
    match get? s.flows.ctx i with
    | none => s
    | some f =>
      match s.mg.inbandWait.find? fun e => e.1 == f.peer with
      | some e =>
        if serialAfter f.limit f.next then
          Sys.inbandPump i fuel
            ((s.modMg fun g => { g with inbandWait := g.inbandWait.eraseP fun x => x.1 == f.peer }).inbandOut i f.next false e.2)
        else s
      | none => s

/-- What waits for a GEI goes: under the open flow toward it, or a new one when contexts are free. -/
def Sys.inbandTo (gei : Word) (s : Sys) : Sys :=
  let mine (e : Nat × Flow) : Bool := e.2.svc == 0 && e.2.outbound && e.2.peer == gei && e.2.st == .opened
  match s.flows.ctx.find? mine with
  | some (i, _) => s.inbandPump i 64
  | none =>
    match s.openFlow (Flow.new gei (s.inbandFlow gei) true 0 0 0 0 (BitVec.ofNat 32 s.collierCore) 0) with
    | some (i, t) => t.inbandPump i 64
    | none => s

/-- The in-band path sends what waits, each message to the GEI that was OWNER when it was made (18 R540). -/
def Sys.inbandGo (s : Sys) : Sys :=
  (s.mg.inbandWait.map fun e => e.1).eraseDups.foldl (fun a g => a.inbandTo g) s

/-- A grant has moved an in-band flow: what is due leaves again, what is acknowledged is forgotten, what waits goes. -/
def Sys.inbandMoved (i : Nat) (s : Sys) : Sys :=
  match get? s.flows.ctx i with
  | none => s
  | some f =>
    let t := s.modMg fun m =>
      { m with
        inbandSent := m.inbandSent.filter fun e =>
          e.1 / 2 ^ 32 != i || f.sent.any fun x => x.1.toNat == e.1 % 2 ^ 32 }
    let u := f.due.foldl
      (fun a x =>
        match get? a.mg.inbandSent (2 ^ 32 * i + x.toNat) with
        | some m => a.inbandOut i x true m
        | none => a) t
    u.inbandGo

end Sys2Proof.Machine
end

