-- ==== Sys2Proof/Machine/Vat.lean ====
section
/-! DEFINITION. Vat arithmetic: formats, accumulation, rounding, the epilogue, side outputs, GF(2^8), and the Exact Partial
Format (06 R185-R214; 07 R244-R249). -/

namespace Sys2Proof.Machine

/-! ## Formats (06 Tables 06-1, 06-2) -/

/-- A binary float format: precision, exponent bits, emin; whether all-ones exponents mean infinity and NaN; whether only
the all-ones pattern is NaN (E4M3). -/
structure FloatFmt where
  p : Nat
  ebits : Nat
  emin : Int
  emax : Int
  ieee : Bool := false
  onlyNan : Bool := false
  deriving DecidableEq, Repr

/-- The float format of a format code, of the element of an MX format. -/
def floatFmt (fmt : Nat) : Option FloatFmt :=
  match fmt with
  | 1 => some { p := 24, ebits := 8, emin := -126, emax := 127, ieee := true }
  | 2 => some { p := 8, ebits := 8, emin := -126, emax := 127, ieee := true }
  | 3 => some { p := 11, ebits := 5, emin := -14, emax := 15, ieee := true }
  | 4 | 6 => some { p := 4, ebits := 4, emin := -6, emax := 8, onlyNan := true }
  | 5 | 7 => some { p := 3, ebits := 5, emin := -14, emax := 15, ieee := true }
  | 8 => some { p := 4, ebits := 2, emin := 0, emax := 2 }
  | 9 => some { p := 3, ebits := 3, emin := -2, emax := 4 }
  | 10 => some { p := 2, ebits := 2, emin := 0, emax := 2 }
  | _ => none

/-- An MX format (06 R186). -/
def isMx (fmt : Nat) : Bool := 6 ≤ fmt && fmt ≤ 11

/-- A float input or output format, MXINT8 included (06 R191). -/
def isFloat (fmt : Nat) : Bool := 1 ≤ fmt && fmt ≤ 11

/-- Bits of a stored element. -/
def elemBits (fmt : Nat) : Nat :=
  match fmt with
  | 1 | 13 => 32
  | 2 | 3 => 16
  | 10 => 4
  | _ => 8

/-- bytes(f, n) (06 R188). -/
def tileBytes (fmt n : Nat) : Nat := n * elemBits fmt / 8 + (if isMx fmt then n / 32 else 0)

/-- The value of an element: the integer significand and the exponent of its least significant bit. -/
inductive Val where
  | nan
  | inf (neg : Bool)
  | fin (neg : Bool) (m : Nat) (q : Int)
  deriving DecidableEq, Repr

/-- Value of a float pattern (06 R185). -/
def FloatFmt.decode (f : FloatFmt) (w : Nat) : Val :=
  let mant := w % 2 ^ (f.p - 1)
  let e := w / 2 ^ (f.p - 1) % 2 ^ f.ebits
  let neg := bit w (f.p - 1 + f.ebits)
  if e = 2 ^ f.ebits - 1 ∧ f.ieee then (if mant = 0 then .inf neg else .nan)
  else if e = 2 ^ f.ebits - 1 ∧ f.onlyNan ∧ mant = 2 ^ (f.p - 1) - 1 then .nan
  else if e = 0 then .fin neg mant (f.emin - f.p + 1)
  else .fin neg (2 ^ (f.p - 1) + mant) (f.emin + e - 1 - f.p + 1)

/-- Value of an integer times 2^q. -/
def intVal (k : Int) (q : Int) : Val := .fin (k < 0) k.natAbs q

/-- Value of one element of a format without its block scale; MXFP6 ignores bits [7:6] (06 R187). -/
def elemVal (fmt w : Nat) : Val :=
  match fmt with
  | 11 => intVal (BitVec.ofNat 8 w).toInt (-6)
  | 12 => intVal (BitVec.ofNat 8 w).toInt 0
  | 13 => intVal (BitVec.ofNat 32 w).toInt 0
  | 14 => .fin false w 0
  | f => match floatFmt f with | some g => g.decode (w % 2 ^ (g.p + g.ebits)) | none => .nan

/-- An element under its block scale X (06 R186). -/
def scaled (x : Nat) : Val → Val
  | .fin s m q => if x = 255 then .nan else .fin s m (q + x - 127)
  | v => if x = 255 then .nan else v

/-- Element patterns of a byte list, `bits` to an element, in order (06 R187). -/
def patterns (fmt : Nat) (l : List Byte) : List Nat :=
  match elemBits fmt with
  | 32 => (chunks 4 l).map be
  | 16 => (chunks 2 l).map be
  | 4 => l.flatMap fun b => [b.toNat / 16, b.toNat % 16]
  | _ => l.map BitVec.toNat

/-- Values of the elements of a tile payload (06 R187). -/
def tileVals (fmt n : Nat) (l : List Byte) : List Val :=
  if isMx fmt then
    let xs := l.take (n / 32)
    let es := (patterns fmt (l.drop (n / 32))).map (elemVal fmt)
    (List.range n).map fun i => scaled (nth xs (i / 32) 0).toNat (nth es i .nan)
  else ((patterns fmt l).take n).map (elemVal fmt)

/-- Element patterns as bytes. -/
def packElems (fmt : Nat) (l : List Nat) : List Byte :=
  match elemBits fmt with
  | 32 => l.flatMap (toBe 4)
  | 16 => l.flatMap (toBe 2)
  | 4 => (chunks 2 l).map fun c => BitVec.ofNat 8 (nth c 0 0 * 16 + nth c 1 0)
  | _ => l.map (BitVec.ofNat 8)

/-! ## Windows and long accumulators (06 R197-R201) -/

/-- The base is movable: FP32, BF16 and every MX format (06 Table 06-6). -/
def movable (fmt : Nat) : Bool := fmt == 1 || fmt == 2 || isMx fmt

/-- Fixed base of a format. -/
def fixedBase (fmt : Nat) : Int := match fmt with | 3 => -24 | 5 => -16 | 4 => -9 | _ => 0

/-- Distance of a movable base below the first contribution, and the span H. -/
def headSpan (fmt : Nat) : Nat × Nat := if fmt = 1 ∨ fmt = 2 then (57, 106) else (24, 43)

/-- Lanes per element (06 Table 06-4). -/
def lanesOf (op fmt : Nat) : Nat := if op = 0 ∧ (fmt = 1 ∨ fmt = 2) then 2 else 1

/-- An element when the tile's first contribution arrives (06 Table 06-5). -/
def Elem.start (fmt : Nat) : Elem := if movable fmt then {} else { base := fixedBase fmt, bv := true }

/-- Exponent of the most significant set bit of m × 2^q. -/
def topBit (m : Nat) (q : Int) : Int := q + m.log2

/-- Trailing zeros of a number that is not 0. -/
def ctz : Nat → Nat → Nat
  | 0, _ => 0
  | fuel + 1, m => if m % 2 = 1 then 0 else 1 + ctz fuel (m / 2)

/-- Exponent of the lowest set bit of m × 2^q. -/
def lowBit (m : Nat) (q : Int) : Int := q + ctz m.log2 m

/-- m × 2^k as an integer; exact wherever the model uses it with k below 0. -/
def shiftInt (neg : Bool) (m : Nat) (k : Int) : Int :=
  let a : Nat := if 0 ≤ k then m * 2 ^ k.toNat else m / 2 ^ (-k).toNat
  if neg then -(a : Int) else a

/-- A finite, non-zero contribution is added to the window, or, when it escapes, to the long accumulator (06 R198-R200). -/
def Elem.addFin (fmt : Nat) (e : Elem) (neg : Bool) (m : Nat) (q : Int) : Elem :=
  let t := topBit m q
  let hs := headSpan fmt
  let e1 := if movable fmt && !e.bv then { e with base := max (t - hs.1) (-149), bv := true } else e
  let out := movable fmt && (decide (lowBit m q < e1.base) || decide (e1.base + hs.2 ≤ t))
  let e2 :=
    if out then { e1 with esc := some (e1.esc.getD 0 + shiftInt neg m (q + 149)) }
    else { e1 with f := e1.f + shiftInt neg m (q - e1.base) }
  { e2 with zneg := false }

/-- A contribution to a Sum element (06 R195, R199). -/
def Elem.add (fmt : Nat) (e : Elem) : Val → Elem
  | .nan => { e with nan := true, zneg := false }
  | .inf n => if n then { e with ninf := true, zneg := false } else { e with pinf := true, zneg := false }
  | .fin n m q => if m = 0 then (if n then e else { e with zneg := false }) else e.addFin fmt n m q

/-- A contribution escapes: its element takes, or has, a long accumulator for it (06 R199, R220). -/
def Elem.escapes (fmt : Nat) (e : Elem) : Val → Bool
  | .fin _ m q =>
    m != 0 && movable fmt &&
      (let t := topBit m q
       let hs := headSpan fmt
       let b := if e.bv then e.base else max (t - hs.1) (-149)
       decide (lowBit m q < b) || decide (b + hs.2 ≤ t))
  | _ => false

/-- A value on the scale of 2^-149, where every value of the Vat is an integer. -/
def scaleInt : Val → Int
  | .fin n m q => shiftInt n m (q + 149)
  | _ => 0

/-- Order of values for Max and Min: minus infinity, finite values with -0 below +0, infinity (06 R203). -/
def valLe (a b : Val) : Bool :=
  match a, b with
  | .inf true, _ => true
  | _, .inf false => true
  | .inf false, _ => false
  | _, .inf true => false
  | .fin na _ _, .fin nb _ _ =>
    let x := scaleInt a
    let y := scaleInt b
    decide (x < y) || (x == y && (na || !nb))
  | _, _ => true

/-- The flags that a contribution of any operation sets and clears (06 R195). -/
def Elem.flag (e : Elem) : Val → Elem
  | .nan => { e with nan := true, zneg := false }
  | .inf n => if n then { e with ninf := true, zneg := false } else { e with pinf := true, zneg := false }
  | .fin n m _ => if m = 0 ∧ n then e else { e with zneg := false }

/-- A contribution to a Max or Min element: its flags (R195), and the extreme contribution itself is kept (06 R203). -/
def Elem.addExt (fmt : Nat) (isMin : Bool) (e : Elem) (w : Nat) : Elem :=
  let v := elemVal fmt w
  let e := e.flag v
  match v, e.ext with
  | .nan, _ => e
  | _, none => { e with ext := some (BitVec.ofNat 32 w) }
  | _, some c =>
    let cv := elemVal fmt c.toNat
    if (if isMin then valLe cv v else valLe v cv) then e else { e with ext := some (BitVec.ofNat 32 w) }

/-! ## GF(2^8) (06 R204; 10 R344) -/

/-- Product in GF(2^8) over 0x11D. -/
def gfMul (a b : Nat) : Nat :=
  ((List.range 8).foldl
    (fun (s : Nat × Nat) i =>
      (if bit b i then s.1 ^^^ s.2 else s.1, (s.2 * 2) % 256 ^^^ (if 128 ≤ s.2 then 0x1D else 0)))
    (0, a)).1

/-- 0x02 raised to a power below 255. -/
def gfPow : Nat → Nat
  | 0 => 1
  | n + 1 => gfMul (gfPow n) 2

/-- Weight of a member index. -/
def gfWeight (member : Nat) : Nat := gfPow (member % 255)

/-- Inverse: the 254th power. -/
def gfInv (a : Nat) : Nat := (List.range 254).foldl (fun r _ => gfMul r a) 1

/-- Bytewise XOR; an empty list is all zeros. -/
def xorBytes (a b : List Byte) : List Byte := if a.isEmpty then b else List.zipWith (· ^^^ ·) a b

/-- A payload times a weight. -/
def weigh (w : Nat) (l : List Byte) : List Byte := l.map fun b => BitVec.ofNat 8 (gfMul b.toNat w)

/-- The lost bytes of one or two members (10 R344). -/
def rebuildByte (p q sp sq : Nat) (x y : Nat) (two : Bool) : Nat × Nat :=
  let pp := p ^^^ sp
  if !two then (pp, 0)
  else
    let qq := q ^^^ sq
    let gx := gfWeight x
    let gy := gfWeight y
    let dx := gfMul (qq ^^^ gfMul gy pp) (gfInv (gx ^^^ gy))
    (dx, pp ^^^ dx)

/-! ## The stochastic-rounding generator (06 R210) -/

/-- sr_mix64. -/
def srMix64 (z : Word64) : Word64 :=
  let a := (z ^^^ (z >>> 30)) * 0xBF58476D1CE4E5B9#64
  let b := (a ^^^ (a >>> 27)) * 0x94D049BB133111EB#64
  b ^^^ (b >>> 31)

/-- sr_bits. -/
def srBits (seed : Word64) (tile elem : Nat) : Nat :=
  (srMix64 (seed ^^^ srMix64 (BitVec.ofNat 64 (tile * 65536 + elem % 65536) + 0x9E3779B97F4A7C15#64)) >>> 32).toNat

/-! ## Rounding (06 R206, R207) -/

/-- |y| = a × 2^k in quanta of 2^u, rounded to nearest even, or with the generator value `r` (06 R206 steps 2-5). -/
def roundQuanta (a : Nat) (k u : Int) (r : Option Nat) : Nat :=
  let d := u - k
  if d ≤ 0 then a * 2 ^ (-d).toNat
  else
    let q := 2 ^ d.toNat
    let n := a / q
    let rem := a % q
    let away :=
      match r with
      | none => q < 2 * rem || (2 * rem == q && n % 2 == 1)
      | some r => r < rem * 2 ^ 32 / q
    if away then n + 1 else n

/-- a × 2^k exceeds b × 2^j. -/
def exceeds (a : Nat) (k : Int) (b : Nat) (j : Int) : Bool :=
  let m := min k j
  b * 2 ^ (j - m).toNat < a * 2 ^ (k - m).toNat

/-- Largest finite value of a format: significand and exponent. -/
def FloatFmt.maxFinite (f : FloatFmt) : Nat × Int :=
  (2 ^ f.p - (if f.onlyNan then 2 else 1), f.emax - f.p + 1)

/-- Pattern of n quanta of 2^(e - p + 1), with 0 ≤ n ≤ 2^p and e at least emin. -/
def FloatFmt.pack (f : FloatFmt) (neg : Bool) (n : Nat) (e : Int) : Nat :=
  let s := b2n neg * 2 ^ (f.p - 1 + f.ebits)
  let (n, e) := if n = 2 ^ f.p then (2 ^ (f.p - 1), e + 1) else (n, e)
  if n < 2 ^ (f.p - 1) then s + n else s + (e - f.emin + 1).toNat * 2 ^ (f.p - 1) + (n - 2 ^ (f.p - 1))

/-- Pattern of infinity. -/
def FloatFmt.infinity (f : FloatFmt) (neg : Bool) : Nat :=
  b2n neg * 2 ^ (f.p - 1 + f.ebits) + (2 ^ f.ebits - 1) * 2 ^ (f.p - 1)

/-- Canonical NaN (06 Table 06-1). -/
def FloatFmt.canonNan (f : FloatFmt) : Nat :=
  if f.onlyNan then 2 ^ (f.p - 1 + f.ebits) - 1 else (2 ^ f.ebits - 1) * 2 ^ (f.p - 1) + 2 ^ (f.p - 2)

/-- An encoded element, whether it is non-finite, and whether it counts as saturated. -/
structure Coded where
  code : Nat
  nonfin : Bool := false
  sat : Bool := false
  deriving DecidableEq, Repr

/-- y = ±a × 2^k, a > 0, rounded to a float format; `mx` when it is an MX element (06 R206, R207). -/
def FloatFmt.round (f : FloatFmt) (mx neg : Bool) (a : Nat) (k : Int) (r : Option Nat) : Coded :=
  let e := max (k + a.log2) f.emin
  let u := e - f.p + 1
  let n := roundQuanta a k u r
  let mf := f.maxFinite
  if exceeds n u mf.1 mf.2 || (r.isSome && exceeds a k mf.1 mf.2) then
    if mx || f.onlyNan then { code := f.pack neg mf.1 f.emax, sat := true }
    else { code := f.infinity neg, nonfin := true }
  else { code := f.pack neg n e }

/-- y = ±a × 2^k rounded to an MXINT8 element (06 R207, R209). -/
def roundMxint (neg : Bool) (a : Nat) (k : Int) (r : Option Nat) : Coded :=
  let n := roundQuanta a k (-6) r
  let lim := if neg then 128 else 127
  let past := exceeds n (-6) lim (-6) || (r.isSome && exceeds a k lim (-6))
  let v := if past then lim else n
  { code := if neg then (256 - v) % 256 else v, sat := past }

/-! ## The epilogue (06 R196, R205-R209) -/

/-- S on the scale of 2^-149 (06 R200). -/
def Elem.sum (e : Elem) : Int :=
  (if e.bv then e.f * 2 ^ (e.base + 149).toNat else 0) + e.esc.getD 0

/-- SCALE as significand and exponent. -/
def scaleOf (w : Word) : Nat × Int :=
  match elemVal 1 w.toNat with
  | .fin _ m q => (m, q)
  | _ => (1, 0)

/-- The result class of an element by R196: NaN, infinity, or y with the sign that zero takes. -/
def Elem.result (scale : Word) (e : Elem) : Val :=
  if e.nan || (e.pinf && e.ninf) then .nan
  else if e.pinf then .inf false
  else if e.ninf then .inf true
  else
    let s := e.sum
    let sc := scaleOf scale
    if s = 0 then .fin e.zneg 0 0 else .fin (s < 0) (s.natAbs * sc.1) (sc.2 - 149)

/-- One element of a float format that is not MX. -/
def encodeFloat (f : FloatFmt) (r : Option Nat) : Val → Coded
  | .nan => { code := f.canonNan, nonfin := true }
  | .inf n => if f.ieee then { code := f.infinity n, nonfin := true } else { code := f.canonNan, nonfin := true }
  | .fin n a k => if a = 0 then { code := b2n n * 2 ^ (f.p - 1 + f.ebits) } else f.round false n a k r

/-- ⌊log2⌋ of the largest magnitude of a block; none when every value is zero. -/
def blockTop (vs : List Val) : Option Int :=
  vs.foldl
    (fun a v =>
      match v with
      | .fin _ m q => if m = 0 then a else some (match a with | none => topBit m q | some t => max t (topBit m q))
      | _ => a)
    none

/-- A block of 32 elements of an MX format: scale byte and elements (06 R209). `r` gives the generator value of each
place in the block. -/
def encodeBlock (fmt : Nat) (r : Nat → Option Nat) (vs : List Val) : Nat × List Coded :=
  if vs.any fun v => match v with | .fin _ _ _ => false | _ => true then
    (255, vs.map fun _ => { code := 0, nonfin := true })
  else
    let em : Int := match floatFmt fmt with | some g => g.emax | none => 0
    let x : Nat :=
      match blockTop vs with
      | none => 0
      | some t => (max (-127) (min 127 (t - em)) + 127).toNat
    (x,
     (List.range vs.length).map fun i =>
       match nth vs i .nan with
       | .fin n a k =>
         let k1 := k - (x - 127)
         match floatFmt fmt with
         | some g =>
           if a = 0 then { code := b2n n * 2 ^ (g.p - 1 + g.ebits) } else g.round true n a k1 (r i)
         | none => if a = 0 then { code := 0 } else roundMxint n a k1 (r i)
       | _ => { code := 0 })

/-- A tile of values in an output format: its bytes and the encoded elements, with the generator value of each element. -/
def encodeTile (fmt : Nat) (r : Nat → Option Nat) (vs : List Val) : List Byte × List Coded :=
  if isMx fmt then
    let bs := (List.range (vs.length / 32)).map fun k =>
      encodeBlock fmt (fun i => r (32 * k + i)) ((vs.drop (32 * k)).take 32)
    let cs := bs.flatMap fun b => b.2
    (bs.map (fun b => BitVec.ofNat 8 b.1) ++ packElems fmt (cs.map Coded.code), cs)
  else
    let cs := (List.range vs.length).map fun i =>
      match floatFmt fmt with
      | some g => encodeFloat g (r i) (nth vs i .nan)
      | none => { code := 0 }
    (packElems fmt (cs.map Coded.code), cs)

/-- An integer sum clamped to INT8 or INT32 (06 R208). -/
def clampInt (fmt : Nat) (e : Elem) : Coded :=
  let n := if fmt = 12 then 8 else 32
  let s := e.sum / 2 ^ 149
  let hi : Int := 2 ^ (n - 1) - 1
  let lo : Int := -(2 ^ (n - 1))
  { code := twos n (max lo (min hi s)), sat := decide (hi < s) || decide (s < lo) }

/-- binary64 nearest to t × 2^-298 (06 R211). -/
def toBinary64 (t : Nat) : Nat :=
  if t = 0 then 0
  else (FloatFmt.round { p := 53, ebits := 11, emin := -1022, emax := 1023, ieee := true } false false t (-298) none).code

/-- The side-output trailer of an encoded tile (06 R211). -/
def sideTrailer (fmt n : Nat) (bytes : List Byte) (cs : List Coded) : List Byte :=
  let sq := (tileVals fmt n bytes).foldl (fun a v => a + (scaleInt v).natAbs ^ 2) 0
  toBe 8 (toBinary64 sq) ++ toBe 4 (cs.filter Coded.nonfin).length ++ toBe 4 (cs.filter Coded.sat).length

/-- Canonical result of a Max or Min element; an element without a contribution takes the free value `fill`. -/
def Elem.extCode (fmt : Nat) (fill : Word) (e : Elem) : Nat :=
  if e.nan then (match floatFmt fmt with | some g => g.canonNan | none => 0)
  else (match e.ext with | some w => w | none => fill).toNat % 2 ^ elemBits fmt

/-- The sums of a tile encoded once in a format (06 R205-R209): bytes and encoded elements. -/
def encodeSums (fmt : Nat) (r : Nat → Option Nat) (scale : Word) (es : List Elem) : List Byte × List Coded :=
  if isFloat fmt then encodeTile fmt r (es.map (Elem.result scale))
  else
    let cs := es.map (clampInt fmt)
    (packElems fmt (cs.map Coded.code), cs)

/-- The generator value of each element of a tile; none with RMODE 0 (06 R206, R210). -/
def Arith.gen (a : Arith) (tile i : Nat) : Option Nat := if a.rmode then some (srBits a.seed tile i) else none

/-- Elements of a Sum tile that the root's epilogue, or a rounding interior module, counts as saturated (06 R207, R208, R212). -/
def Arith.saturated (a : Arith) (root : Bool) (tile : Nat) (t : Tile) : Nat :=
  if a.op ≠ 0 ∨ (!root ∧ !a.rint) then 0
  else
    let e :=
      if root then encodeSums a.ofmt.toNat (a.gen tile) a.scale t.elems
      else encodeSums a.ifmt.toNat (fun _ => none) 0x3F800000 t.elems
    (e.2.filter Coded.sat).length

/-- The result payload of a tile at the root: the epilogue (06 R205-R211). -/
def Arith.epilogue (a : Arith) (tile : Nat) (fill : Word) (t : Tile) : List Byte :=
  let n := a.nelem.toNat
  let fmt := a.ofmt.toNat
  match a.op.toNat with
  | 0 =>
    let e := encodeSums fmt (a.gen tile) a.scale t.elems
    e.1 ++ (if a.side && isFloat fmt then sideTrailer fmt n e.1 e.2 else [])
  | 1 | 2 => packElems fmt (t.elems.map (Elem.extCode fmt fill))
  | 3 => if t.xor.isEmpty then List.replicate n 0 else t.xor
  | _ => if t.wxor.isEmpty then List.replicate n 0 else t.wxor

/-! ## Contributions -/

/-- A contribution's payload enters the tile (06 R195-R204). `weight`: the GF(2^8) weight of an endpoint slot's member, 1
for a partial of a child slot (07 R241). -/
def Arith.addTile (a : Arith) (weight : Nat) (data : List Byte) (t : Tile) : Tile :=
  let n := a.nelem.toNat
  let fmt := a.ifmt.toNat
  let es := if t.elems.isEmpty then List.replicate n (Elem.start fmt) else t.elems
  match a.op.toNat with
  | 0 => { t with elems := List.zipWith (Elem.add fmt) es (tileVals fmt n data) }
  | 1 | 2 =>
    { t with elems := List.zipWith (Elem.addExt fmt (a.op == 2)) es ((patterns fmt data).take n) }
  | 3 => { t with xor := xorBytes t.xor data }
  | _ => { t with xor := xorBytes t.xor data, wxor := xorBytes t.wxor (weigh weight data) }

/-- Elements of a tile that hold a long accumulator. -/
def Tile.records (t : Tile) : Nat := (t.elems.filter fun e => e.esc.isSome).length

/-- Escaping contributions among the elements of a payload (06 R220). -/
def Arith.escapeCount (a : Arith) (data : List Byte) (t : Tile) : Nat :=
  let n := a.nelem.toNat
  let fmt := a.ifmt.toNat
  if a.op ≠ 0 ∨ !movable fmt then 0
  else
    let es := if t.elems.isEmpty then List.replicate n (Elem.start fmt) else t.elems
    (List.zipWith (Elem.escapes fmt) es (tileVals fmt n data)).filter id |>.length

/-! ## Partials (06 R212; 07 R241-R249) -/

/-- The partial of a tile as one packet in the input format: rounded once, or the exact current value (07 R241). -/
def Arith.flatPartial (a : Arith) (fill : Word) (t : Tile) : List Byte :=
  let n := a.nelem.toNat
  let fmt := a.ifmt.toNat
  match a.op.toNat with
  | 0 => (encodeSums fmt (fun _ => none) 0x3F800000 t.elems).1
  | 1 | 2 => packElems fmt (t.elems.map (Elem.extCode fmt fill))
  | 3 => if t.xor.isEmpty then List.replicate n 0 else t.xor
  | _ => if t.wxor.isEmpty then List.replicate n 0 else t.wxor

/-- A Sum context in exact mode sends EPF partials. -/
def Arith.epf (a : Arith) : Bool := a.op == 0 && !a.rint

/-- Blocks B and main parts M of a partial (07 R244). -/
def epfBlocks (n : Nat) : Nat := (n + 31) / 32
def epfMains (n : Nat) : Nat := (epfBlocks n + 19) / 20

/-- No flag, and not a sum of -0 only (07 R248). -/
def Elem.plain (e : Elem) : Bool := !e.nan && !e.pinf && !e.ninf && !(e.sum == 0 && e.zneg)

/-- BASE of a block: the lowest set bit of its plain, non-zero elements. -/
def blockBase (es : List Elem) : Int :=
  match (es.filter fun e => e.plain && decide (e.sum ≠ 0)).map fun e => lowBit e.sum.natAbs (-149) with
  | [] => 0
  | l :: r => r.foldl min l

/-- An element of a block leaves it for an escape record. -/
def Elem.leaves (b : Int) (e : Elem) : Bool :=
  !e.plain || (e.sum != 0 && decide (b + 46 < topBit e.sum.natAbs (-149)))

/-- A block as 200 bytes (07 Table 07-8). -/
def encodeEpfBlock (es : List Elem) : List Byte :=
  let b := blockBase es
  let map := (List.range es.length).foldl
    (fun a i => if (nth es i {}).leaves b then a + 2 ^ i else a) 0
  let slots := (List.range 32).map fun i =>
    match es[i]? with
    | some e => if e.leaves b then 0 else twos 48 (shiftInt (e.sum < 0) e.sum.natAbs (-149 - b))
    | none => 0
  toBe 2 (twos 16 b) ++ [0, 0] ++ toBe 4 map ++ slots.flatMap (toBe 6)

/-- An escape record as 48 bytes (07 Table 07-9). -/
def encodeRecord (i : Nat) (e : Elem) : List Byte :=
  toBe 2 i ++ toBe 1 (b2n e.nan * 128 + b2n e.pinf * 64 + b2n e.ninf * 32 + b2n e.zneg * 16) ++
    List.replicate 5 0 ++ toBe 40 (twos 320 e.sum)

/-- The header of a part (07 Table 07-7). -/
def partHeader (ptype part nparts count excl : Nat) : List Byte :=
  toBe 4 (ptype * 2 ^ 24 + part * 2 ^ 16 + nparts * 2 ^ 8 + count) ++ toBe 4 (excl * 4096) ++ List.replicate 8 0

/-- The EPF parts of a tile (07 R244-R248), with the number of excluded members below. -/
def epfParts (n excl : Nat) (es : List Elem) : List (List Byte) :=
  let bs := chunks 32 (es.take n)
  let recs := (List.range (es.take n).length).filterMap fun i =>
    let e := nth es i {}
    if e.leaves (blockBase (nth bs (i / 32) [])) then some (encodeRecord i e) else none
  let mains := chunks 20 (bs.map encodeEpfBlock)
  let escs := chunks 85 recs
  let total := mains.length + escs.length
  (List.range mains.length).map (fun p =>
      let c := nth mains p []
      partHeader 1 p total c.length excl ++ c.flatten) ++
    (List.range escs.length).map fun p =>
      let c := nth escs p []
      partHeader 2 (mains.length + p) total c.length excl ++ c.flatten

/-- The header fields of a received part. -/
structure PartHead where
  ptype : Nat
  part : Nat
  nparts : Nat
  count : Nat
  excl : Nat
  deriving DecidableEq, Repr

/-- Header fields of a part's payload. -/
def PartHead.of (l : List Byte) : PartHead :=
  let w := beAt l 0 4
  { ptype := bits w 31 24, part := bits w 23 16, nparts := bits w 15 8, count := bits w 7 0, excl := beAt l 4 4 / 4096 }

/-- R643: the header of a part is one that a tile of `n` elements may have; `earlier` is the NPARTS of earlier parts. -/
def PartHead.ok (h : PartHead) (n : Nat) (earlier : Option Nat) : Bool :=
  let m := epfMains n
  (h.ptype == 1 || h.ptype == 2) && 1 ≤ h.nparts && h.nparts ≤ 128 && m ≤ h.nparts &&
    (match earlier with | some k => h.nparts == k | none => true) &&
    (if h.ptype = 1 then h.part < m && h.count == min 20 (epfBlocks n - 20 * h.part)
     else
       m ≤ h.part && h.part < h.nparts &&
         (if h.part + 1 < h.nparts then h.count == 85 else 1 ≤ h.count && h.count ≤ 85))

/-- Payload length of a part (07 R244). -/
def PartHead.len (h : PartHead) : Nat := 16 + (if h.ptype = 1 then 200 else 48) * h.count

/-- One slot of a block enters its element (07 R249). -/
def addSlot (fmt : Nat) (e : Elem) (base : Int) (v : Int) : Elem :=
  if v = 0 then { e with zneg := false } else e.addFin fmt (v < 0) v.natAbs base

/-- A slot escapes its element's window. -/
def slotEscapes (fmt : Nat) (e : Elem) (base : Int) (v : Int) : Bool := e.escapes fmt (.fin (v < 0) v.natAbs base)

/-- Width of an element's window field in bits. -/
def fieldBits (fmt : Nat) : Nat := if fmt = 1 ∨ fmt = 2 then 128 else 64

/-- An escape record enters its element, and whether it needs a long accumulator there (07 R249). -/
def addRecord (fmt : Nat) (e : Elem) (flags : Nat) (a : Int) : Elem × Bool :=
  let e1 := { e with nan := e.nan || bit flags 7, pinf := e.pinf || bit flags 6, ninf := e.ninf || bit flags 5,
                     zneg := e.zneg && bit flags 4 }
  if movable fmt then ({ e1 with esc := some (e1.esc.getD 0 + a) }, true)
  else
    let u : Int := 2 ^ (e1.base + 149).toNat
    let f := e1.f + a / u
    if a % u = 0 ∧ -(2 ^ (fieldBits fmt - 1)) ≤ f ∧ f < 2 ^ (fieldBits fmt - 1) then ({ e1 with f }, false)
    else ({ e1 with esc := some (e1.esc.getD 0 + a) }, true)

/-- What a part did to a tile: the elements, the escapes counted and the records that name no element. -/
structure PartSum where
  elems : List Elem
  escapes : Nat := 0
  ignored : Nat := 0

/-- The blocks of a main part enter the elements, block `k` first. -/
def addBlocks (fmt n : Nat) : List (List Byte) → Nat → PartSum → PartSum
  | [], _, s => s
  | b :: rest, k, s =>
    let base := (BitVec.ofNat 16 (beAt b 0 2)).toInt
    let map := beAt b 4 4
    addBlocks fmt n rest (k + 1)
      ((List.range 32).foldl
        (fun s i =>
          let j := 32 * k + i
          if n ≤ j || bit map i then s
          else
            let v := (BitVec.ofNat 48 (beAt b (8 + 6 * i) 6)).toInt
            let e := nth s.elems j {}
            { s with
              elems := setNth s.elems j (addSlot fmt e base v)
              escapes := s.escapes + b2n (slotEscapes fmt e base v) })
        s)

/-- The records of an escape part enter the elements; each that enters a long accumulator counts as an escape (07 R249; log
171). -/
def addRecords (fmt n : Nat) : List (List Byte) → PartSum → PartSum
  | [], s => s
  | r :: rest, s =>
    let i := beAt r 0 2
    if n ≤ i then addRecords fmt n rest { s with ignored := s.ignored + 1 }
    else
      let x := addRecord fmt (nth s.elems i {}) (beAt r 2 1) (BitVec.ofNat 320 (beAt r 8 40)).toInt
      addRecords fmt n rest
        { s with elems := setNth s.elems i x.1, escapes := s.escapes + b2n x.2 }

/-- A part's payload enters the elements of a tile (07 R246-R249). -/
def Arith.addPart (a : Arith) (h : PartHead) (data : List Byte) (t : Tile) : PartSum :=
  let n := a.nelem.toNat
  let fmt := a.ifmt.toNat
  let es := if t.elems.isEmpty then List.replicate n (Elem.start fmt) else t.elems
  let body := (data.drop 16).take (h.len - 16)
  if h.ptype = 1 then addBlocks fmt n (chunks 200 body) (20 * h.part) { elems := es }
  else addRecords fmt n (chunks 48 body) { elems := es }

/-! ## Diagnosis (06 R197, R213) -/

/-- Sum of the 3-bit digits of a 64-bit lane, mod 7. -/
def res7 (x : Nat) : Nat := (sum ((List.range 22).map fun i => x / 2 ^ (3 * i) % 8)) % 7

/-- The lanes of an element, lower first. -/
def Elem.lanes (op fmt : Nat) (e : Elem) : List Nat :=
  if op = 0 then
    let x := twos 128 e.f
    if lanesOf op fmt = 2 then [x % 2 ^ 64, x / 2 ^ 64] else [twos 64 e.f, 0]
  else [(Config.extremeLane e.ext).toNat, 0]

/-- The element state word (06 Table 06-5). -/
def Elem.stateWord (op fmt : Nat) (e : Elem) : Word :=
  let l := e.lanes op fmt
  BitVec.ofNat 32
    (twos 16 e.base * 2 ^ 16 + b2n e.nan * 2 ^ 15 + b2n e.pinf * 2 ^ 14 + b2n e.ninf * 2 ^ 13 + b2n e.zneg * 2 ^ 12 +
      b2n e.esc.isSome * 2 ^ 11 + b2n e.bv * 2 ^ 10 +
      (if lanesOf op fmt = 2 then res7 (nth l 1 0) * 64 else 0) + res7 (nth l 0 0) * 8)

end Sys2Proof.Machine
end

