-- ==== Sys2Proof/Machine/Context.lean ====
section
/-! DEFINITION. Collective contexts: descriptors, reserves, the deckle word, result and partial packets, tile completion,
tile resets, aborts and closing (07; 06 R191, R215-R218). -/

namespace Sys2Proof.Machine

/-! ## Descriptors (07 Tables 07-1, 07-2; 06 Table 06-3) -/

/-- The arithmetic descriptor in a 192-bit number. -/
def Arith.of (x : Nat) : Arith :=
  { ifmt := bv 5 x 187, ofmt := bv 5 x 182, op := bv 3 x 179, rmode := bit x 178, side := bit x 177, rint := bit x 176,
    arev := bv 4 x 172, rsv1 := bv 12 x 160, nelem := bv 13 x 147, rsv2 := bv 19 x 128, scale := bv 32 x 96,
    rsv3 := bv 32 x 64, seed := bv 64 x 0 }

/-- The context descriptor in 64 bytes. -/
def CtxDesc.of (b : List Byte) : CtxDesc :=
  let x := beAt b 0 64
  { ctx := bv 14 x 498, jtag := bv 16 x 480, jgen := bv 8 x 472, role0 := bv 2 x 470, role1 := bv 2 x 468,
    fpol := bit x 467, tc := bv 3 x 464, mgroup := bv 16 x 448, w := bv 8 x 440, nslot := bv 10 x 430,
    nmem := bv 20 x 410, ntiles := bv 32 x 368, up0 := bv 32 x 336, upm0 := bv 20 x 316, up1 := bv 32 x 280,
    upm1 := bv 20 x 260, tto := bv 16 x 240, stall := bv 16 x 224,
    rsv0 := bits x 497 496 == 0 && bits x 409 400 == 0 && bits x 315 312 == 0 && bits x 259 256 == 0 &&
      bits x 223 192 == 0
    arith := Arith.of (x % 2 ^ 192) }

/-- A member slot in 16 bytes. -/
def Member.of (b : List Byte) : Member :=
  let x := beAt b 0 16
  { gei := bv 32 x 96, member := bv 20 x 76, child := bit x 75, t1 := bit x 74, t0 := bit x 73, below := bv 20 x 44,
    rsv := bits x 72 64 == 0 && bits x 43 0 == 0 }

/-- A member table. -/
def membersOf (b : List Byte) (n : Nat) : List Member := (List.range n).map fun i => Member.of (b.drop (16 * i))

/-- A slot contributes to a tree. -/
def Member.inTree (m : Member) (tree : Bool) : Bool := if tree then m.t1 else m.t0

/-- A switch service GEI of a service code (02 R48). -/
def isSvcGei (g : Word) (svc : Nat) : Bool := fld g 31 28 == 14 && fld g 7 0 == svc

/-- The parent fields of a tree fit its role (07 R644 check 1). -/
def upOk (role : BitVec 2) (up : Word) (upm : BitVec 20) : Bool :=
  if role = 2 then isSvcGei up 1 else up == 0 && upm == 0

/-- Check 1 of R644. -/
def CtxDesc.ok (d : CtxDesc) : Bool :=
  d.rsv0 && (d.role0 == 1 || d.role0 == 2) && d.role1 != 3 && d.tc != 7 && 1 ≤ d.w.toNat && d.w.toNat ≤ 64 &&
    10 ≤ d.tto.toNat && d.tto.toNat ≤ 10000 && 1 ≤ d.stall.toNat && d.stall.toNat ≤ 10000 &&
    upOk d.role0 d.up0 d.upm0 && upOk d.role1 d.up1 d.upm1

/-- A combination of Table 06-4. -/
def comboOk (op ifmt ofmt : Nat) : Bool :=
  match op with
  | 0 => (isFloat ifmt && isFloat ofmt) || ((ifmt == 12 || ifmt == 13) && (ofmt == 12 || ofmt == 13))
  | 1 | 2 => [1, 2, 3, 4, 5, 12, 13].contains ifmt && ofmt == ifmt
  | 3 | 4 => ifmt == 14 && ofmt == 14
  | _ => false

/-- An FP32 pattern is positive, finite and not zero. -/
def scaleOk (w : Word) : Bool := fld w 31 31 == 0 && fld w 30 23 != 255 && w != 0

/-- The rules of R191. -/
def Arith.ok (a : Arith) : Bool :=
  let n := a.nelem.toNat
  let floatSum := a.op == 0 && isFloat a.ofmt.toNat
  comboOk a.op.toNat a.ifmt.toNat a.ofmt.toNat && ((!a.rmode && !a.side && a.scale == 0x3F800000) || floatSum) &&
    scaleOk a.scale && (!a.rint || (a.op == 0 && isFloat a.ifmt.toNat)) && 1 ≤ n &&
    tileBytes a.ifmt.toNat n ≤ 4096 && tileBytes a.ofmt.toNat n + 16 * b2n a.side ≤ 4096 &&
    (n % 32 == 0 || !(isMx a.ifmt.toNat || isMx a.ofmt.toNat)) && a.rsv1 == 0 && a.rsv2 == 0 && a.rsv3 == 0

/-- Check 2 of R644: the revision first (06 R192). -/
def Arith.refusal (a : Arith) : Option Word :=
  if a.arev ≠ 1 then some vatRevision else if a.ok then none else some vatDesc

/-- The member table obeys R224. -/
def membersOk (d : CtxDesc) (ms : List Member) : Bool :=
  let pairs := ms.map fun m => (m.gei, m.member)
  let role (t : Bool) := if t then d.role1 else d.role0
  let sumOf (t : Bool) := sum ((ms.filter fun m => m.inTree t).map fun m => m.below.toNat)
  let treeOk (t : Bool) :=
    match (role t).toNat with
    | 1 => sumOf t == d.nmem.toNat + 1
    | 2 => decide (sumOf t ≤ d.nmem.toNat + 1)
    | _ => true
  (pairs.eraseDups.length == pairs.length) &&
    (ms.all fun m =>
      m.rsv && (m.t0 || m.t1) && !(m.t1 && d.role1 == 0) && 1 ≤ m.below.toNat &&
        (if m.child then m.t0 != m.t1 else m.below == 1 && m.member.toNat ≤ d.nmem.toNat)) &&
    treeOk false && treeOk true

/-! ## Reserves (07 R225, 06 R201) -/

/-- Vat SRAM of a core die (01 Table 01-3). -/
def vatSram : Nat := 192 * 2 ^ 20

/-- Vat SRAM of one tile without its bitmaps (06 R197). -/
def Arith.tileSram (a : Arith) : Nat :=
  let n := a.nelem.toNat
  if a.op = 3 ∨ a.op = 4 then (n + 7) / 8 * 8 else n * (4 + 8 * lanesOf a.op.toNat a.ifmt.toNat)

/-- Vat SRAM that a context reserves. -/
def CtxDesc.sram (d : CtxDesc) (children : Nat) : Nat := d.w.toNat * (d.arith.tileSram + 128 + 16 * children)

/-- Long-accumulator records that a context reserves: NELEM when its input can escape. -/
def Arith.reserve (a : Arith) : Nat := if a.op = 0 ∧ movable a.ifmt.toNat then a.nelem.toNat else 0

/-- Records of the escape store (14 Table 14-2). -/
def Sys.escapeRecords (s : Sys) : Nat := (if s.mem.alloc = 1 then 64 else 16) * 2 ^ 30 / 64

/-- Vat SRAM in use on a core die. -/
def Sys.sramUsed (core : Nat) (s : Sys) : Nat :=
  sum ((s.coll.ctx.filter fun e => e.1 % 4 == core).map fun e => e.2.sram)

/-- Records reserved by contexts. -/
def Sys.escReserved (s : Sys) : Nat := sum (s.coll.ctx.map fun e => e.2.escape)

/-- Records that a context draws from the unreserved part: those of the tiles above its lowest, and those that its lowest
tile holds beyond the reserve (06 R201, 07 R249). -/
def Ctx.drawn (x : Ctx) : Nat :=
  sum (x.tiles.map fun t => if t.1 = x.low then t.2.records - x.escape else t.2.records)

/-- Records left in the unreserved part of the escape store. -/
def Sys.escFree (s : Sys) : Nat := s.escapeRecords - s.escReserved - sum (s.coll.ctx.map fun e => e.2.drawn)

/-! ## The deckle word (07 R226) -/

/-- deckle_word. -/
def CtxDesc.deckle (d : CtxDesc) : Word64 :=
  let a := d.arith
  let w0 := a.ifmt.toNat * 2 ^ 59 + a.ofmt.toNat * 2 ^ 54 + a.op.toNat * 2 ^ 51 + b2n a.rmode * 2 ^ 50 +
    b2n a.side * 2 ^ 49 + b2n a.rint * 2 ^ 48 + a.nelem.toNat * 2 ^ 32 + a.scale.toNat
  let w2 := d.ntiles.toNat * 2 ^ 32 + b2n d.fpol * 2 ^ 28 + d.nmem.toNat * 2 ^ 8 + d.w.toNat * 2 + b2n (d.role1 != 0)
  let w3 := d.jtag.toNat * 2 ^ 48 + d.jgen.toNat * 2 ^ 40 + d.ctx.toNat * 2 ^ 16 + d.mgroup.toNat
  let h := [BitVec.ofNat 64 w0, a.seed, BitVec.ofNat 64 w2, BitVec.ofNat 64 w3].foldl (fun h w => srMix64 (h ^^^ w))
    0x6A09E667F3BCC908#64
  (h &&& ~~~15#64) ||| a.arev.setWidth 64

/-! ## Contexts -/

/-- A context that is not FREE. -/
def Sys.ctx (c : Nat) (s : Sys) : Option Ctx := get? s.coll.ctx c

/-- A context put through `f`. -/
def Sys.modCtx (c : Nat) (f : Ctx → Ctx) (s : Sys) : Sys := s.modColl fun k => { k with ctx := update k.ctx c f }

/-- A fresh ACTIVE context. -/
def Sys.newCtx (d : CtxDesc) (ms : List Member) (sram escape : Nat) (opener : Option (Nat × Nat))
    (parity : Option ParityUse) (s : Sys) : Sys :=
  (s.unheld fun i => match i with | .escape c _ => c == d.ctx.toNat | _ => false).modColl fun k =>
    { k with
      ctx := put k.ctx d.ctx.toNat
        { desc := d, members := ms, deckle := d.deckle, sram, escape, opener, parity
          low := match parity with | some p => p.first | none => 0
          moved := s.clk.mono } }

/-- The end of a context's tiles, when it has one. -/
def Ctx.stop (x : Ctx) : Option Nat :=
  match x.parity with
  | some p => some (p.first + p.count)
  | none => if x.desc.ntiles = 0 then none else some x.desc.ntiles.toNat

/-- A tile is in scope: below the end and, in a context that a vault node opened, not below FIRST (07 Table 07-5 check 6,
10 R334). -/
def Ctx.inScope (x : Ctx) (t : Nat) : Bool :=
  (match x.stop with | some n => decide (t < n) | none => true) &&
    (match x.parity with | some p => decide (p.first ≤ t) | none => true)

/-- Slots of a tile's tree that are not excluded. -/
def Ctx.treeSlots (x : Ctx) (t : Nat) : List Nat :=
  let tr := x.desc.tree t
  (List.range x.members.length).filter fun i =>
    (match x.members[i]? with | some m => m.inTree tr | none => false) && !x.excl.contains i

/-- The tile as it stands; a tile that nothing has reached is empty. -/
def Ctx.tile (x : Ctx) (t : Nat) : Tile := getD x.tiles t {}

/-- Every slot of the tile's tree that is not excluded has its bit set (07 R239, R241). -/
def Ctx.ready (x : Ctx) (t : Nat) : Bool := (x.treeSlots t).all fun i => (x.tile t).bits.contains i

/-- EXCL of a tile (07 R251). -/
def Ctx.exclOf (x : Ctx) (t : Nat) : Nat :=
  let tr := x.desc.tree t
  let own := sum (((List.range x.members.length).filter fun i => x.excl.contains i).map fun i =>
    match x.members[i]? with | some m => if m.inTree tr then m.below.toNat else 0 | none => 0)
  let tl := x.tile t
  min (2 ^ 20 - 1) (own + sum (tl.parts.map fun p => p.2.excl) + (tl.msr.filter fun p => p.2).length)

/-- The notices of an abort at time `now`, with the header that each slot's notice echoes and the port it came in by; none for a
slot from which nothing was accepted (07 R253, R254; 02 Table 02-10). -/
def Ctx.noticesFor (x : Ctx) (code now : Word) : List AbortNotice :=
  x.header.filterMap fun e =>
    match x.members[e.1]? with
    | some m => some { gei := m.gei, code, time := now, port := getD x.headerPort e.1 0, head := e.2 }
    | none => none

/-! ## Packets (07 Table 07-6) -/

/-- A collective packet of a context. -/
def Sys.collPkt (x : Ctx) (kind : Nat) (mcast : Bool) (dgei : Word) (tile fmt member : Nat) (msr nr rt : Bool)
    (data : List Byte) (s : Sys) : Pkt :=
  let c := x.desc.ctx.toNat
  { hlen := 7, xp := true, tc := x.desc.tc, rm := if mcast then rmMulticast else rmSpray,
    plen := BitVec.ofNat 13 data.length, dgei, sgei := s.ownGei 5, flow := BitVec.ofNat 24 c,
    kind := BitVec.ofNat 8 kind, seq := BitVec.ofNat 32 tile, jtag := x.desc.jtag, jgen := x.desc.jgen,
    ext := .coll
      ({ ctx := c, fmt, op := x.desc.arith.op.toNat, tree := x.desc.tree tile, tile, member, msr, nr, rt,
         deckle := x.deckle } : CollExt).bits
    payload := data, pad := padOf data.length }

/-- The result of a tile goes to MGROUP by multicast, or to one sender with RT = 1 (07 R235, R239). A child module
receives it at its GEI with s = 0x01. -/
def Sys.sendResult (x : Ctx) (tile : Nat) (data : List Byte) (msr : Bool) (dest : Option Member) (s : Sys) : Sys :=
  let core := x.desc.ctx.toNat % 4
  let fmt := x.desc.arith.ofmt.toNat
  match dest with
  | none =>
    s.originate core
      (s.collPkt x 3 true (x.desc.mgroup.setWidth 32) tile fmt 0 msr x.desc.arith.rint false data)
  | some m =>
    s.originate core
      (s.collPkt x 3 false (if m.child then (m.gei &&& 0xFFFFFF00) ||| 1 else m.gei) tile fmt 0 msr
        x.desc.arith.rint true data)

/-- A resend request for a tile goes to each slot of its tree that is not excluded (07 R237). -/
def Sys.sendRequests (x : Ctx) (tile : Nat) (s : Sys) : Sys :=
  (x.treeSlots tile).foldl
    (fun t i =>
      match x.members[i]? with
      | some m =>
        t.originate (x.desc.ctx.toNat % 4)
          (t.collPkt x 3 false (if m.child then (m.gei &&& 0xFFFFFF00) ||| 1 else m.gei) tile x.desc.arith.ofmt.toNat
            m.member.toNat false false false [])
      | none => t)
    s

/-- The partial of a tile goes to the parent in the tile's tree, part by part (07 R241). What a resend carries in a lane that
nothing has reached is what the tile keeps; EXCL and MSR are those of the tile at the send (log 173). -/
def Sys.sendPartial (x : Ctx) (tile : Nat) (rt : Bool) (s : Sys) : Sys :=
  let tr := x.desc.tree tile
  let up := if tr then x.desc.up1 else x.desc.up0
  let upm := (if tr then x.desc.upm1 else x.desc.upm0).toNat
  let a := x.desc.arith
  let tl := x.tile tile
  let es := if tl.elems.isEmpty then List.replicate a.nelem.toNat (Elem.start a.ifmt.toNat) else tl.elems
  let excl := x.exclOf tile
  let fill := tl.fill.getD (Config.freeWord s.free.counter)
  let parts := if a.epf then epfParts a.nelem.toNat excl es else [a.flatPartial fill { tl with elems := es }]
  parts.foldl
    (fun t d =>
      t.originate (x.desc.ctx.toNat % 4)
        (t.collPkt x 2 false up tile (if a.epf then 15 else a.ifmt.toNat) upm (excl != 0) false rt d))
    s

/-! ## Completion -/

/-- L after the tiles above it that have completed. -/
def lowAfter : Nat → Nat → List Nat → Nat
  | 0, l, _ => l
  | n + 1, l, ahead => if ahead.contains l then lowAfter n (l + 1) ahead else l

/-- A tile completes with its result: it is stored, L moves, and the last tile makes the context COMPLETE (07 R231,
Table 07-4). The store keeps the results of the W tiles below L and of every completed tile above it (log 172). -/
def Sys.completeTile (c tile : Nat) (data : List Byte) (msr : Bool) (s : Sys) : Sys :=
  let t := s.modCtx c fun x =>
    let ahead := tile :: x.ahead
    let low := lowAfter ahead.length x.low ahead
    let fin := match x.stop with | some n => decide (n ≤ low) | none => false
    { x with
      tiles := del x.tiles tile
      results := (put x.results tile (data, msr)).filter fun e => decide (low < e.1 + x.desc.w.toNat + 1)
      marked := if msr then insertNat tile x.marked else x.marked
      ahead := ahead.filter fun i => decide (low ≤ i)
      low
      done := x.done + 1
      moved := if low = x.low then x.moved else s.clk.mono
      st := if fin then .complete else x.st
      sram := if fin then 0 else x.sram
      escape := if fin then 0 else x.escape }
  t.event (16 + c % 4) 0x22 0 1

/-- Elements counted as saturated on a core die, while the counters are not frozen (20 R588); where the count stands is log 131. -/
def Sys.countSat (core n : Nat) (s : Sys) : Sys :=
  if n = 0 ∨ s.cnt.frozen then s else s.modColl fun k => { k with saturated := modify k.saturated core 0 (· + n) }

/-- The elements of a tile: those of Table 06-5 while nothing has reached it. -/
def Ctx.elemsOf (x : Ctx) (tile : Nat) : List Elem :=
  let es := (x.tile tile).elems
  if es.isEmpty then List.replicate x.desc.arith.nelem.toNat (Elem.start x.desc.arith.ifmt.toNat) else es

/-- A root runs the epilogue of a tile and multicasts its result (07 R239); an interior module sends its partial and keeps
the tile until the result arrives (07 R241, R242). -/
def Sys.finishTile (c tile : Nat) (s : Sys) : Sys :=
  match s.ctx c with
  | none => s
  | some x =>
    let a := x.desc.arith
    let tl := { x.tile tile with elems := x.elemsOf tile }
    if x.desc.role (x.desc.tree tile) = 2 then
      let extreme := a.op = 1 ∨ a.op = 2
      let d := s.draw
      let tl := { tl with sent := some (s.clk.ext, 0), fill := if extreme then some (Config.freeWord d.1) else none }
      let y := { x with tiles := put x.tiles tile tl }
      (((if extreme then d.2 else s).countSat (c % 4) (a.saturated false tile tl)).sendPartial y tile false).modCtx c fun x =>
        { x with tiles := put x.tiles tile tl }
    else
      let s := s.countSat (c % 4) (a.saturated true tile tl)
      let data := a.epilogue tile (Config.freeWord s.free.counter) tl
      let msr := x.exclOf tile != 0
      let s1 := if a.op = 1 ∨ a.op = 2 then s.draw.2 else s
      (s1.sendResult x tile data msr none).completeTile c tile data msr

/-! ## Vats (06 R215-R218) -/

/-- Vats in service on a core die, in index order. -/
def Sys.vats (core : Nat) (s : Sys) : List Nat := (List.range 8).filter fun v => !s.coll.vatOut.contains (8 * core + v)

/-- The Vat of a tile, by the list of those in service now (06 R218; log 167). -/
def Sys.vatOf (c tile : Nat) (s : Sys) : Nat :=
  let l := s.vats (c % 4)
  nth l ((tile + c / 4) % l.length) 0

/-- A tile as a reset leaves it: nothing received, its state words those of Table 06-5 (06 R215). -/
def Arith.emptyTile (a : Arith) : Tile :=
  if a.op = 3 ∨ a.op = 4 then {} else { elems := List.replicate a.nelem.toNat (Elem.start a.ifmt.toNat) }

/-- A tile is reset (06 R215): its sums are discarded, every slot is asked again, and the event is counted and logged. -/
def Sys.resetTile (c tile cause : Nat) (s : Sys) : Sys :=
  match s.ctx c with
  | none => s
  | some x =>
    let core := c % 4
    let s0 := s.unheld fun i => i == .escape c tile
    let s1 := s0.modCtx c fun x => { x with tiles := put x.tiles tile x.desc.arith.emptyTile, reset := s.bump x.reset }
    let s2 := s1.modColl fun k => { k with tileResets := modify k.tileResets core 0 s.bump }
    (s2.log faultVatTilereset 0x03 (16 + core) 0 0 0
        [BitVec.ofNat 32 cause, BitVec.ofNat 32 (s.vatOf c tile), BitVec.ofNat 32 tile,
         BitVec.ofNat 32 (x.desc.jtag.toNat * 65536 + c)]).sendRequests x tile

/-- A Vat fails a check of kind `cause`; the third failure within 8,192 control cycles takes it out of service, and its tiles in
flight are reset, those whose partial has been sent among them (06 R217; 07 R242). -/
def Sys.vatFailed (core vat cause : Nat) (s : Sys) : Sys :=
  let key := 8 * core + vat
  let recent := s.clk.cycle :: (getD s.coll.fails key []).filter fun n => decide (s.clk.cycle < n + 8192)
  let s1 := s.modColl fun k => { k with fails := put k.fails key recent }
  if recent.length < 3 ∨ s.coll.vatOut.contains key then s1
  else
    let hit := (s1.coll.ctx.filter fun e => e.1 % 4 == core && e.2.st == .active).flatMap fun e =>
      (e.2.tiles.filter fun t => s1.vatOf e.1 t.1 == vat && decide (t.2 ≠ e.2.desc.arith.emptyTile)).map fun t => (e.1, t.1)
    let s2 := hit.foldl (fun t e => t.resetTile e.1 e.2 cause) s1
    (s2.modColl fun k => { k with vatOut := insertNat key k.vatOut }).faultUnit faultVatOut (16 + core)
      [0, BitVec.ofNat 32 vat]

/-! ## Aborts and closing (07 R230, R252, R253) -/

/-- An ACTIVE context aborts: its Vat work stops and its SRAM and records are freed, a record and a fault notice go out,
and, but for a hardware fault, a notice to each slot waits for tokens of the bucket (07 R253). -/
def Sys.abortCtx (c : Nat) (cause : Word) (slot : Nat) (other : Word64) (tile : Nat) (s : Sys) : Sys :=
  match s.ctx c with
  | none => s
  | some x =>
    if x.st ≠ .active then s
    else
      let core := c % 4
      let s1 := s.modCtx c fun x =>
        { x with st := .aborted, cause, tiles := [], sram := 0, escape := 0
                 badDeckle := if cause = collDeckle then other else x.badDeckle }
      let d := x.deckle.toNat
      let o := other.toNat
      let s2 := (s1.log cause 0x04 (16 + core) 0 0 0
        [BitVec.ofNat 32 (c * 65536 + slot), BitVec.ofNat 32 x.low, BitVec.ofNat 32 (d / 2 ^ 32), BitVec.ofNat 32 d,
         BitVec.ofNat 32 (o / 2 ^ 32), BitVec.ofNat 32 o, BitVec.ofNat 32 tile]).notify faultCollAbort 0
      if cause = collHwfault then s2
      else s2.modColl fun k => { k with notices := modify k.notices core [] (· ++ x.noticesFor cause s.now) }

/-- CTX_CLOSE takes effect: tiles in flight are discarded, SRAM and records are freed, and the context is CLOSING for one
drain bound. -/
def Sys.closeCtx (c : Nat) (s : Sys) : Sys :=
  s.modCtx c fun x =>
    { x with st := .closing, tiles := [], sram := 0, escape := 0, closing := some (s.startInterval s.drainNs) }

/-! ## Fences (07 R250) -/

/-- Tiles of the window that lack no slot and are not finished are finished: those of a tree that has no slot here, or whose every
slot is excluded, among them (07 R239, R241; log 24). The checks of a tile that no contribution ends are passed (log 169). -/
def Sys.finishWindow (c : Nat) (s : Sys) : Sys :=
  match s.ctx c with
  | none => s
  | some x =>
    (List.range x.desc.w.toNat).foldl
      (fun u k =>
        match u.ctx c with
        | none => u
        | some y =>
          let n := x.low + k
          if y.st == .active && y.inScope n && !y.ahead.contains n && decide (y.low ≤ n) && y.ready n &&
              (y.tile n).sent.isNone && y.parity.isNone then u.finishTile c n
          else u)
      s

/-- Slots are excluded from every tile that has not completed; a tile that now lacks no slot completes. -/
def Sys.excludeSlots (c : Nat) (l : List Nat) (s : Sys) : Sys :=
  (s.modCtx c fun x => { x with excl := l.foldl (fun a i => insertNat i a) x.excl }).finishWindow c

/-- The fence check of one context: its endpoint slots missing from L (07 R250). -/
def Sys.fenceCtx (c : Nat) (s : Sys) : Sys :=
  match s.ctx c with
  | none => s
  | some x =>
    if x.st ≠ .active then s
    else
      let missing := (x.treeSlots x.low).filter fun i =>
        !(x.tile x.low).bits.contains i &&
          (match x.members[i]? with | some m => !m.child && s.fenced m.gei | none => false)
      match missing with
      | [] => s.finishWindow c
      | i :: _ => if x.desc.fpol then s.excludeSlots c missing else s.abortCtx c collFenced i 0 x.low

/-- The fence check of every context. -/
def Sys.fenceCtxs (s : Sys) : Sys := s.coll.ctx.foldl (fun t e => t.fenceCtx e.1) s

end Sys2Proof.Machine
end

