-- ==== Sys2Proof/Machine/Engine.lean ====
section
/-! DEFINITION. The graph sequencer's bookkeeping: node outcomes, readiness, failing, ending and the sweep that applies
them (08 R276, R281-R293), with what a stopped vault node leaves (10 R341, R346). -/

namespace Sys2Proof.Machine

/-! ## Quire slots -/

/-- A Quire slot that is not FREE. -/
def Sys.quire (q : Nat) (s : Sys) : Option Quire := get? s.vault.slot q

/-- A Quire slot put through `f`. -/
def Sys.modQuire (q : Nat) (f : Quire → Quire) (s : Sys) : Sys := s.modVault fun v => { v with slot := update v.slot q f }

/-- A slot of a deactivated tag is freed once nothing runs on it (10 R350). -/
def Sys.freeIdleQuire (q : Nat) (s : Sys) : Sys :=
  match s.quire q with
  | some x =>
    if x.freeWhenIdle && x.updates.isEmpty && x.rebuild.isNone then s.modVault fun v => { v with slot := del v.slot q } else s
  | none => s

/-- An update node has ended; the slot is UPDATING while another runs (10 R338, R341). -/
def Sys.updateEnds (q gid node : Nat) (cause : Word) (s : Sys) : Sys :=
  (s.modQuire q fun x =>
      let us := x.updates.filter fun u => !(u.gid == gid && u.node == node)
      { x with
        updates := us
        cause := if cause = 0 then x.cause else cause
        st := if us.isEmpty && x.st == .updating then .ready else x.st }).freeIdleQuire q

/-- A rebuild has failed or was stopped: the slot is DEGRADED with its indices LOST, and the shard flows close (10 R341,
R346). -/
def Sys.rebuildFails (q : Nat) (cause : Word) (s : Sys) : Sys :=
  match s.quire q with
  | some { rebuild := some r, .. } =>
    let s1 := r.flows.foldl (fun t i => t.closeFlow i) s
    (s1.modQuire q fun x =>
        { x with rebuild := none, shards := [], acked := [], cause := if cause = 0 then x.cause else cause
                 st := if x.st == .rebuilding then .degraded else x.st }).freeIdleQuire q
  | _ => s

/-- A REBUILD node has ended without completing: its rebuild fails; one that never started leaves its cause only (10 R351). -/
def Sys.rebuildStops (q gid node : Nat) (cause : Word) (s : Sys) : Sys :=
  match s.quire q with
  | some x =>
    if x.rebuild.any fun r => r.gid == gid && r.node == node then s.rebuildFails q cause
    else s.modQuire q fun x => { x with cause := if cause = 0 then x.cause else cause }
  | none => s

/-- A rebuild has completed: the replacements take the lost places, and the slot is READY (10 R346). -/
def Sys.rebuildDone (q : Nat) (s : Sys) : Sys :=
  match s.quire q with
  | some { rebuild := some r, .. } =>
    let s1 := r.flows.foldl (fun t i => t.closeFlow i) s
    (s1.modQuire q fun x =>
        { x with
          members := (r.lost.zip r.dests).foldl (fun m e => setNth m e.1 e.2) x.members
          lost := [], rebuild := none, shards := [], acked := [], st := .ready }).freeIdleQuire q
  | _ => s

/-! ## Graphs -/

/-- A graph by GID. -/
def Sys.graph (gid : Nat) (s : Sys) : Option Graph := get? s.graphs.graph gid

/-- A graph put through `f`. -/
def Sys.modGraph (gid : Nat) (f : Graph → Graph) (s : Sys) : Sys :=
  s.modGraphs fun g => { g with graph := update g.graph gid f }

/-- A node put through `f`. -/
def Sys.modNode (gid i : Nat) (f : Node → Node) (s : Sys) : Sys :=
  s.modGraph gid fun g => { g with nodes := modNth g.nodes i f }

/-- A node of a graph. -/
def Sys.node (gid i : Nat) (s : Sys) : Option Node :=
  match s.graph gid with
  | some g => g.nodes[i]?
  | none => none

/-- Home core die of a graph (08 R274). -/
def Graph.home (g : Graph) : Nat := g.jtag.toNat % 4

/-- Field of a node's arguments. -/
def Node.a (n : Node) (hi lo : Nat) : Nat := bits n.args.toNat hi lo

/-- Node kinds (08 Table 08-3). -/
abbrev kReduce : Nat := 1
abbrev kMulticast : Nat := 2
abbrev kBroadcast : Nat := 3
abbrev kParity : Nat := 4
abbrev kRebuild : Nat := 5
abbrev kWait : Nat := 6
abbrev kBarrier : Nat := 7
abbrev kNotify : Nat := 8
abbrev kJoin : Nat := 9

/-- A message of the graph service (08 R271): class 6, spray, FLOW 0xFF_FC00 + GID. -/
def Sys.graphPkt (dest : Word) (gid : Nat) (jtag : BitVec 16) (jgen : BitVec 8) (mtype : Nat) (cookie a b : Word)
    (body : List Byte) (s : Sys) : Pkt :=
  { s.ownPkt 4 9 6 dest (BitVec.ofNat 24 (0xFFFC00 + gid)) 0
      (toBe 4 (mtype * 2 ^ 24 + gid) ++ toBe 4 cookie.toNat ++ toBe 4 a.toNat ++ toBe 4 b.toNat ++ body) with jtag, jgen }

/-- The NOTIFY message of a node. -/
def Sys.notifyPkt (gid : Nat) (g : Graph) (i : Nat) (n : Node) (s : Sys) : Pkt :=
  s.graphPkt (BitVec.ofNat 32 (n.a 351 320)) gid g.jtag g.jgen 6 g.cookie
    (BitVec.ofNat 32 (i * 65536 + n.a 303 288)) 0 (toBe 8 (n.a 287 224))

/-- State code of a graph (08 Table 08-10). -/
def GraphSt.code : GraphSt → Nat
  | .running => 2
  | .done => 3
  | .failed => 4
  | .cancelled => 5
  | .stale => 6

/-- The dependences of a node are met (08 R276). -/
def Graph.met (g : Graph) (n : Node) : Bool :=
  (List.range n.npred.toNat).all fun j =>
    match g.nodes[(nth n.preds j 0).toNat]? with
    | some p => p.st == .done || (n.edge.getLsbD j && p.st == .running)
    | none => false

/-- Home core die of the context that a vault node's descriptor names (10 R333). -/
def Node.vaultHome (g : Graph) (n : Node) : Nat :=
  let doff := if n.kind.toNat = kParity then n.a 255 224 else n.a 223 192
  bits (beAt (bytesAt g.data doff 64) 0 64) 511 498 % 4

/-- The core die that a node runs on (08 Table 08-8). -/
def Node.core (g : Graph) (n : Node) : Nat :=
  match n.kind.toNat with
  | 1 => n.a 351 338 % 4
  | 4 | 5 => n.vaultHome g
  | _ => g.home

/-- The ready entry of a node crosses the Felt from the graph's home to the node's core die: GID and node index (08 R277; the
layout is log 175). -/
def Sys.sendReady (gid : Nat) (g : Graph) (i : Nat) (s : Sys) : Sys :=
  match g.nodes[i]? with
  | some n => s.sendControl (16 + g.home) (16 + n.core g) (toBe 4 gid ++ toBe 4 i)
  | none => s

/-- PENDING nodes of a graph whose dependences are met. -/
def Graph.wakes (g : Graph) : List Nat :=
  (List.range g.nodes.length).filter fun i =>
    match g.nodes[i]? with
    | some n => n.st == .pending && g.met n
    | none => false

/-- PENDING nodes of a RUNNING graph whose dependences are met become READY (08 R276), and their entries are sent (R277). -/
def Sys.makeReady (gid : Nat) (s : Sys) : Sys :=
  match s.graph gid with
  | none => s
  | some g =>
    if g.st ≠ .running then s
    else
      let ready (n : Node) : Node := { n with st := .ready, tready := s.now, readyExt := s.clk.ext, readyCycle := s.clk.cycle }
      g.wakes.foldl (fun t i => t.sendReady gid g i)
        (s.modGraph gid fun g => { g with nodes := g.wakes.foldl (fun l i => modNth l i ready) g.nodes })

/-! ## What a running node does -/

/-- The outcome of a node at this moment. -/
inductive NodeOut where
  | stay
  | complete (part : Bool)
  | fail (cause : Word)
  deriving DecidableEq, Repr

/-- The context that a node opened. -/
def Sys.nodeCtx (gid i : Nat) (s : Sys) : Option (Nat × Ctx) := s.coll.ctx.find? fun e => e.2.opener == some (gid, i)

/-- An object of a job tag. -/
def Sys.bcObj (jtag : BitVec 16) (obj : Word) (s : Sys) : Option BcObj :=
  s.bc.objs.find? fun o => o.jtag == jtag && o.obj == obj

/-- Segments of an object (09, "Broadcast objects"). -/
def BcObj.nseg (o : BcObj) : Nat := (o.size + 4095) / 4096

/-- Receivers that hold back a range: neither UNREACHABLE nor PRUNED. -/
def BcObj.counted (o : BcObj) : List Receiver := o.receivers.filter fun r => r.mode != .unreachable && r.mode != .pruned

/-- A REDUCE node (08 R281): its range is done when L has passed it or the context is COMPLETE. -/
def Sys.reduceOut (n : Node) (s : Sys) : NodeOut :=
  let first := n.a 319 288
  let stop := first + n.a 287 256
  match s.ctx (n.a 351 338) with
  | none => .fail graphState
  | some x =>
    if x.st = .complete ∨ (x.st = .active ∧ stop ≤ x.low) then
      .complete (x.marked.any fun t => first ≤ t && t < stop)
    else
      match x.st with
      | .active => .stay
      | .aborted => .fail x.cause
      | _ => .fail graphState

/-- What a node of a RUNNING graph does now. -/
def Sys.nodeOut (gid : Nat) (g : Graph) (i : Nat) (n : Node) (s : Sys) : NodeOut :=
  let run := n.st == .running
  match n.kind.toNat with
  | 1 => if run then s.reduceOut n else .stay
  | 2 =>
    if run then (if s.sw.replWait.any fun w => some w.id == n.pkt then .stay else .complete false) else .stay
  | 3 =>
    if !run then .stay
    else
      match s.bcObj g.jtag (BitVec.ofNat 32 (n.a 351 320)) with
      | none => .fail bcNoobj
      | some o =>
        match o.st with
        | .failed => .fail o.cause
        | .active | .complete =>
          let stop := BitVec.ofNat 32 (n.a 319 288 + n.a 287 256)
          if o.counted.all fun r => serialGe r.ack stop then .complete (o.receivers.any fun r => r.mode == .unreachable)
          else .stay
        | _ => .fail bcNoobj
  | 4 =>
    if !run then .stay
    else
      match s.nodeCtx gid i with
      | some (_, { parity := some p, st, cause, .. }) =>
        let done :=
          match s.quire p.qslot with
          | some q => q.cv == p.version || (List.range p.count).all fun k => q.staged.contains (p.first + k)
          | none => false
        if done then .complete false
        else if st = .active ∨ st = .complete then .stay
        else .fail (if st = .aborted then cause else graphState)
      | _ => .fail graphState
  | 5 =>
    if !run then .stay
    else
      match s.nodeCtx gid i with
      | some (_, x) =>
        if x.st = .complete then .complete false
        else if x.st = .active then .stay
        else .fail (if x.st = .aborted then x.cause else graphState)
      | none => .fail graphState
  | 7 =>
    if (run || n.st == .ready) && n.a 351 341 ≤ n.arrived.length then .complete false else .stay
  | 8 =>
    if !run then .stay
    else
      let p := s.notifyPkt gid g i n
      if (getD s.sw.origWait g.home []).any fun q => q.1.flow == p.flow && q.1.payload == p.payload && q.1.dgei == p.dgei then .stay
      else .complete false
  | 9 => if run then .complete false else .stay
  | _ => .stay

/-! ## Effects -/

/-- The slot of a vault node. -/
def Node.qslot (n : Node) : Nat := n.a 351 340

/-- The slot that a vault node names is one of its graph's job tag. -/
def Sys.ownsQuire (gid q : Nat) (s : Sys) : Bool :=
  match s.graph gid, s.quire q with
  | some g, some x => g.jtag == x.jtag
  | _, _ => false

/-- A RUNNING node is stopped: what it leaves in the vault, in a slot of its job (08 R288; 10 R341, R351). -/
def Sys.stopNode (gid i : Nat) (n : Node) (cause : Word) (s : Sys) : Sys :=
  if n.st ≠ .running then s
  else
    match n.kind.toNat with
    | 4 => if s.ownsQuire gid n.qslot then s.updateEnds n.qslot gid i cause else s
    | 5 => if s.ownsQuire gid n.qslot then s.rebuildStops n.qslot gid i cause else s
    | _ => s

/-- The end of a graph is told (08 R291): GRAPH_END to ENDDEST and vector ENDVEC. -/
def Sys.tellEnd (gid : Nat) (g : Graph) (s : Sys) : Sys :=
  let parts := (g.nodes.filter fun n => n.st == .done && n.partialDone).length
  let body := toBe 4 (g.failNode % 65536 * 65536 + parts % 65536) ++ toBe 8 s.now.toNat
  let s1 :=
    if g.endDest = 0 then s
    else
      s.originate g.home
        (s.graphPkt g.endDest gid g.jtag g.jgen 7 g.cookie (BitVec.ofNat 32 g.st.code) g.cause body)
  if g.endIrq then s1.msix g.endVec else s1

/-- A RUNNING graph ends otherwise than DONE (08 R288, R290): no further admission, nodes cancelled, vault nodes stopped,
contexts that its nodes opened aborted, the end told and logged. -/
def Sys.breakGraph (gid : Nat) (st : GraphSt) (cause : Word) (failNode : Nat) (s : Sys) : Sys :=
  match s.graph gid with
  | none => s
  | some g =>
    let s1 := (List.range g.nodes.length).foldl
      (fun t i => match g.nodes[i]? with | some n => t.stopNode gid i n cause | none => t) s
    let s2 := s1.modGraph gid fun g =>
      { g with
        st, cause, failNode, ended := some (s.startInterval s.drainNs)
        nodes := g.nodes.map fun n =>
          if n.st == .pending || n.st == .ready || n.st == .running then { n with st := .cancelled, cause } else n }
    let mine := (s2.coll.ctx.filter fun e =>
      e.2.st == .active && (match e.2.opener with | some o => o.1 == gid | none => false)).map fun e => e.1
    let s3 := mine.foldl (fun t c => t.abortCtx c collHostabort Config.noSlot.toNat 0 Config.noTile.toNat) s2
    let s4 := if st = .failed then
        s3.log cause 0x03 (16 + g.home) 0 0 0 [0, 0, 0, BitVec.ofNat 32 (g.jtag.toNat * 65536)] else s3
    match s4.graph gid with
    | some g => s4.tellEnd gid g
    | none => s4

/-- A node fails, and with it its graph (08 R288). -/
def Sys.failNode (gid i : Nat) (cause : Word) (s : Sys) : Sys :=
  match s.node gid i with
  | none => s
  | some n =>
    ((s.stopNode gid i n cause).modNode gid i fun n => { n with st := .failed, cause }).breakGraph gid
      .failed cause i

/-- A graph fails for the loss of a stack or a core die (08 R293): its RUNNING vault nodes fail (10 R348), the others are
cancelled. FAILNODE is the first of those that failed. -/
def Sys.failGraph (gid : Nat) (s : Sys) : Sys :=
  match s.graph gid with
  | none => s
  | some g =>
    if g.st ≠ .running then s
    else
      let vs := (List.range g.nodes.length).filter fun i =>
        match g.nodes[i]? with
        | some n => n.st == .running && (n.kind.toNat == kParity || n.kind.toNat == kRebuild)
        | none => false
      let t := vs.foldl
        (fun t i =>
          match t.node gid i with
          | some n =>
            (t.stopNode gid i n graphHwfault).modNode gid i fun n => { n with st := .failed, cause := graphHwfault }
          | none => t)
        s
      t.breakGraph gid .failed graphHwfault (vs.headD 0)

/-- Every RUNNING graph fails with the loss of a stack or a core die (08 R293). -/
def Sys.failGraphs (s : Sys) : Sys := s.graphs.graph.foldl (fun t e => t.failGraph e.1) s

/-- A node completes (08 R281, R286): its time is taken, a REDUCE node with CLOSE closes its context, a vault node frees
its slot, and nodes that waited for it become READY. -/
def Sys.finishNode (gid i : Nat) (part : Bool) (s : Sys) : Sys :=
  match s.node gid i with
  | none => s
  | some n =>
    let s1 :=
      match n.kind.toNat with
      | 1 => if n.a 336 336 = 1 then s.closeCtx (n.a 351 338) else s
      | 4 => s.updateEnds n.qslot gid i 0
      | 5 => s.rebuildDone n.qslot
      | _ => s
    (s1.modNode gid i fun n =>
        { n with
          st := .done, partialDone := part, tdone := s.now
          tstart := if n.st == .ready then s.now else n.tstart }).makeReady gid

/-- A graph whose every node is DONE is DONE (08 R287). -/
def Sys.endDone (gid : Nat) (s : Sys) : Sys :=
  let t := s.modGraph gid fun g => { g with st := .done, ended := some (s.startInterval s.drainNs) }
  match t.graph gid with
  | some g => t.tellEnd gid g
  | none => t

/-- Nodes of RUNNING graphs with what they do now. -/
def Sys.outcomes (s : Sys) : List (Nat × Nat × Node × NodeOut) :=
  (s.graphs.graph.filter fun e => e.2.st == .running).flatMap fun e =>
    (List.range e.2.nodes.length).filterMap fun i =>
      match e.2.nodes[i]? with
      | some n => (match s.nodeOut e.1 e.2 i n with | .stay => none | o => some (e.1, i, n, o))
      | none => none

/-- A node closes its context when it completes. -/
def Node.closes (n : Node) : Bool := n.kind.toNat == kReduce && n.a 336 336 == 1

/-- One step of the sweep: a node that completes without closing a context, else one that completes, else one that fails,
else a graph whose nodes are all DONE. -/
def Sys.settleStep (s : Sys) : Option Sys :=
  let l := s.outcomes
  let ok (o : NodeOut) : Bool := match o with | .complete _ => true | _ => false
  match (l.find? fun e => ok e.2.2.2 && !e.2.2.1.closes).orElse fun _ => (l.find? fun e => ok e.2.2.2).orElse fun _ => l.head? with
  | some (gid, i, _, .complete part) => some (s.finishNode gid i part)
  | some (gid, i, _, .fail cause) => some (s.failNode gid i cause)
  | _ =>
    match s.graphs.graph.find? fun e => e.2.st == .running && e.2.nodes.all fun n => n.st == .done with
    | some e => some (s.endDone e.1)
    | none => none

/-- The sweep: nodes complete and fail, and graphs end, until nothing more does. -/
def Sys.settleLoop : Nat → Sys → Sys
  | 0, s => s
  | n + 1, s =>
    match s.settleStep with
    | some t => Sys.settleLoop n t
    | none => s

/-- The sweep over every graph; each step ends a node or a graph. -/
def Sys.settle (s : Sys) : Sys :=
  if s.graphs.graph.isEmpty then s
  else s.settleLoop (sum (s.graphs.graph.map fun e => e.2.nodes.length + 1) + 1)

/-- A graph and what refers to it are gone: contexts that its nodes opened stay, without an opener (08 R291). -/
def Sys.freeGraph (gid : Nat) (s : Sys) : Sys :=
  (s.modGraphs fun g => { g with graph := del g.graph gid }).modColl fun k =>
    { k with
      ctx := k.ctx.map fun e =>
        (e.1, match e.2.opener with | some o => if o.1 = gid then { e.2 with opener := none } else e.2 | none => e.2) }

end Sys2Proof.Machine
end

