-- ==== Sys2Proof/Machine/Requests.lean ====
section
/-! DEFINITION. What the module answers on its access paths: dictionary messages, responses, refusals, requests of one sub-index,
and the completion of command slots (18 R535-R540, R544; 19 R576). -/

namespace Sys2Proof.Machine

/-! ## Messages of the module -/

/-- A dictionary message: its header and its data (18 Table 18-6). -/
def dictMsg (mtype count : Nat) (tag : BitVec 16) (addr : Word64) (abort : Word) (data : List Byte) : List Byte :=
  toBe 1 mtype ++ toBe 1 count ++ toBe 2 tag.toNat ++ toBe 4 addr.toNat ++ toBe 4 abort.toNat ++ toBe 4 data.length ++ data

/-- TAG of a message of a session: KMAC256 over the message and its SEQ (19 R576). -/
def msgTag (key msg : List Byte) (seq : Word64) : List Byte :=
  fit 32 (Config.kmac key (msg ++ toBe 8 seq.toNat) 256 (ascii "GZS-MSG"))

/-- A message of the module in the path's session takes the next SEQ and its trailer; outside a session it has none. -/
def Sys.protect (path : Path) (msg : List Byte) (s : Sys) : List Byte × Sys :=
  let x := getD s.mg.sessions (pathNum path) {}
  if x.st = 2 then
    let seq := x.txSeq + 1
    (msg ++ toBe 8 seq.toNat ++ msgTag x.txKey msg seq,
      s.modMg fun m => { m with sessions := put m.sessions (pathNum path) { x with txSeq := seq } })
  else (msg, s)

/-- A dictionary message as the payload of an Ethernet II frame of the module on the facility segment, padded to the minimum length
(18 R541). -/
def facFrame (dest : Word64) (msg : List Byte) : List Byte :=
  toBe 6 dest.toNat ++ toBe 6 (Config.macAddress 2).toNat ++ toBe 2 0x88B5 ++ msg ++ List.replicate (46 - msg.length) 0

/-- A dictionary message leaves on a message path: as a datagram, as a frame to the last sender heard, or as a control packet of
class 6 to OWNER under tag 0 and a flow of the module's, which a module without valid time withholds (18 R537, R540; 05 R177; 21
R610). -/
def Sys.sendMsg (path : Path) (prot : Bool) (msg : List Byte) (s : Sys) : Sys :=
  let r := if prot then s.protect path msg else (msg, s)
  match path with
  | .pcie => s
  | .inband =>
    if s.clk.valid then (r.2.modMg fun m => { m with inbandWait := m.inbandWait ++ [(s.nv.owner, r.1)] }).inbandGo else s
  | .facility => r.2.emit (.message .facility (facFrame (s.mg.facPeer.setWidth 64) r.1))
  | .eth => r.2.emit (.message .eth r.1)

/-- A valid message has come in the path's session (19 R576). -/
def Sys.heard (path : Path) (s : Sys) : Sys :=
  s.modMg fun m => { m with sessions := update m.sessions (pathNum path) fun x => { x with last := s.clk.mono } }

/-- The module answers a request: `count` sub-indices completed, abort code 0 for none, and the data that was read. The
mailbox takes the answer on the PCIe path; `prot`: the request came under the path's session (18 R535, R537, R538). -/
def Sys.respond (path : Path) (prot : Bool) (tag : BitVec 16) (addr : Word64) (count : Nat) (abort : Word) (data : List Byte)
    (s : Sys) : Sys :=
  let s1 := s.event 20 0x40 0 1
  match path with
  | .pcie =>
    if s1.pcieUp then
      (s1.modMg fun m =>
        { m with
          mbState := (if abort = 0 then 2 else 3), mbDone := BitVec.ofNat 8 count, mbAbort := abort
          mbData := data ++ m.mbData.drop data.length }).msix 0
    else s1
  | _ => s1.sendMsg path prot (dictMsg 3 count tag addr abort data)

/-- The answer to a request that a row stands for; `prot`: it was a valid message of the path's session (19 R576). -/
def Sys.answer (path : Path) (prot : Bool) (addr : Word64) (count : Nat) (abort : Word) (data : List Byte) (s : Sys) : Sys :=
  (if prot then s.heard path else s).respond path prot 0 addr count abort data

/-! ## Requests of one sub-index -/

/-- A request of an operation (1 read, 2 write) is refused with an abort code (18 R549, R550). -/
def Sys.refuseAs (path : Path) (code : Word) (index block sub op : Nat) (s : Sys) : Sys :=
  let a := dictAddr index block sub
  ((s.reqError path code 1 a op).answer path (s.sessionOpen path) a 0 code []).event 20 0x43 0 1

/-- A write request is refused. -/
def Sys.refuse (path : Path) (code : Word) (index block sub : Nat) (s : Sys) : Sys := s.refuseAs path code index block sub 2

/-- A write request of one sub-index: what the path answers first, then the effect or its refusal; `next` follows the response
of one that succeeds. -/
def requestThen (path : Path) (index block sub : Nat) (op : Sys → Except Word Sys) (next : Sys → Sys) (s : Sys) : Sys :=
  match s.gate path index true with
  | .silent => s
  | .refused c => s.refuse path c index block sub
  | .opened =>
    match op s with
    | .error c => s.refuse path c index block sub
    | .ok t => next (t.answer path (s.sessionOpen path) (dictAddr index block sub) 1 0 [])

/-- A write request of one sub-index. -/
def request (path : Path) (index block sub : Nat) (op : Sys → Except Word Sys) (s : Sys) : Sys :=
  requestThen path index block sub op id s

/-- As `request`, for an effect that also reads or writes the byte memories. -/
def requestM (path : Path) (index block sub : Nat) (op : Stores × Sys → Except Word (Stores × Sys)) (m : Stores × Sys) :
    Stores × Sys :=
  match m.2.gate path index true with
  | .silent => m
  | .refused c => (m.1, m.2.refuse path c index block sub)
  | .opened =>
    match op m with
    | .error c => (m.1, m.2.refuse path c index block sub)
    | .ok t => (t.1, t.2.answer path (m.2.sessionOpen path) (dictAddr index block sub) 1 0 [])

/-- A read request of one sub-index: its bytes and the state after the read, or its refusal. -/
def requestR (path : Path) (index block sub : Nat) (op : Sys → Except Word (List Byte × Sys)) (s : Sys) : Sys :=
  match s.gate path index false with
  | .silent => s
  | .refused c => s.refuseAs path c index block sub 1
  | .opened =>
    match op s with
    | .error c => s.refuseAs path c index block sub 1
    | .ok t => t.2.answer path (s.sessionOpen path) (dictAddr index block sub) 1 0 t.1

/-! ## Completion of command slots -/

/-- The path learns that a slot has left BUSY: vector 1, or COMPLETION to the session (18 R544); with both Collier pairs lost no
path learns anything (18 R526). -/
def Sys.notifySlot (o : SlotObj) (p : Path) (status abort : Word) (s : Sys) : Sys :=
  match p with
  | .pcie => if s.boot.bothLost then s else s.msix 1
  | _ =>
    if s.sessionOpen p && !s.boot.bothLost then
      s.sendMsg p true (dictMsg 4 2 0 (dictAddr o.index 0 0) 0 (toBe 4 status.toNat ++ toBe 4 abort.toNat))
    else s

/-- A slot leaves BUSY with a status, an abort code and results (04 R135, R136; 18 R544, R550). With both Collier pairs lost no
command ends (18 R526). -/
def Sys.complete (o : SlotObj) (p : Path) (status abort : Word) (res : List (Nat × Word)) (s : Sys) : Sys :=
  if s.boot.bothLost then s
  else
    let s1 := s.modSlot o p fun sl =>
      { sl with status, abort, uses := [], res := res.foldl (fun a e => put a e.1 e.2) sl.res }
    let s2 := if abort = 0 then s1 else s1.reqError p abort 1 (dictAddr o.index 0 0) 2
    s2.notifySlot o p status abort

/-- STATUS DONE with results. -/
def Sys.done (o : SlotObj) (p : Path) (res : List (Nat × Word)) (s : Sys) : Sys := s.complete o p 2 0 res

/-- STATUS FAILED with an abort code. -/
def Sys.failed (o : SlotObj) (p : Path) (abort : Word) (s : Sys) : Sys := s.complete o p 5 abort []

/-- STATUS FAILED for a security failure, logged with the SHA3-256 of the key that offends (20 R602). -/
def Sys.failedKey (o : SlotObj) (p : Path) (abort : Word) (key : List Byte) (s : Sys) : Sys :=
  if s.boot.bothLost then s
  else
    let s1 := s.modSlot o p fun sl => { sl with status := 5, abort, uses := [] }
    (s1.reqErrorKey key p abort 1 (dictAddr o.index 0 0) 2).notifySlot o p 5 abort

/-- A command fails because its DMA failed: the logged address is the host bus address (18 R547). -/
def Sys.failedDma (o : SlotObj) (p : Path) (addr : Word64) (s : Sys) : Sys :=
  if s.boot.bothLost then s
  else
    let s1 := s.modSlot o p fun sl => { sl with status := 5, abort := mgtDma, uses := [] }
    (s1.reqError p mgtDma 3 addr 2).notifySlot o p 5 mgtDma

end Sys2Proof.Machine
end

