-- ==== Sys2Proof/Machine/Tables.lean ====
section
/-! DEFINITION. Table versions and the table command object (03 R79-R84, 04). -/

namespace Sys2Proof.Machine

/-! ## Version states, drain bound, source epoch, seed -/

/-- A long command that writes to a version is accepted and has not left BUSY (04 R129). -/
def Sys.longOn (b : Bool) (s : Sys) : Bool := s.tab.long.any fun l => l.ver == b

/-- State of a version set. -/
def Sys.setVer (b : Bool) (v : BitVec 2) (i : Option Interval) (s : Sys) : Sys :=
  s.modFwd fun f => if b then { f with st1 := v, retire1 := i } else { f with st0 := v, retire0 := i }

/-- A write of the state of a version (03 R80, 04 R129). -/
def writeVersionState (b : Bool) (value : Word) (s : Sys) : Except Word Sys :=
  if 4 ≤ value.toNat then .error mgtRange
  else if value = 3 then .error mgtReserved
  else if s.longOn b then .error tblBusy
  else if s.verState b = 0 ∧ value = 1 then .ok (s.setVer b 1 none)
  else if s.verState b = 1 ∧ value = 2 ∧ s.verState (!b) = 1 then
    .ok (s.setVer b 2 (some (s.startInterval s.drainNs)))
  else .error mgtState

/-- VERSION_STATE_WRITE (R80). -/
def execVersionStateWrite (path : Path) (ver : Bool) (value : Word) (s : State) : Host.Outcome State Fault Refusal :=
  .next (s.onSys (request path 0x3002 0 (b2n ver) (writeVersionState ver value)))

/-- A RETIRING version becomes FREE at the end of its interval; contents and seed stay (03 R80, 04 R143). -/
def Sys.retireExpire (b : Bool) (s : Sys) : Sys :=
  match (if b then s.fwd.retire1 else s.fwd.retire0) with
  | some i => if s.verState b = 2 then (s.toEnd i).setVer b 0 none else s
  | none => s

/-- VERSION_RETIRE_EXPIRE (R80). -/
def execVersionRetireExpire (ver : Bool) (s : State) : Host.Outcome State Fault Refusal :=
  .next (s.onSys (Sys.retireExpire ver))

/-- A write of the drain bound (03 R81): 100-100,000 µs; it takes effect at the next control cycle. -/
def writeDrainBound (value : Word) (s : Sys) : Except Word Sys :=
  if 100 ≤ value.toNat ∧ value.toNat ≤ 100000 then s.rws fun n => { n with drainBound := value.toNat } else .error mgtRange

/-- DRAIN_BOUND_WRITE (R81). -/
def execDrainBoundWrite (path : Path) (value : Word) (s : State) : Host.Outcome State Fault Refusal :=
  .next (s.onSys (request path 0x3001 0 0 (writeDrainBound value)))

/-- A write of the source epoch (03 R84). -/
def writeSourceEpoch (value : Word) (s : Sys) : Except Word Sys :=
  if 2 ≤ value.toNat then .error mgtRange else .ok (s.modFwd fun f => { f with epoch := value == 1 })

/-- SOURCE_EPOCH_WRITE (R84). -/
def execSourceEpochWrite (path : Path) (value : Word) (s : State) : Host.Outcome State Fault Refusal :=
  .next (s.onSys (request path 0x3003 0 0 (writeSourceEpoch value)))

/-- A version is being copied from or into, until the command leaves BUSY (04 R144). -/
def Sys.copying (b : Bool) (s : Sys) : Bool :=
  match s.tab.long with
  | l :: _ => l.op == 0x0F && (l.ver == b || l.ver == !b)
  | [] => false

/-- A write of a hash seed (04 R112): only while the version is FREE and empty of keys and prefixes, and not while a copy runs
(R144). -/
def writeHashSeed (b : Bool) (value : Word) (s : Sys) : Except Word Sys :=
  let v := s.tab.seqVer b
  if s.copying b then .error tblBusy
  else if s.verState b = 0 ∧ v.em.isEmpty ∧ v.lpm.isEmpty then
    .ok (s.modTab fun t => t.modVer b fun v => { v with seed := value })
  else .error tblState

/-- HASH_SEED_WRITE (R112). -/
def execHashSeedWrite (path : Path) (ver : Bool) (value : Word) (s : State) : Host.Outcome State Fault Refusal :=
  .next (s.onSys (request path 0x3010 0 (b2n ver) (writeHashSeed ver value)))

/-! ## Commands -/

/-- A route result that may be written (04 R116). -/
def resultOk (r : Word) : Bool :=
  match fld r 31 30 with
  | 0 => fld r 13 0 == 0
  | 1 => fld r 13 10 == 0
  | 2 => true
  | _ => false

/-- A route result as it is stored: its reserved bits read 0 (00 R11, 03 Table 03-2). -/
def resultOf (r : Word) : Word := r &&& 0xC0003FFF

/-- A cursor as it is stored: its reserved bits read 0 (00 R11, 04 Table 04-8). -/
def cursorOf (c : Word) : Word := c &&& 0xC007FFFF

/-- A prefix and a length that may be written (04 R116). -/
def prefixOk (pfx : Word) (len : Nat) : Bool := len ≤ 32 && pfx &&& lpmMask len == pfx

/-- Fields of a table command word (04 Table 04-5). -/
structure TblCmd where
  op : Nat
  ver : Bool
  mode : Bool
  scope : BitVec 4
  index : Nat
  deriving DecidableEq, Repr

/-- The fields of a command word. -/
def TblCmd.of (w : Word) : TblCmd :=
  { op := fld w 31 24, ver := fld w 23 23 == 1, mode := fld w 20 20 == 1, scope := BitVec.ofNat 4 (fld w 19 16),
    index := fld w 15 0 }

/-- The command word of the fields. -/
def TblCmd.word (c : TblCmd) : Word :=
  BitVec.ofNat 32
    (c.op * 2 ^ 24 + b2n c.ver * 2 ^ 23 + b2n c.mode * 2 ^ 20 + c.scope.toNat * 2 ^ 16 + c.index)

/-- The operation writes to a version. -/
def tblWrites (op : Nat) : Bool := [1, 2, 5, 6, 9, 11, 13, 14, 15, 16].contains op

/-- Version states in which an operation is accepted (04 Table 04-6). -/
def tblStateOk (op : Nat) (st : BitVec 2) : Bool :=
  if op = 14 ∨ op = 15 then st == 0 else if tblWrites op then st == 0 || st == 1 else true

/-- The 64 slots of a spray set in words 1-32 (04 R134); the reserved bits [11:10] of each read 0 (00 R11, 03 Table 03-5). -/
def slotsOf (arg : Nat → Word) : List (BitVec 16) :=
  (List.range 64).map fun i =>
    BitVec.ofNat 16 (if i % 2 = 0 then fld (arg (1 + i / 2)) 31 16 else fld (arg (1 + i / 2)) 15 0) &&& 0xF3FF

/-- Words 1-32 of a spray set. -/
def slotWords (l : List (BitVec 16)) : List (Nat × Word) :=
  (List.range 32).map fun j => (1 + j, BitVec.ofNat 32 ((nth l (2 * j) 0).toNat * 65536 + (nth l (2 * j + 1) 0).toNat))

/-- The bitmap of a group in words 1-32 (04 R134). -/
def bitmapOf (arg : Nat → Word) : BitVec 1024 :=
  BitVec.ofNat 1024 ((List.range 32).foldl (fun a j => a + (arg (1 + j)).toNat * 2 ^ (32 * j)) 0)

/-- Words 1-32 of a bitmap. -/
def bitmapWords (m : BitVec 1024) : List (Nat × Word) :=
  (List.range 32).map fun j => (1 + j, BitVec.ofNat 32 (m.toNat / 2 ^ (32 * j)))

/-- A route result that refers to a port. -/
def refersTo (r : Word) (port : Nat) : Bool := fld r 31 30 == 1 && fld r 9 0 == port

/-- A spray slot that refers to a port. -/
def slotRefers (x : BitVec 16) (port : Nat) : Bool := bits x.toNat 15 12 != 0 && bits x.toNat 9 0 == port

/-- A single-item write would create a reference to the port of a running or queued flush, in a structure of its SCOPE
(04 R142). -/
def LongJob.blocks (l : LongJob) (ver : Bool) (op : Nat) (result : Word) (slots : List (BitVec 16)) (g : Group) : Bool :=
  l.op == 0x0D && l.ver == ver &&
    ((op == 1 && l.scope.getLsbD 0 && refersTo result l.port) || (op == 5 && l.scope.getLsbD 1 && refersTo result l.port) ||
      (op == 11 && l.scope.getLsbD 2 && slots.any fun x => slotRefers x l.port) ||
      (op == 9 && l.scope.getLsbD 3 && g.valid && g.ports.getLsbD l.port))

/-- Argument checks of a table command (04 R116); an INDEX out of its range takes the code of 18 R549 (04 R132). -/
def tblArgs (c : TblCmd) (arg : Nat → Word) : Option Word :=
  let v := fld (arg 2) 31 31 == 1
  let len := fld (arg 2) 5 0
  if c.op = 1 ∧ !(v && resultOk (arg 1)) then some tblBadarg
  else if c.op = 5 ∧ !(v && resultOk (arg 1) && prefixOk (arg 0) len) then some tblBadarg
  else if (c.op = 6 ∨ (c.op = 7 ∧ !c.mode)) ∧ !prefixOk (arg 0) len then some tblBadarg
  else if (c.op = 11 ∨ c.op = 12) ∧ 16384 ≤ c.index then some mgtRange
  else if c.op = 13 ∧ 1024 ≤ c.index then some mgtRange
  else none

/-- Result words of an exact-match entry (04 Table 04-2). -/
def emWords (e : Nat × EmEntry) : List (Nat × Word) :=
  [(0, e.2.key), (1, e.2.result), (2, BitVec.ofNat 32 (2 ^ 31 + locOf emRegions e.1 * 2 ^ 29))]

/-- Result words of an LPM entry (04 Table 04-3). -/
def lpmWords (e : Nat × LpmEntry) : List (Nat × Word) :=
  [(0, e.2.pfx), (1, e.2.result), (2, BitVec.ofNat 32 (2 ^ 31 + locOf lpmRegions e.1 * 2 ^ 29 + e.2.len))]

/-- Position that a cursor names; a slot past its region names slot 0 of the next (04 R138). -/
def cursorPos (r : Regions) (c : Word) : Nat :=
  let s := fld c 18 0
  match fld c 31 30 with
  | 0 => min s r.bank1
  | 1 => min (r.bank1 + s) r.ovf
  | 2 => min (r.ovf + s) r.stop
  | _ => r.stop

/-- Cursor of a position. -/
def posCursor (r : Regions) (p : Nat) : Word :=
  BitVec.ofNat 32
    (if p < r.bank1 then p
     else if p < r.ovf then 2 ^ 30 + (p - r.bank1)
     else if p < r.stop then 2 ^ 31 + (p - r.ovf)
     else 3 * 2 ^ 30)

/-- Key under which a result list carries a new CURSOR. -/
def cursorKey : Nat := 256

/-- First entry at or after the cursor, and the cursor behind it (04 R138). -/
def nextEntry {α : Type} (t : Sparse α) (r : Regions) (cur : Word) (words : Nat × α → List (Nat × Word)) :
    Word × List (Nat × Word) :=
  match (if fld cur 31 30 = 3 then none else t.find? fun e => cursorPos r cur ≤ e.1) with
  | some e => (2, words e ++ [(cursorKey, posCursor r (e.1 + 1))])
  | none => (4, [(cursorKey, posCursor r r.stop)])

/-- What a single-item command does when the sequencer takes it up: its write, and the status, abort code and results
that its slot takes (04 R117, R118, R133, R137, R138). -/
def tblRun (c : TblCmd) (arg : Nat → Word) (cur : Word) (v : Version) : TblWrite × Word × Word × List (Nat × Word) :=
  let len := fld (arg 2) 5 0
  let found (r : Option (List (Nat × Word))) : TblWrite × Word × Word × List (Nat × Word) :=
    match r with
    | some w => (.none, 2, 0, w)
    | none => (.none, 3, 0, [])
  match c.op with
  | 1 =>
    let e : EmEntry := { key := arg 0, result := resultOf (arg 1) }
    match v.emPlace e with
    | some p => (.em c.ver p (some e), 2, 0, [])
    | none => (.none, 5, tblFull, [])
  | 2 =>
    match v.emFind (arg 0) with
    | some (p, _) => (.em c.ver p none, 2, 0, [])
    | none => (.none, 3, 0, [])
  | 3 => found ((v.emFind (arg 0)).map emWords)
  | 4 => let r := nextEntry v.em emRegions cur emWords; (.none, r.1, 0, r.2)
  | 5 =>
    let e : LpmEntry := { pfx := arg 0, len, result := resultOf (arg 1) }
    match v.lpmPlace e with
    | some p => (.lpm c.ver p (some e), 2, 0, [])
    | none => (.none, 5, tblFull, [])
  | 6 =>
    match v.lpmFind (arg 0) len with
    | some (p, _) => (.lpm c.ver p none, 2, 0, [])
    | none => (.none, 3, 0, [])
  | 7 => found ((if c.mode then v.lpmLookup (arg 0) else v.lpmFind (arg 0) len).map lpmWords)
  | 8 => let r := nextEntry v.lpm lpmRegions cur lpmWords; (.none, r.1, 0, r.2)
  | 9 => (.group c.ver c.index { valid := fld (arg 0) 31 31 == 1, ports := bitmapOf arg }, 2, 0, [])
  | 10 =>
    let g := getD v.groups c.index {}
    (.none, 2, 0, (0, BitVec.ofNat 32 (b2n g.valid * 2 ^ 31)) :: bitmapWords g.ports)
  | 11 => (.spray c.ver c.index (slotsOf arg), 2, 0, [])
  | 12 => (.none, 2, 0, slotWords (v.sprayOf c.index))
  | _ =>
    let f := v.filter c.index
    (.none, 2, 0, [(0, BitVec.ofNat 32 (f / 2 ^ 32)), (1, BitVec.ofNat 32 f)])

/-- A slot completes with its results; CURSOR among them goes to CURSOR. -/
def Sys.finishTable (path : Path) (status abort : Word) (res : List (Nat × Word)) (s : Sys) : Sys :=
  let s1 :=
    match res.find? (fun e => e.1 == cursorKey) with
    | some e => s.modSlot .table path fun sl => { sl with cursor := e.2 }
    | none => s
  s1.complete .table path status abort (res.filter fun e => e.1 != cursorKey)

/-- A write, or the end of a command, enters the sequencer; a read with nothing in flight before it completes at once. -/
def Sys.takeUp (path : Path) (r : TblWrite × Word × Word × List (Nat × Word)) (s : Sys) : Sys :=
  if r.1 = .none ∧ r.2.2.1 = 0 ∧ s.tab.inflight.isEmpty then s.finishTable path r.2.1 r.2.2.1 r.2.2.2
  else s.modTab fun t => { t with inflight := t.inflight ++ [{ write := r.1, owner := some (path, r.2.1, r.2.2.1, r.2.2.2) }] }

/-- An insert refused with GZ_TBL_FULL is counted for its version (04 R145). -/
def Sys.countFull (b : Bool) (s : Sys) : Sys :=
  s.modTab fun t => if b then { t with full1 := s.bump t.full1 } else { t with full0 := s.bump t.full0 }

/-- A long command is queued (04 R128); BULK_LOAD takes its records from the region that its handle names (04 R146). -/
def startLong (path : Path) (c : TblCmd) (cmd : Word) (arg : Nat → Word) (st : Stores) (dma : Dma) (s : Sys) : Sys :=
  let job : LongJob := { path, op := BitVec.ofNat 8 c.op, ver := c.ver, port := c.index, scope := c.scope }
  let push (j : LongJob) (t : Sys) : Sys := t.modTab fun x => { x with long := x.long ++ [j] }
  if c.op = 16 then
    let n := (arg 1).toNat
    match s.region path (arg 0) (16 * n) with
    | .error e => (s.accept .table path cmd []).failed .table path e
    | .ok b =>
      match regionRead st path b (16 * n) dma with
      | .error _ => (s.accept .table path cmd []).failedDma .table path b.dAddr
      | .ok data => push { job with handle := arg 0, count := n, host := .data data } (s.accept .table path cmd (usesOf path (arg 0)))
  else push job (s.accept .table path cmd [])

/-- A write of CMD of the table command object (04 R129, R133, R136, R142, R144). -/
def tableCmd (path : Path) (cmd : Word) (st : Stores) (dma : Dma) (s : Sys) : Except Word Sys :=
  let sl := s.slot .table path
  let c := TblCmd.of cmd
  let arg := sl.arg
  let g : Group := { valid := fld (arg 0) 31 31 == 1, ports := bitmapOf arg }
  if sl.busy then .error tblBusy
  else if c.op = 0 ∨ 0x12 ≤ c.op ∨ fld cmd 22 21 ≠ 0 then .error mgtReserved
  else
    match tblArgs c arg with
    | some e => .error e
    | none =>
      if !tblStateOk c.op (s.verState c.ver) then .error tblState
      else if tblWrites c.op && s.copying c.ver then .error tblBusy
      else if s.tab.long.any fun l => l.blocks c.ver c.op (arg 1) (slotsOf arg) g then .error tblBusy
      else if 13 ≤ c.op ∧ c.op ≤ 16 then .ok (startLong path c cmd arg st dma s)
      else
        let r := tblRun c arg sl.cursor (s.tab.seqVer c.ver)
        let s1 := (s.accept .table path cmd []).takeUp path r
        .ok (if r.2.2.1 = tblFull then s1.countFull c.ver else s1)

/-- A table command of a row: the ARGs of the path's slot, then CMD. -/
def tableReq (path : Path) (c : TblCmd) (args : List (Nat × Word)) (st : Stores) (dma : Dma) (s : Sys) : Sys :=
  request path 0x3020 0 0 (fun t => tableCmd path c.word st dma (t.setArgs .table path args)) s

/-- A word list as ARG1 onwards. -/
def argsFrom1 (l : List Word) : List (Nat × Word) := (List.range l.length).map fun i => (i + 1, nth l i 0)

/-- EM_INSERT (R117). -/
def execEmInsert (path : Path) (ver : Bool) (key result flags : Word) (s : State) : Host.Outcome State Fault Refusal :=
  .next (s.onSys (tableReq path { op := 1, ver, mode := false, scope := 0, index := 0 }
    [(0, key), (1, result), (2, flags)] {} .failed))

/-- EM_DELETE (R118). -/
def execEmDelete (path : Path) (ver : Bool) (key : Word) (s : State) : Host.Outcome State Fault Refusal :=
  .next (s.onSys (tableReq path { op := 2, ver, mode := false, scope := 0, index := 0 } [(0, key)] {} .failed))

/-- EM_SEARCH (R137). -/
def execEmSearch (path : Path) (ver : Bool) (key : Word) (s : State) : Host.Outcome State Fault Refusal :=
  .next (s.onSys (tableReq path { op := 3, ver, mode := false, scope := 0, index := 0 } [(0, key)] {} .failed))

/-- A NEXT command from a cursor: CURSOR is written, then CMD. -/
def nextReq (path : Path) (op : Nat) (ver : Bool) (cursor : Word) (s : Sys) : Sys :=
  request path 0x3020 0 0
    (fun t => tableCmd path ({ op, ver, mode := false, scope := 0, index := 0 } : TblCmd).word {} .failed
      (t.modSlot .table path fun sl => { sl with cursor := cursorOf cursor })) s

/-- EM_NEXT (R138). -/
def execEmNext (path : Path) (ver : Bool) (cursor : Word) (s : State) : Host.Outcome State Fault Refusal :=
  .next (s.onSys (nextReq path 4 ver cursor))

/-- LPM_INSERT (R122). -/
def execLpmInsert (path : Path) (ver : Bool) (pfx result flags : Word) (s : State) : Host.Outcome State Fault Refusal :=
  .next (s.onSys (tableReq path { op := 5, ver, mode := false, scope := 0, index := 0 }
    [(0, pfx), (1, result), (2, flags)] {} .failed))

/-- LPM_DELETE (R122). -/
def execLpmDelete (path : Path) (ver : Bool) (pfx len : Word) (s : State) : Host.Outcome State Fault Refusal :=
  .next (s.onSys (tableReq path { op := 6, ver, mode := false, scope := 0, index := 0 } [(0, pfx), (2, len)] {} .failed))

/-- LPM_SEARCH (R137). -/
def execLpmSearch (path : Path) (ver longest : Bool) (gei len : Word) (s : State) : Host.Outcome State Fault Refusal :=
  .next (s.onSys (tableReq path { op := 7, ver, mode := longest, scope := 0, index := 0 } [(0, gei), (2, len)] {} .failed))

/-- LPM_NEXT (R138). -/
def execLpmNext (path : Path) (ver : Bool) (cursor : Word) (s : State) : Host.Outcome State Fault Refusal :=
  .next (s.onSys (nextReq path 8 ver cursor))

/-- GROUP_WRITE (R123). -/
def execGroupWrite (path : Path) (ver : Bool) (index : BitVec 16) (valid : Word) (bitmap : List Word) (s : State) :
    Host.Outcome State Fault Refusal :=
  .next (s.onSys (tableReq path { op := 9, ver, mode := false, scope := 0, index := index.toNat }
    ((0, valid) :: argsFrom1 bitmap) {} .failed))

/-- GROUP_READ (R133). -/
def execGroupRead (path : Path) (ver : Bool) (index : BitVec 16) (s : State) : Host.Outcome State Fault Refusal :=
  .next (s.onSys (tableReq path { op := 10, ver, mode := false, scope := 0, index := index.toNat } [] {} .failed))

/-- SPRAY_WRITE (R86). -/
def execSprayWrite (path : Path) (ver : Bool) (index : BitVec 16) (slots : List Word) (s : State) :
    Host.Outcome State Fault Refusal :=
  .next (s.onSys (tableReq path { op := 11, ver, mode := false, scope := 0, index := index.toNat }
    (argsFrom1 slots) {} .failed))

/-- SPRAY_READ (R133). -/
def execSprayRead (path : Path) (ver : Bool) (index : BitVec 16) (s : State) : Host.Outcome State Fault Refusal :=
  .next (s.onSys (tableReq path { op := 12, ver, mode := false, scope := 0, index := index.toNat } [] {} .failed))

/-- FLUSH_BY_PORT (R140). -/
def execFlushByPort (path : Path) (ver : Bool) (port : BitVec 16) (scope : BitVec 4) (s : State) :
    Host.Outcome State Fault Refusal :=
  .next (s.onSys (tableReq path { op := 13, ver, mode := false, scope, index := port.toNat } [] {} .failed))

/-- VERSION_CLEAR (R143). -/
def execVersionClear (path : Path) (ver : Bool) (s : State) : Host.Outcome State Fault Refusal :=
  .next (s.onSys (tableReq path { op := 14, ver, mode := false, scope := 0, index := 0 } [] {} .failed))

/-- VERSION_COPY (R144). -/
def execVersionCopy (path : Path) (target : Bool) (s : State) : Host.Outcome State Fault Refusal :=
  .next (s.onSys (tableReq path { op := 15, ver := target, mode := false, scope := 0, index := 0 } [] {} .failed))

/-- BULK_LOAD (R146). -/
def execBulkLoad (path : Path) (ver : Bool) (handle count : Word) (host : Dma) (s : State) :
    Host.Outcome State Fault Refusal :=
  .next (s.onSys (tableReq path { op := 16, ver, mode := false, scope := 0, index := 0 }
    [(0, handle), (1, count)] s.stores host))

/-- FILTER_READ (R133). -/
def execFilterRead (path : Path) (ver : Bool) (index : BitVec 16) (s : State) : Host.Outcome State Fault Refusal :=
  .next (s.onSys (tableReq path { op := 17, ver, mode := false, scope := 0, index := index.toNat } [] {} .failed))

/-! ## The steps of a long command (04 R128, R140-R147) -/

/-- Step number of a position within a walk: one bucket of four slots or one overflow slot (04 R128). -/
def stepOf (r : Regions) (pos : Nat) : Nat := if pos < r.ovf then pos / 4 else r.ovf / 4 + (pos - r.ovf)

/-- Steps of a walk over a table. -/
def stepsOf (r : Regions) : Nat := r.ovf / 4 + (r.stop - r.ovf)

/-- First step of each structure in a walk over exact match, LPM, spray sets and groups, and the end; a structure outside
SCOPE takes no step (04 R140). -/
def walkStarts (scope : BitVec 4) : List Nat :=
  let n (i k : Nat) : Nat := if scope.getLsbD i then k else 0
  let a := n 0 (stepsOf emRegions)
  let b := a + n 1 (stepsOf lpmRegions)
  let c := b + n 2 16384
  [0, a, b, c, c + n 3 65536]

/-- Entries of a sparse table whose step lies in `lo`..`hi - 1`, where the structure starts at step `base`. -/
def inSteps {α : Type} (t : Sparse α) (step : Nat → Nat) (base lo hi : Nat) : Sparse α :=
  t.filter fun e => lo ≤ base + step e.1 && base + step e.1 < hi

/-- Writes of a flush in a range of steps, and its four counts. -/
def flushSteps (l : LongJob) (v : Version) (lo hi : Nat) : List TblWrite × List Nat :=
  let st := walkStarts l.scope
  let on (i : Nat) : Bool := l.scope.getLsbD i
  let em := if on 0 then (inSteps v.em (stepOf emRegions) 0 lo hi).filter fun e => refersTo e.2.result l.port else []
  let lp := if on 1 then (inSteps v.lpm (stepOf lpmRegions) (nth st 1 0) lo hi).filter fun e => refersTo e.2.result l.port
    else []
  let sp := if on 2 then (inSteps v.spray id (nth st 2 0) lo hi).filter fun e => e.2.any fun x => slotRefers x l.port else []
  let gr := if on 3 then (inSteps v.groups id (nth st 3 0) lo hi).filter fun e => e.2.valid && e.2.ports.getLsbD l.port
    else []
  (em.map (fun e => .em l.ver e.1 none) ++ lp.map (fun e => .lpm l.ver e.1 none) ++
      sp.map (fun e => .spray l.ver e.1 (e.2.map fun x => if slotRefers x l.port then 0 else x)) ++
      gr.map (fun e => .group l.ver e.1 { e.2 with ports := e.2.ports &&& ~~~(1#1024 <<< l.port) }),
   [em.length, lp.length, sum (sp.map fun e => (e.2.filter fun x => slotRefers x l.port).length), gr.length])

/-- Writes of a clear in a range of steps. -/
def clearSteps (l : LongJob) (v : Version) (lo hi : Nat) : List TblWrite :=
  let st := walkStarts 15
  (inSteps v.em (stepOf emRegions) 0 lo hi).map (fun e => .em l.ver e.1 none) ++
    (inSteps v.lpm (stepOf lpmRegions) (nth st 1 0) lo hi).map (fun e => .lpm l.ver e.1 none) ++
    (inSteps v.spray id (nth st 2 0) lo hi).map (fun e => .spray l.ver e.1 []) ++
    (inSteps v.groups id (nth st 3 0) lo hi).map (fun e => .group l.ver e.1 {})

/-- One write of a long command is taken up. -/
def Tables.push (w : TblWrite) (t : Tables) : Tables := { t with inflight := t.inflight ++ [{ write := w }] }

/-- The copy of one item: its write under the target's seed, or a failed placement (04 R144). -/
def copyOne (b : Bool) (x : EmEntry ⊕ LpmEntry) (t : Tables) : Option Tables :=
  match x with
  | .inl e => ((t.seqVer b).emPlace e).map fun p => t.push (.em b p (some e))
  | .inr e => ((t.seqVer b).lpmPlace e).map fun p => t.push (.lpm b p (some e))

/-- Entries are copied one by one until one finds no place: the tables, the entries copied, and whether all were. -/
def copyEntries (b : Bool) : List (EmEntry ⊕ LpmEntry) → Nat → Tables → Tables × Nat × Bool
  | [], n, t => (t, n, true)
  | x :: r, n, t =>
    match copyOne b x t with
    | some u => copyEntries b r (n + 1) u
    | none => (t, n, false)

/-- One bulk record (04 Table 04-10): its write, or the abort code with which it fails (04 R116, R117, R147). -/
def bulkRecord (b : Bool) (r : List Byte) (jobs : List LongJob) (t : Tables) : Except Word TblWrite :=
  let op := beAt r 0 1
  let len := beAt r 3 1 % 64
  let rsv := beAt r 1 2 * 4 + beAt r 3 1 / 64
  let key := wordAt r 4
  let result := wordAt r 8
  let lpm := op == 5 || op == 6
  let del := op == 2 || op == 6
  let v := t.seqVer b
  if !([1, 2, 5, 6].contains op) || rsv != 0 || wordAt r 12 != 0 || (!lpm && len != 0) || (del && result != 0) ||
      (!del && !resultOk result) || (lpm && !prefixOk key len) then .error tblBadarg
  else if jobs.any fun l => l.blocks b op result [] {} then .error tblBusy
  else
    match op with
    | 1 =>
      match v.emPlace { key, result := resultOf result } with
      | some p => .ok (.em b p (some { key, result := resultOf result }))
      | none => .error tblFull
    | 2 => .ok (match v.emFind key with | some e => .em b e.1 none | none => .none)
    | 5 =>
      match v.lpmPlace { pfx := key, len, result := resultOf result } with
      | some p => .ok (.lpm b p (some { pfx := key, len, result := resultOf result }))
      | none => .error tblFull
    | _ => .ok (match v.lpmFind key len with | some e => .lpm b e.1 none | none => .none)

/-- Bulk records from `i`, at most `n`: the tables, the records applied, and the code of a record that failed. -/
def bulkSteps (l : LongJob) (data : List Byte) (jobs : List LongJob) : Nat → Nat → Tables → Tables × Nat × Word
  | 0, i, t => (t, i, 0)
  | n + 1, i, t =>
    if l.count ≤ i then (t, i, 0)
    else
      match bulkRecord l.ver (bytesAt data (16 * i) 16) jobs t with
      | .error c => (t, i, c)
      | .ok .none => bulkSteps l data jobs n (i + 1) t
      | .ok w => bulkSteps l data jobs n (i + 1) (t.push w)

/-- The running long command ends: its slot leaves BUSY when its writes are complete. -/
def Tables.endLong (l : LongJob) (rest : List LongJob) (status abort : Word) (res : List (Nat × Word)) (t : Tables) : Tables :=
  { t with
    long := { l with finished := true } :: rest
    inflight := t.inflight ++ [{ write := .none, owner := some (l.path, status, abort, res) }] }

/-- `n` steps of the running long command; a copy takes the exact-match entries by position, then the LPM entries (04 R144; log
166). With both Colliers lost no sequencer runs (04 R124, 18 R526). -/
def Sys.longSteps (n : Nat) (s : Sys) : Sys :=
  match s.tab.long with
  | [] => s
  | l :: rest =>
    if l.finished ∨ s.boot.bothLost then s
    else
      let lo := l.pos
      let hi := l.pos + n
      let v := s.tab.seqVer l.ver
      match l.op.toNat with
      | 13 =>
        let r := flushSteps l v lo hi
        let counts := (List.range 4).map fun i => nth l.counts i 0 + nth r.2 i 0
        let l1 := { l with pos := hi, counts }
        let stop := nth (walkStarts l.scope) 4 0
        s.modTab fun t =>
          let t1 := { r.1.foldl (fun t w => t.push w) t with long := l1 :: rest }
          if hi < stop then t1
          else t1.endLong l1 rest 2 0 ((List.range 4).map fun i => (i, BitVec.ofNat 32 (nth counts i 0)))
      | 14 =>
        let w := clearSteps l v lo hi
        let l1 := { l with pos := hi }
        let stop := nth (walkStarts 15) 4 0
        s.modTab fun t =>
          let t1 := { w.foldl (fun t w => t.push w) t with long := l1 :: rest }
          if hi < stop then t1 else t1.endLong l1 rest 2 0 []
      | 15 =>
        let st := walkStarts 15
        let src := s.tab.seqVer (!l.ver)
        let es : List (EmEntry ⊕ LpmEntry) :=
          (inSteps src.em (stepOf emRegions) 0 lo hi).map (fun e => .inl e.2) ++
            (inSteps src.lpm (stepOf lpmRegions) (nth st 1 0) lo hi).map (fun e => .inr e.2)
        let r := copyEntries l.ver es (nth l.counts 0 0) s.tab
        let sp := (inSteps (v.spray.map fun e => (e.1, src.sprayOf e.1)) id (nth st 2 0) lo hi) ++
          inSteps src.spray id (nth st 2 0) lo hi
        let gr := (inSteps (v.groups.map fun e => (e.1, getD src.groups e.1 {})) id (nth st 3 0) lo hi) ++
          inSteps src.groups id (nth st 3 0) lo hi
        let l1 := { l with pos := hi, counts := [r.2.1, 0, 0, 0] }
        let res := [(0, BitVec.ofNat 32 r.2.1)]
        s.modTab fun _ =>
          if r.2.2 then
            let t1 := sp.foldl (fun t e => t.push (.spray l.ver e.1 e.2)) r.1
            let t2 := { gr.foldl (fun t e => t.push (.group l.ver e.1 e.2)) t1 with long := l1 :: rest }
            if hi < nth st 4 0 then t2 else t2.endLong l1 rest 2 0 res
          else r.1.endLong l1 rest 5 tblFull res
      | _ =>
        let data := match l.host with | .data d => d | .failed => []
        let r := bulkSteps l data rest n l.pos s.tab
        let l1 := { l with pos := r.2.1 }
        let res := [(0, BitVec.ofNat 32 r.2.1)]
        let s1 := s.modTab fun _ =>
          if r.2.2 ≠ 0 then r.1.endLong l1 rest 5 r.2.2 res
          else if l.count ≤ r.2.1 then r.1.endLong l1 rest 2 0 res
          else { r.1 with long := l1 :: rest }
        if r.2.2 = tblFull then s1.countFull l.ver else s1

/-- TABLE_SEQUENCER_STEP (R128). -/
def execTableSequencerStep (steps : Nat) (s : State) : Host.Outcome State Fault Refusal :=
  .next (s.onSys (Sys.longSteps steps))

/-! ## TABLE_WRITE_COMPLETE -/

/-- Writes in flight up to the first that ends a command, and those behind it. -/
def splitOwner : List InFlight → List InFlight × Option InFlight × List InFlight
  | [] => ([], none, [])
  | w :: r => if w.owner.isSome then ([], some w, r) else let x := splitOwner r; (w :: x.1, x.2)

/-- Every working port die has applied the oldest writes: they complete in order, and the command that the last of them
ends leaves BUSY (04 R124, R125, R144; 18 R544). With both Colliers lost the tables stay as they are (18 R526). -/
def Sys.writeComplete (s : Sys) : Sys :=
  if s.boot.bothLost then s
  else
    let x := splitOwner s.tab.inflight
    let head := x.1 ++ x.2.1.toList
    let s1 := (s.modTab fun t => { t.applyAll head with inflight := x.2.2 }).event 20 0x41 0
      (head.filter fun w => w.write != .none).length
    match x.2.1.bind InFlight.owner with
    | none => s1
    | some (path, status, abort, res) =>
      let s2 := s1.modTab fun t => { t with long := t.long.filter fun l => !(l.finished && l.path == path) }
      s2.finishTable path status abort res

/-- TABLE_WRITE_COMPLETE (R125). -/
def execTableWriteComplete (s : State) : Host.Outcome State Fault Refusal := .next (s.onSys Sys.writeComplete)

end Sys2Proof.Machine
end

