-- ==== Sys2Proof/Machine/Coll.lean ====
section
/-! DEFINITION. Reduce contributions, results, resend requests and timeouts (06, 07), and the collective command object
with the job commands (07 R257-R262, R644). -/

namespace Sys2Proof.Machine

/-! ## Contributions (07 R234, R235) -/

/-- What Table 07-5 makes of a contribution. -/
inductive Verdict where
  | drop (code : Word) (notice : Bool)
  /-- The deckle word of a matched slot differs (check 4). -/
  | deckle (slot : Nat)
  /-- A completed tile, answered from the result store (R235). -/
  | answer (slot : Nat)
  | duplicate
  | takeIn (slot : Nat)
  deriving DecidableEq, Repr

/-- The slot of a contribution: GEI, MEMBER and the bit of its tree (check 3). -/
def Ctx.slotOf (x : Ctx) (sgei : Word) (c : CollExt) : Option Nat :=
  x.members.findIdx? fun m => m.gei == sgei && m.member.toNat == c.member && m.inTree c.tree

/-- A slot is a child slot. -/
def Ctx.isChild (x : Ctx) (i : Nat) : Bool := match x.members[i]? with | some m => m.child | none => false

/-- A contribution of a slot comes in EPF parts (07 R241). -/
def Ctx.inParts (x : Ctx) (i : Nat) : Bool := x.isChild i && x.desc.arith.epf

/-- NPARTS of earlier parts of the same tile and slot. -/
def Ctx.partsOf (x : Ctx) (t i : Nat) : Option Parts := get? (x.tile t).parts i

/-- Check 8. -/
def Ctx.formatOk (x : Ctx) (i : Nat) (c : CollExt) (data : List Byte) : Bool :=
  if x.inParts i then
    c.fmt == 15 && (PartHead.of data).ok x.desc.arith.nelem.toNat ((x.partsOf c.tile i).map Parts.nparts)
  else c.fmt == x.desc.arith.ifmt.toNat

/-- Check 9 (06 R193). -/
def Ctx.lengthOk (x : Ctx) (i plen : Nat) (data : List Byte) : Bool :=
  plen == if x.inParts i then (PartHead.of data).len else tileBytes x.desc.arith.ifmt.toNat x.desc.arith.nelem.toNat

/-- Check 10 fails: the slot's bit, or the part's bit, is set, or the tile has completed. -/
def Ctx.isDup (x : Ctx) (i : Nat) (c : CollExt) (data : List Byte) : Bool :=
  x.ahead.contains c.tile || (x.tile c.tile).bits.contains i ||
    (x.inParts i && (match x.partsOf c.tile i with | some p => p.got.contains (PartHead.of data).part | none => false))

/-- Checks 2-10 of Table 07-5 for a context that is ACTIVE, COMPLETE or CLOSING (07 R234, R235). -/
def Ctx.verdict (x : Ctx) (p : Pkt) (c : CollExt) : Verdict :=
  let loud := x.st != .closing
  if p.jtag ≠ x.desc.jtag ∨ p.jgen ≠ x.desc.jgen then .drop collJob loud
  else
    match x.slotOf p.sgei c with
    | none => .drop collMember loud
    | some i =>
      let low := x.low
      let w := x.desc.w.toNat
      if c.deckle ≠ x.deckle then (if x.st = .active then .deckle i else .drop collDeckle loud)
      else if x.excl.contains i then .drop collExcluded false
      else if !x.inScope c.tile then .drop collTile loud
      else if x.st ≠ .active then
        if c.tile < low ∧ low ≤ c.tile + w ∧ (get? x.results c.tile).isSome then .answer i else .drop collStale loud
      else if c.tile < low then
        if low ≤ c.tile + w ∧ (get? x.results c.tile).isSome then .answer i else .drop collStale true
      else if low + w ≤ c.tile then .drop collWindow true
      else if !x.formatOk i c p.payload then .drop collFormat true
      else if !x.lengthOk i p.plen.toNat p.payload then .drop vatLength true
      else if x.isDup i c p.payload then .duplicate
      else .takeIn i

/-- A contribution that is admitted enters the tile: the tile after it, and the escapes and ignored records. -/
def Ctx.addTo (x : Ctx) (i : Nat) (c : CollExt) (data : List Byte) : Tile × Nat × Nat :=
  let a := x.desc.arith
  let t := x.tile c.tile
  if x.inParts i then
    let h := PartHead.of data
    let r := a.addPart h data t
    let old := (get? t.parts i).getD { nparts := h.nparts }
    let got := insertNat h.part old.got
    let parts := put t.parts i { old with got, excl := h.excl, msr := old.msr || c.msr }
    ({ t with elems := r.elems, parts, bits := if got.length = h.nparts then insertNat i t.bits else t.bits },
     r.escapes, r.ignored)
  else
    let m := match x.members[i]? with | some m => if m.child then 1 else gfWeight m.member.toNat | none => 1
    let u := a.addTile m data t
    let esc := if x.isChild i then 0 else a.escapeCount data t
    ({ u with bits := insertNat i t.bits, msr := if x.isChild i then put t.msr i c.msr else t.msr },
     if x.isChild i then a.escapeCount data t else esc, 0)

/-- New records that a contribution draws from the unreserved part of the escape store (06 R201, R202): none for the lowest
tile within its reserve. -/
def Ctx.needs (x : Ctx) (t : Tile) (tile : Nat) : Nat :=
  if tile = x.low then (t.records - x.escape) - ((x.tile tile).records - x.escape)
  else t.records - (x.tile tile).records

/-- A Vat adds an admitted contribution; a failed check resets the tile, and a tile with every bit set completes (06 R199,
R215; 07 R239, R241, R254). Each admitted packet counts as one contribution added (06 R220; log 168). -/
def Sys.addContribution (core : Nat) (vat : VatCheck) (c i : Nat) (e : CollExt) (head : List Byte) (t : Tile)
    (escapes ignored port : Nat) (s : Sys) : Sys :=
  let s1 := (s.wrote (.header c i)).modCtx c fun x =>
    { x with
      tiles := put x.tiles e.tile t
      header := put x.header i head
      headerPort := put x.headerPort i port
      resent := if e.rt then s.bump x.resent else x.resent }
  let s2 := s1.modColl fun k => if s.cnt.frozen then k else
    { k with
      added := modify k.added core 0 (· + 1)
      escapes := modify k.escapes core 0 (· + BitVec.ofNat 64 escapes) }
  let s3 := ((s2.event (16 + core) 0x20 0 1).event (16 + core) 0x21 0 escapes).count 0x9011 0 itemRecordIgnored ignored
  match vat with
  | .passed => s3
  | .residueFailed => (s3.resetTile c e.tile 1).vatFailed core (s.vatOf c e.tile) 1
  | .duplicateFailed => (s3.resetTile c e.tile 2).vatFailed core (s.vatOf c e.tile) 2

/-- A tile that has every bit, and that this module has not sent, is finished. -/
def Sys.finishIfReady (c tile : Nat) (s : Sys) : Sys :=
  match s.ctx c with
  | some x =>
    if x.st == .active && (get? x.tiles tile).isSome && x.ready tile && (x.tile tile).sent.isNone then
      (s.finishTile c tile).finishWindow c
    else s
  | none => s

/-- HBM traffic of an escaping contribution: a 64-byte read and a 64-byte write of its long accumulator (06 R219, 17 Table
17-5). -/
abbrev escapeBytes : Nat := 128

/-- Tokens for `n` escaping contributions of a core die: its floor, then the escapes above it, which a die without a grant does
not get (17 R505, 01 R30); none when they do not suffice. -/
def Sys.spendEsc (core n : Nat) (s : Sys) : Option Sys :=
  let need := escapeBytes * n
  let floor := nth s.hearth.tokFloor core 0
  let top := if s.hearth.noGrant.contains (16 + core) then 0 else s.tokens .escape
  if floor + top < need then none
  else some ((s.spend .escape (need - floor)).modHearth fun h => { h with tokFloor := setNth h.tokFloor core (floor - need) })

/-- What a delivered contribution does. `waits`: it needs a record that the escape store cannot give (06 R202), or tokens for
the store's traffic (01 R28). -/
inductive Taken where
  | consumed (s : Sys)
  | waits

/-- A contribution at its home core die (07 R234): the checks, the payload check of R45, then the addition. `finish` says
what completes a full tile. A contribution finds only contexts that reduce, a parity packet only contexts that a vault
node opened (`vault`). -/
def Sys.takeContribution (core : Nat) (vat : VatCheck) (vault : Bool) (d : Delivery) (finish : Nat → Nat → Sys → Sys)
    (s : Sys) : Taken :=
  match d.pkt.coll with
  | none => .consumed (s.dropDelivered core collFormat true d)
  | some e =>
    match (s.ctx e.ctx).filter fun x => x.parity.isSome == vault with
    | none => .consumed (s.dropDelivered core collNoctx true d)
    | some x =>
      match x.st with
      | .aborted => .consumed (s.dropDelivered core collAborted true d)
      | .stale => .consumed (s.dropDelivered core collState false d)
      | _ =>
        match x.verdict d.pkt e with
        | .drop code notice =>
          .consumed (s.dropDelivered core (if x.st = .closing then collState else code) notice d)
        | .deckle i =>
          .consumed (((s.dropDelivered core collDeckle false d).abortCtx e.ctx collDeckle i e.deckle e.tile))
        | .answer i =>
          match get? x.results e.tile, x.members[i]? with
          | some r, some m => .consumed (s.sendResult x e.tile r.1 r.2 (some m))
          | _, _ => .consumed s
        | .duplicate => .consumed (s.modCtx e.ctx fun x => { x with dup := s.bump x.dup })
        | .takeIn i =>
          if !s.crcOf d then .consumed (s.dropDelivered core fwdPayload false d)
          else
            let r := x.addTo i e d.pkt.payload
            match (if s.escFree < x.needs r.1 e.tile then none else s.spendEsc core r.2.1) with
            | none => .waits
            | some s =>
              .consumed (finish e.ctx e.tile
                (s.addContribution core vat e.ctx i e (s.headOf d) r.1 r.2.1 r.2.2 (s.portOf d)))

/-- The Vats of a core die take in work: the die is not lost, at least one is in service and the Vat level is not 0 (06 R217,
R219; 01 R30, R34). -/
def Sys.vatsRun (core : Nat) (s : Sys) : Bool :=
  !s.boot.lostDies.contains (16 + core) && !(s.vats core).isEmpty && nth s.hearth.vatLevel core 0 != 0

/-- A reduce contribution or a partial part reaches its home core die. -/
def Sys.contribution (core : Nat) (vat : VatCheck) (s : Sys) : Sys :=
  if !s.vatsRun core then s
  else
    match s.takeDelivery fun d => d.svc == 1 && d.core == core && d.pkt.kind == 2 with
    | none => s
    | some (d, t) =>
      match t.takeContribution core vat false d Sys.finishIfReady with
      | .consumed u => (u.consume d).settle
      | .waits => t.modColl fun k => { k with waiting := modify k.waiting core [] (· ++ [d]) }

/-- CONTRIBUTION_RECEIVE (R234). -/
def execContributionReceive (core : Core) (vat : VatCheck) (s : State) : Host.Outcome State Fault Refusal :=
  .next (s.onSys (Sys.contribution core.toNat vat))

/-- A delivery is for the lowest incomplete tile of its context, which never waits for a record (06 R202). -/
def Sys.forLowest (d : Delivery) (s : Sys) : Bool :=
  match d.pkt.coll with
  | some e => (match s.ctx e.ctx with | some x => e.tile == x.low | none => false)
  | none => false

/-- The first contribution that waits at a core die's Vat input is tried again; while it still needs a record, the first one
behind it whose tile is now its context's lowest incomplete tile goes in its place (06 R202). -/
def Sys.vatResume (core : Nat) (vat : VatCheck) (s : Sys) : Sys :=
  let q := getD s.coll.waiting core []
  let go (d : Delivery) : Option Sys :=
    match s.takeContribution core vat false d Sys.finishIfReady with
    | .consumed u => some ((u.modColl fun k => { k with waiting := put k.waiting core (q.erase d) }).consume d).settle
    | .waits => none
  if !s.vatsRun core then s
  else ((q.head?.bind go).orElse fun _ => (q.find? s.forLowest).bind go).getD s

/-- VAT_INPUT_RESUME (R202). -/
def execVatInputResume (core : Core) (vat : VatCheck) (s : State) : Host.Outcome State Fault Refusal :=
  .next (s.onSys (Sys.vatResume core.toNat vat))

/-- A notice waiting for a token of the bucket of PD4n leaves (07 R253): the cache of R108 does not hold it back. -/
def Sys.abortNotice (core : Nat) (s : Sys) : Sys :=
  match getD s.coll.notices core [] with
  | [] => s
  | n :: rest =>
    let die := 4 * core
    let p := s.ownPkt 5 8 6 n.gei 0 0 (errorPayload n.code (s.ownGei 5) n.time n.port n.head)
    if s.bucket die = 0 ∨ !s.clk.valid ∨ !s.origRoom core p.len then s
    else
      (((s.modColl fun k => { k with notices := put k.notices core rest }).modFwd fun f =>
          { f with bucket := put f.bucket die (s.bucket die - 1) }).count 0x9012 die 0 1).originate core p

/-- ABORT_NOTICE_SEND (R253). -/
def execAbortNoticeSend (core : Core) (s : State) : Host.Outcome State Fault Refusal :=
  .next (s.onSys (Sys.abortNotice core.toNat))

/-! ## Results, resend requests, timeouts (07 R236-R242) -/

/-- The packet is the context's: tag, generation and deckle word (07 R242). -/
def Ctx.owns (x : Ctx) (p : Pkt) (e : CollExt) : Bool :=
  p.jtag == x.desc.jtag && p.jgen == x.desc.jgen && e.deckle == x.deckle

/-- A result reaches an interior module: the tile completes (07 R242). -/
def Sys.resultReceive (core : Nat) (s : Sys) : Sys :=
  match s.takeDelivery fun d => d.svc == 1 && d.core == core && d.pkt.kind == 3 && d.pkt.plen != 0 with
  | none => s
  | some (d, t) =>
    let ignored := t.tally itemResultIgnored (t.portOf d)
    let u :=
      if !t.crcOf d then t.dropDelivered core fwdPayload false d
      else
        match d.pkt.coll with
        | none => ignored
        | some e =>
          match t.ctx e.ctx with
          | none => ignored
          | some x =>
            if x.st == .active && x.owns d.pkt e && x.desc.role (x.desc.tree e.tile) == 2 && x.inScope e.tile &&
                x.low ≤ e.tile && e.tile < x.low + x.desc.w.toNat && !x.ahead.contains e.tile then
              (t.completeTile e.ctx e.tile d.pkt.payload e.msr).finishWindow e.ctx
            else ignored
    (u.consume d).settle

/-- REDUCE_RESULT_RECEIVE (R242). -/
def execReduceResultReceive (core : Core) (s : State) : Host.Outcome State Fault Refusal :=
  .next (s.onSys (Sys.resultReceive core.toNat))

/-- A resend request reaches an interior module: it resends its whole partial of a tile that has completed locally
(07 R237). -/
def Sys.resendRequest (core : Nat) (s : Sys) : Sys :=
  match s.takeDelivery fun d => d.svc == 1 && d.core == core && d.pkt.kind == 3 && d.pkt.plen == 0 with
  | none => s
  | some (d, t) =>
    let u :=
      match d.pkt.coll with
      | none => t
      | some e =>
        match t.ctx e.ctx with
        | none => t
        | some x =>
          match (x.tile e.tile).sent with
          | some (_, n) =>
            if x.st == CtxSt.active && x.owns d.pkt e then
              (t.sendPartial x e.tile true).modCtx e.ctx fun x =>
                { x with tiles := update x.tiles e.tile fun y => { y with sent := some (t.clk.ext, n) } }
            else t
          | none => t
    u.consume d

/-- RESEND_REQUEST_RECEIVE (R237). -/
def execResendRequestReceive (core : Core) (s : State) : Host.Outcome State Fault Refusal :=
  .next (s.onSys (Sys.resendRequest core.toNat))

/-- TTO has passed since an interior module last sent its partial: it resends, at most 8 times, and then reports (07 R236). -/
def Sys.tileTimeout (c tile : Nat) (s : Sys) : Sys :=
  match s.ctx c with
  | none => s
  | some x =>
    match (x.tile tile).sent with
    | none => s
    | some (at0, n) =>
      if x.st ≠ .active ∨ 9 ≤ n then s
      else
        let t := s.toExt (at0 + BitVec.ofNat 64 (x.desc.tto.toNat * 1000))
        let mark (m : Nat) (u : Sys) : Sys := u.modCtx c fun x =>
          { x with tiles := update x.tiles tile fun y => { y with sent := some (u.clk.ext, m) } }
        if n < 8 then mark (n + 1) (t.sendPartial x tile true)
        else
          mark 9 (t.faultUnit faultCollNoresult (16 + c % 4)
            [0, 0, BitVec.ofNat 32 tile, BitVec.ofNat 32 (x.desc.jtag.toNat * 65536 + c)])

/-- TILE_TIMEOUT (R236). -/
def execTileTimeout (ctx : BitVec 14) (tile : Word) (s : State) : Host.Outcome State Fault Refusal :=
  .next (s.onSys (Sys.tileTimeout ctx.toNat tile.toNat))

/-- L of an ACTIVE context has not changed for STALL ms (07 R238). -/
def Sys.stall (c : Nat) (s : Sys) : Sys :=
  match s.ctx c with
  | some x =>
    if x.st = .active then
      ((s.toMono (x.moved + x.desc.stall.toNat * 1000000)).abortCtx c collStall Config.noSlot.toNat 0 x.low).settle
    else s
  | none => s

/-- CONTEXT_STALL (R238). -/
def execContextStall (ctx : BitVec 14) (s : State) : Host.Outcome State Fault Refusal := .next (s.onSys (Sys.stall ctx.toNat))

/-- One drain bound after CTX_CLOSE a context is FREE (07 Table 07-4). -/
def Sys.closeExpire (c : Nat) (s : Sys) : Sys :=
  match s.ctx c with
  | some { st := .closing, closing := some i, .. } => (s.toEnd i).modColl fun k => { k with ctx := del k.ctx c }
  | _ => s

/-- CTX_CLOSE_EXPIRE (R230). -/
def execCtxCloseExpire (ctx : BitVec 14) (s : State) : Host.Outcome State Fault Refusal :=
  .next (s.onSys (Sys.closeExpire ctx.toNat))

/-- The context whose own partial part an error notice echoes (07 R255, Table 07-6). -/
def Sys.echoed (head : List Byte) (s : Sys) : Option Nat :=
  let p := Pkt.parse head
  let c := p.flow.toNat
  match s.ctx c with
  | some x =>
    if p.kind = 2 ∧ p.sgei = s.ownGei 5 ∧ s.nv.coordValid ∧ p.jtag = x.desc.jtag ∧ p.jgen = x.desc.jgen then some c else none
  | none => none

/-- An error notice reaches the notice sink: an abort upstream aborts the context that it is about (07 R255). -/
def Sys.errorNoticeReceive (s : Sys) : Sys :=
  match s.takeDelivery fun d => d.svc == 5 && d.pkt.kind == 8 with
  | none => s
  | some (d, t) =>
    let code := wordAt d.pkt.payload 0
    let u :=
      if code = collAborted ∨ code = collDeckle ∨ code = collStall then
        match t.echoed (bytesAt d.pkt.payload 16 32) with
        | some c => t.abortCtx c collUpstream Config.noSlot.toNat 0 (wordAt d.pkt.payload 32).toNat
        | none => t
      else t
    (u.consume d).settle

/-- ERROR_NOTICE_RECEIVE (R255). -/
def execErrorNoticeReceive (s : State) : Host.Outcome State Fault Refusal := .next (s.onSys Sys.errorNoticeReceive)

/-! ## Jobs (07 R257-R259) -/

/-- A job record is written. -/
def Sys.setJob (tag : Nat) (r : JobRec) (s : Sys) : Sys := s.modFwd fun f => { f with jobs := put f.jobs tag r }

/-- What a flush makes of a Quire slot of the tag (10 Table 10-4): staged stripes go, an update leaves READY, a rebuild
DEGRADED; a deactivation frees it once nothing runs (10 R350). -/
def Sys.flushQuire (q : Nat) (deactivate : Bool) (s : Sys) : Sys :=
  let s1 := s.rebuildFails q 0
  (s1.modQuire q fun x =>
      { x with
        updates := [], staged := [], shadow := []
        st := if x.st == .updating then .ready else x.st
        freeWhenIdle := x.freeWhenIdle || deactivate }).freeIdleQuire q

/-- A flush of a tag: everything bound to an older generation becomes STALE (07 R258; 05 R180; 08 R292; 09 R325; 10 R341).
`gen`: the new generation; none when the whole tag ends (R259). -/
def Sys.flushJob (path : Path) (tag : BitVec 16) (gen : Option (BitVec 8)) (s : Sys) : Sys :=
  let old (t : BitVec 16) (g : BitVec 8) : Bool := t == tag && (match gen with | some n => g != n | none => true)
  let s1 := match gen with | some n => s.setJob tag.toNat { active := true, gen := n } | none => s
  let ctxs := s1.coll.ctx.filter fun e => old e.2.desc.jtag e.2.desc.jgen && e.2.st != .stale
  let flows := s1.flows.ctx.filter fun e => old e.2.jtag e.2.jgen && e.2.st != .stale
  let quires := (s1.vault.slot.filter fun e => e.2.jtag == tag).map fun e => e.1
  let s2 := quires.foldl (fun t q => t.flushQuire q gen.isNone) s1
  let s3 := s2.modColl fun k =>
    { k with
      ctx := k.ctx.map fun e => (e.1, if old e.2.desc.jtag e.2.desc.jgen then { e.2 with st := .stale, tiles := [] } else e.2)
      flushes := k.flushes ++
        [{ jtag := tag, path, ctxs := ctxs.length, flows := flows.length, deactivate := gen.isNone }] }
  let s4 := s3.modFlows fun f =>
    { f with ctx := f.ctx.map fun e => (e.1, if old e.2.jtag e.2.jgen then { e.2 with st := .stale } else e.2) }
  let stop (n : Node) : Node :=
    if n.st == .pending || n.st == .ready || n.st == .running then { n with st := .cancelled } else n
  let s5 := s4.modGraphs fun g =>
    { g with
      graph := g.graph.map fun e =>
        (e.1, if old e.2.jtag e.2.jgen then { e.2 with st := .stale, nodes := e.2.nodes.map stop } else e.2) }
  s5.modBc fun b =>
    { b with objs := b.objs.map fun o => if old o.jtag o.jgen then { o with st := .stale } else o }

/-- The reclaim of a flush has ended: what was STALE is FREE, the command is DONE, and a deactivated tag is inactive. -/
def Sys.reclaimDone (tag : BitVec 16) (s : Sys) : Sys :=
  match s.coll.flushes.find? fun f => f.jtag == tag with
  | none => s
  | some f =>
    let gone := (s.graphs.graph.filter fun e => e.2.st == .stale && e.2.jtag == tag).map fun e => e.1
    let s1 := gone.foldl (fun t g => t.freeGraph g) s
    let flows := (s1.flows.ctx.filter fun e => e.2.st == .stale && e.2.jtag == tag).map fun e => e.1
    let s2 := flows.foldl (fun t i => t.freeFlow i) s1
    let s3 := s2.modColl fun k =>
      { k with
        ctx := k.ctx.filter fun e => !(e.2.st == .stale && e.2.desc.jtag == tag)
        flushes := k.flushes.eraseP fun x => x.jtag == tag }
    let old (o : BcObj) : Bool := o.jtag == tag && (o.st == .stale || f.deactivate || o.jgen != (s3.job tag).gen)
    let s4 := s3.modBc fun b => { b with objs := b.objs.filter fun o => !old o }
    let s5 := if f.deactivate then s4.setJob tag.toNat { active := false, gen := (s4.job tag).gen } else s4
    s5.done .coll f.path [(0, BitVec.ofNat 32 f.ctxs), (1, BitVec.ofNat 32 f.flows)]

/-- JOB_FLUSH_RECLAIM_DONE (R258). -/
def execJobFlushReclaimDone (jtag : BitVec 16) (s : State) : Host.Outcome State Fault Refusal :=
  .next (s.onSys (Sys.reclaimDone jtag))

/-! ## CTX_OPEN (07 R644) -/

/-- Checks 1-4; while HBM is remapped, or with its home core die lost, no context opens (01 R34; 14 R448, R449; log 26). -/
def ctxCheck (d : CtxDesc) (s : Sys) : Option Word :=
  let j := s.job d.jtag
  if !d.ok then some collDesc
  else
    match d.arith.refusal with
    | some c => some c
    | none =>
      if (s.ctx d.ctx.toNat).isSome then some collState
      else if !j.active ∨ j.gen ≠ d.jgen then some collJob
      else if s.mem.remapping ∨ s.boot.lostDies.contains (16 + d.ctx.toNat % 4) then some collHwfault
      else none

/-- Checks 6-8. -/
def ctxReserve (d : CtxDesc) (ms : List Member) (s : Sys) : Option Word :=
  let need := d.sram (ms.filter Member.child).length
  if !membersOk d ms then some collMembers
  else if vatSram < s.sramUsed (d.ctx.toNat % 4) + need then some collNosram
  else if s.escFree < d.arith.reserve then some vatEscfull
  else none

/-- The context opens. -/
def Sys.openCtx (d : CtxDesc) (ms : List Member) (opener : Option (Nat × Nat)) (s : Sys) : Sys :=
  (s.newCtx d ms (d.sram (ms.filter Member.child).length) d.arith.reserve opener none).finishWindow d.ctx.toNat

/-- CTX_OPEN from the slot's ARGs: checks 1-4 when CMD is written, 5-8 during execution. -/
def ctxOpen (path : Path) (cmd : Word) (arg : Nat → Word) (st : Stores) (dma : Dma) (s : Sys) : Except Word Sys :=
  let d := CtxDesc.of (wordsToBytes ((List.range 16).map arg))
  match ctxCheck d s with
  | some c => .error c
  | none =>
    let s1 := s.accept .coll path cmd []
    let need := 16 * (d.nslot.toNat + 1)
    match s1.region path (arg 16) need with
    | .error e => .ok (s1.failed .coll path e)
    | .ok b =>
      match regionRead st path b need dma with
      | .error _ => .ok (s1.failedDma .coll path b.dAddr)
      | .ok data =>
        let ms := membersOf data (d.nslot.toNat + 1)
        match ctxReserve d ms s1 with
        | some c => .ok (s1.failed .coll path c)
        | none =>
          .ok ((s1.openCtx d ms none).done .coll path
            [(0, BitVec.ofNat 32 (d.deckle.toNat / 2 ^ 32)), (1, d.deckle.setWidth 32)])

/-! ## The collective command object (07 R261, R262) -/

/-- A tag that may be flushed or deactivated: active, and neither 0x0000 nor 0xFFFF. -/
def Sys.ownJob (tag : BitVec 16) (s : Sys) : Bool := tag != 0 && tag != 0xFFFF && (s.job tag).active

/-- A write of CMD of the collective command object. -/
def collCmd (path : Path) (cmd : Word) (st : Stores) (dma : Dma) (s : Sys) : Except Word Sys :=
  let sl := s.slot .coll path
  let arg := sl.arg
  let c := fld (arg 0) 13 0
  let tag := BitVec.ofNat 16 (fld (arg 0) 31 16)
  let gen := BitVec.ofNat 8 (fld (arg 0) 15 8)
  let go := s.accept .coll path cmd []
  if sl.busy then .error tblBusy
  else if fld cmd 23 0 ≠ 0 then .error mgtReserved
  else
    match fld cmd 31 24 with
    | 1 => ctxOpen path cmd arg st dma s
    | 2 =>
      match s.ctx c with
      | some x =>
        if x.st = .active ∨ x.st = .complete ∨ x.st = .aborted then .ok ((go.closeCtx c).settle.done .coll path [])
        else .error collState
      | none => .error collState
    | 3 =>
      match s.ctx c with
      | some x =>
        if x.st = .active then
          .ok ((go.abortCtx c collHostabort Config.noSlot.toNat 0 Config.noTile.toNat).settle.done .coll path [])
        else .error collState
      | none => .error collState
    | 4 =>
      if !s.clk.valid then .error collState
      else if tag = 0 ∨ tag = 0xFFFF ∨ (s.job tag).active then .error collJob
      else .ok ((go.setJob tag.toNat { active := true, gen }).done .coll path [])
    | 5 => if s.ownJob tag then .ok (go.flushJob path tag (some gen)) else .error collJob
    | 6 => if s.ownJob tag then .ok (go.flushJob path tag none) else .error collJob
    | 7 =>
      let j := s.job tag
      .ok (go.done .coll path [(0, BitVec.ofNat 32 (b2n j.active * 2 ^ 31 + j.gen.toNat * 256))])
    | _ => .error mgtReserved

/-- A collective command of a row: the ARGs of the path's slot, then CMD. -/
def collReq (path : Path) (op : Nat) (args : List (Nat × Word)) (st : Stores) (dma : Dma) (s : Sys) : Sys :=
  request path 0x4010 0 0
    (fun t => collCmd path (BitVec.ofNat 32 (op * 2 ^ 24)) st dma (t.setArgs .coll path args)) s

/-- A word list as ARG0 onwards. -/
def argsFrom0 (l : List Word) : List (Nat × Word) := (List.range l.length).map fun i => (i, nth l i 0)

/-- CTX_OPEN (R644). -/
def execCtxOpen (path : Path) (desc : List Word) (handle : Word) (host : Dma) (s : State) : Host.Outcome State Fault Refusal :=
  .next (s.onSys (collReq path 1 (argsFrom0 desc ++ [(16, handle)]) s.stores host))

/-- CTX_CLOSE (R230). -/
def execCtxClose (path : Path) (ctx : Word) (s : State) : Host.Outcome State Fault Refusal :=
  .next (s.onSys (collReq path 2 [(0, ctx)] {} .failed))

/-- CTX_ABORT (R253). -/
def execCtxAbort (path : Path) (ctx : Word) (s : State) : Host.Outcome State Fault Refusal :=
  .next (s.onSys (collReq path 3 [(0, ctx)] {} .failed))

/-- The ARG0 of a job command. -/
def jobArg (jtag : BitVec 16) (gen : BitVec 8) : Word := BitVec.ofNat 32 (jtag.toNat * 65536 + gen.toNat * 256)

/-- JOB_ACTIVATE (R257). -/
def execJobActivate (path : Path) (jtag : BitVec 16) (gen : BitVec 8) (s : State) : Host.Outcome State Fault Refusal :=
  .next (s.onSys (collReq path 4 [(0, jobArg jtag gen)] {} .failed))

/-- JOB_FLUSH (R258). -/
def execJobFlush (path : Path) (jtag : BitVec 16) (gen : BitVec 8) (s : State) : Host.Outcome State Fault Refusal :=
  .next (s.onSys (collReq path 5 [(0, jobArg jtag gen)] {} .failed))

/-- JOB_DEACTIVATE (R259). -/
def execJobDeactivate (path : Path) (jtag : BitVec 16) (s : State) : Host.Outcome State Fault Refusal :=
  .next (s.onSys (collReq path 6 [(0, jobArg jtag 0)] {} .failed))

/-- JOB_READ (R262). -/
def execJobRead (path : Path) (jtag : BitVec 16) (s : State) : Host.Outcome State Fault Refusal :=
  .next (s.onSys (collReq path 7 [(0, jobArg jtag 0)] {} .failed))

end Sys2Proof.Machine
end

