-- ==== Sys2Proof/Machine/Graph.lean ====
section
/-! DEFINITION. Graph images, submission on both paths, arrivals, cancelling and release (08 R264-R275, R282, R283,
R287-R295). The admission pass stands in Admission.lean. -/

namespace Sys2Proof.Machine

/-! ## The image (08 Tables 08-1, 08-2, 08-4) -/

/-- A node descriptor in 64 bytes. -/
def Node.of (b : List Byte) : Node :=
  let x := beAt b 0 64
  { kind := bv 4 x 508, pclass := bv 3 x 505, npred := bv 4 x 501, edge := bv 8 x 493, rsv := bv 13 x 480,
    preds := (List.range 8).map fun j => bv 16 x (464 - 16 * j), args := bv 352 x 0 }

/-- An image: the graph that it describes, its format version, whether its reserved header fields are 0, and the lengths
that its header gives. -/
structure Image0 where
  graph : Graph
  gver : Nat
  rsv : Bool
  nnodes : Nat
  dlen : Nat
  deriving DecidableEq, Repr

/-- The image in a byte list. -/
def Image0.of (b : List Byte) : Image0 :=
  let x := beAt b 0 64
  let n := bits x 463 448 + 1
  let dlen := bits x 447 416
  { gver := bits x 511 504, nnodes := n, dlen
    rsv := bits x 503 488 == 0 && bits x 343 336 == 0 && bits x 319 0 == 0
    graph :=
      { jtag := bv 16 x 472, jgen := bv 8 x 464, cookie := bv 32 x 384, endDest := bv 32 x 352, endIrq := bit x 351,
        endVec := bits x 350 345, autoRel := bit x 344, waitLim := bits x 335 320
        nodes := (List.range n).map fun i => Node.of ((b.drop (64 + 64 * i)).take 64)
        data := b.drop (64 + 64 * n)
        bytes := b.length } }

/-- Bits `hi` down to `lo` of the arguments are 0. -/
def Node.clear (n : Node) (hi lo : Nat) : Bool := n.a hi lo == 0

/-- `len` bytes at a DOFF lie inside the data area, and DOFF is a multiple of 8 (08 R269). -/
def inData (doff len dlen : Nat) : Bool := doff % 8 == 0 && doff + len ≤ dlen

/-- Reserved bits and arguments of a node (08 Table 08-4, R269). -/
def Node.argsOk (n : Node) (data : List Byte) : Bool :=
  let dlen := data.length
  match n.kind.toNat with
  | 1 =>
    let doff := n.a 255 224
    n.clear 335 320 && n.clear 223 0 && 1 ≤ n.a 287 256 &&
      (if n.a 337 337 = 1 then
        inData doff 64 dlen && inData doff (64 + 16 * ((CtxDesc.of (bytesAt data doff 64)).nslot.toNat + 1)) dlen
      else doff == 0)
  | 2 =>
    n.clear 332 320 && n.clear 274 272 && n.clear 215 0 && n.a 335 333 ≤ 6 && 1 ≤ n.a 287 275 && n.a 287 275 ≤ 4096 &&
      inData (n.a 319 288) (n.a 287 275) dlen
  | 3 => n.clear 255 0 && 1 ≤ n.a 287 256
  | 4 => n.clear 339 320 && n.clear 223 0 && 1 ≤ n.a 287 256 && inData (n.a 255 224) 64 dlen
  | 5 => n.clear 298 288 && n.clear 191 0 && inData (n.a 223 192) 64 dlen
  | 6 => n.clear 319 0
  | 7 => n.clear 340 0 && 1 ≤ n.a 351 341 && n.a 351 341 ≤ 1024
  | 8 => n.clear 312 304 && n.clear 223 0
  | 9 => n.clear 351 0
  | _ => false

/-- Check 4 for one node. -/
def Node.ok (n : Node) (data : List Byte) : Bool := n.rsv == 0 && n.npred.toNat ≤ 8 && n.argsOk data

/-- A kind with a start of its own (08 Table 08-3). -/
def hasStart (k : Nat) : Bool := 1 ≤ k && k ≤ 5

/-- R267 for node `i`. -/
def orderOk (nodes : List Node) (i : Nat) (n : Node) : Bool :=
  let np := n.npred.toNat
  let ps := (n.preds.take np).map BitVec.toNat
  (ps.all fun p => decide (p < i)) && ps.eraseDups.length == ps.length && ((n.preds.drop np).all fun p => p == 0) &&
    ((List.range 8).all fun j =>
      !n.edge.getLsbD j ||
        (decide (j < np) && (match nodes[nth ps j 0]? with | some p => hasStart p.kind.toNat | none => false)))

/-- Contexts that the nodes open. -/
def openedCtxs (nodes : List Node) : List Nat :=
  (nodes.filter fun n => n.kind.toNat == kReduce && n.a 337 337 == 1).map fun n => n.a 351 338

/-- The checks of Table 08-6 in order; `tag` is the job tag of the packets of an in-band image, and whether they agreed.
While HBM is remapped, no graph is accepted (14 R448, R449; log 26). -/
def imageCheck (b : List Byte) (tag : Option (BitVec 16 × Bool)) (s : Sys) : Option Word :=
  let m := Image0.of b
  let g := m.graph
  let j := s.job g.jtag
  if s.mem.remapping then some graphHwfault
  else if b.length ≠ 64 + 64 * m.nnodes + m.dlen ∨ 8388672 < b.length then some graphFormat
  else if m.gver ≠ 1 ∨ !m.rsv ∨ m.dlen % 8 ≠ 0 ∨ 4194304 < m.dlen ∨ 60000 < g.waitLim then some graphFormat
  else if !j.active ∨ j.gen ≠ g.jgen ∨ (match tag with | some (t, same) => !same || t != g.jtag | none => false) = true then
    some graphJob
  else if !g.nodes.all fun n => n.ok g.data then some graphFormat
  else if !(List.range m.nnodes).all fun i => (match g.nodes[i]? with | some n => orderOk g.nodes i n | none => false) then
    some graphOrder
  else if (openedCtxs g.nodes).eraseDups.length ≠ (openedCtxs g.nodes).length then some graphFormat
  else if s.hearth.inForce = 3 then some graphProfile
  else if (lowestFree s.graphs.graph 1024).isNone then some graphFull
  else if 2 ^ 32 < sum (s.graphs.graph.map fun e => e.2.bytes) + b.length then some graphNospace
  else none

/-- An accepted graph takes the lowest free GID and is RUNNING; nodes without predecessors are READY (08 R274, R276). -/
def Sys.acceptGraph (b : List Byte) (s : Sys) : Nat × Sys :=
  let gid := (lowestFree s.graphs.graph 1024).getD 0
  let s1 := s.modGraphs fun g =>
    { g with graph := put g.graph gid { (Image0.of b).graph with order := g.order }, order := g.order + 1 }
  (gid, (s1.wrote (.graphState gid)).makeReady gid)

/-! ## The graph command object (08 R270, R294, R295) -/

/-- The graph that a GID and a COOKIE name. -/
def Sys.named (gid : Nat) (cookie : Word) (s : Sys) : Option Graph :=
  match s.graph gid with
  | some g => if g.cookie = cookie then some g else none
  | none => none

/-- An arrival at a barrier (08 R283, R294). -/
def Sys.arriveAt (gid : Nat) (cookie : Word) (node part : Nat) (s : Sys) : Except Word Sys :=
  match s.named gid cookie with
  | none => .error graphNograph
  | some g =>
    if g.st ≠ .running then .error graphState
    else
      match g.nodes[node]? with
      | none => .error graphBadarg
      | some n =>
        if n.kind.toNat ≠ kBarrier ∨ n.a 351 341 ≤ part then .error graphBadarg
        else if n.st = .done ∨ n.arrived.contains part then .ok (s.tally itemBarrierExtra 0)
        else .ok (s.modNode gid node fun n => { n with arrived := insertNat part n.arrived }).settle

/-- A graph is cancelled (08 R290). -/
def Sys.cancelGraph (gid : Nat) (s : Sys) : Sys := (s.breakGraph gid .cancelled graphCancelled 0).settle

/-- A write of CMD of the graph command object. -/
def graphCmd (path : Path) (cmd : Word) (s : Sys) : Except Word Sys :=
  let sl := s.slot .graph path
  let gid := fld (sl.arg 0) 9 0
  let cookie := sl.arg 1
  let go := s.accept .graph path cmd []
  if sl.busy then .error tblBusy
  else if fld cmd 23 0 ≠ 0 then .error mgtReserved
  else
    match fld cmd 31 24 with
    | 1 =>
      if path ≠ .pcie then .error graphPath
      else
        let t := s.accept .graph path cmd (usesOf path (sl.arg 0))
        match s.region path (sl.arg 0) (sl.arg 1).toNat with
        | .error e => .ok (t.failed .graph path e)
        | .ok _ =>
          .ok (t.modGraphs fun g =>
            { g with loads := g.loads ++ [{ path, handle := sl.arg 0, length := (sl.arg 1).toNat }] })
    | 2 =>
      match s.named gid cookie with
      | none => .error graphNograph
      | some g => if g.st = .running then .ok ((go.cancelGraph gid).done .graph path []) else .error graphState
    | 3 =>
      match s.named gid cookie with
      | none => .error graphNograph
      | some g => if g.ended.isSome then .ok ((go.freeGraph gid).done .graph path []) else .error graphState
    | 4 =>
      match go.arriveAt gid cookie (fld (sl.arg 2) 31 16) (fld (sl.arg 2) 15 0) with
      | .error c => .error c
      | .ok t => .ok (t.done .graph path [])
    | _ => .error mgtReserved

/-- A graph command of a row. -/
def graphReq (path : Path) (op : Nat) (args : List (Nat × Word)) (s : Sys) : Sys :=
  request path 0x4020 0 0 (fun t => graphCmd path (BitVec.ofNat 32 (op * 2 ^ 24)) (t.setArgs .graph path args)) s

/-- GRAPH_SUBMIT (R274). -/
def execGraphSubmit (path : Path) (handle length : Word) (s : State) : Host.Outcome State Fault Refusal :=
  .next (s.onSys (graphReq path 1 [(0, handle), (1, length)]))

/-- GRAPH_CANCEL (R290). -/
def execGraphCancel (path : Path) (gid cookie : Word) (s : State) : Host.Outcome State Fault Refusal :=
  .next (s.onSys (graphReq path 2 [(0, gid), (1, cookie)]))

/-- GRAPH_RELEASE (R291). -/
def execGraphRelease (path : Path) (gid cookie : Word) (s : State) : Host.Outcome State Fault Refusal :=
  .next (s.onSys (graphReq path 3 [(0, gid), (1, cookie)]))

/-- GRAPH_ARRIVE (R283). -/
def execGraphArrive (path : Path) (gid cookie nodePart : Word) (s : State) : Host.Outcome State Fault Refusal :=
  .next (s.onSys (graphReq path 4 [(0, gid), (1, cookie), (2, nodePart)]))

/-- The image of the oldest GRAPH_SUBMIT has been pulled and is checked (08 R270, R273, R274). -/
def Sys.loadComplete (st : Stores) (dma : Dma) (s : Sys) : Sys :=
  match s.graphs.loads with
  | [] => s
  | l :: rest =>
    let s1 := s.modGraphs fun g => { g with loads := rest }
    match s1.region l.path l.handle l.length with
    | .error e => s1.failed .graph l.path e
    | .ok b =>
      match regionRead st l.path b l.length dma with
      | .error _ => s1.failedDma .graph l.path b.dAddr
      | .ok data =>
        match imageCheck data none s1 with
        | some c => s1.failed .graph l.path c
        | none =>
          let r := s1.acceptGraph data
          (r.2.done .graph l.path [(0, BitVec.ofNat 32 r.1)]).settle

/-- GRAPH_LOAD_COMPLETE (R273). -/
def execGraphLoadComplete (host : Dma) (s : State) : Host.Outcome State Fault Refusal :=
  .next (s.onSys (Sys.loadComplete s.stores host))

/-! ## Graph messages (08 R271, R272, R283, R290, R294) -/

/-- MTYPE of a control message. -/
def Pkt.mtype (p : Pkt) : Nat := beAt p.payload 0 1

/-- The oldest graph message of a core die whose MTYPE satisfies `f`. -/
def Sys.takeMessage (core : Nat) (f : Nat → Bool) (s : Sys) : Option (Delivery × Sys) :=
  s.takeDelivery fun d => d.svc == 4 && d.core == core && d.pkt.kind == 9 && f d.pkt.mtype

/-- A packet of a flow toward a service that keeps flows (05 R163, R177, R182): its context, found or opened, then `act`
on an accepted packet, the grant that is due, and the packet is consumed. `whenFull`: the state while the miss queue is full. -/
def Sys.inbound (core : Nat) (d : Delivery) (act : Nat → Sys → Sys) (s whenFull : Sys) : Sys :=
  let p := d.pkt
  let run (i : Nat) (t : Sys) : Sys :=
    let r := t.flowAccepts i d
    ((if r.1 then act i r.2 else r.2).grantIfDue i).consume d
  match s.findFlow p.sgei p.flow false with
  | some (i, _) => s.withContext core i d (run i) whenFull
  | none =>
    if !serialAfter 16 p.seq then (s.dropDelivered core flowUnknown true d).consume d
    else
      match s.openFlow (Flow.new p.sgei p.flow false p.jtag p.jgen d.svc 0 0 0) with
      | none => (s.dropDelivered core flowFull true d).consume d
      | some (i, t) => run i t

/-- A staging of a core die. -/
def Staging.is (core : Nat) (sgei cookie : Word) (x : Staging) : Bool := x.core == core && x.sgei == sgei && x.cookie == cookie

/-- A chunk is written at its offset. -/
def Staging.write (p : Pkt) (x : Staging) : Staging :=
  let off := beAt p.payload 8 4
  let data := p.payload.drop 16
  { x with
    mixed := x.mixed || p.jtag != x.jtag
    bytes := (List.range data.length).foldl (fun b i => put b (off + i) (nth data i 0)) x.bytes }

/-- A chunk of an in-band image; a new staging needs one of the 64 places (08 R272). -/
def Sys.stage (core : Nat) (d : Delivery) (s : Sys) : Sys :=
  let p := d.pkt
  let cookie := wordAt p.payload 4
  if s.graphs.stagings.any (Staging.is core p.sgei cookie) then
    s.modGraphs fun g => { g with stagings := g.stagings.map fun x => if x.is core p.sgei cookie then x.write p else x }
  else if 64 ≤ (s.graphs.stagings.filter fun x => x.core == core).length then s.dropDelivered core graphBusy true d
  else
    let x : Staging := { core, sgei := p.sgei, cookie, jtag := p.jtag, since := s.clk.mono }
    (s.wrote (.staging core p.sgei cookie)).modGraphs fun g => { g with stagings := g.stagings ++ [x.write p] }

/-- SUBMIT_DATA reaches the graph service under its flow; a reserved MTYPE, or one that the module only sends, is
discarded and counted. -/
def Sys.submitDataWith (core : Nat) (d : Delivery) (s whenFull : Sys) : Sys :=
  if d.pkt.mtype = 1 then s.inbound core d (fun _ t => t.stage core d) whenFull
  else (s.tally itemFlowDiscard (s.portOf d)).consume d

/-- The oldest chunk of a core die. -/
def Sys.submitData (core : Nat) (s : Sys) : Sys :=
  match s.takeMessage core fun m => m != 2 && m != 4 && m != 5 with
  | some (d, t) => t.submitDataWith core d s
  | none => s

/-- SUBMIT_DATA (R272). -/
def execSubmitData (core : Core) (s : State) : Host.Outcome State Fault Refusal :=
  .next (s.onSys (Sys.submitData core.toNat))

/-- The staged image below `n` bytes, when every byte of it has been written. -/
def Staging.image (x : Staging) (n : Nat) : Option (List Byte) :=
  let l := (x.bytes.filter fun e => decide (e.1 < n)).map fun e => e.2
  if l.length = n then some l else none

/-- A commit: the image is complete and its CRC matches, it is checked and accepted, and the sender is told (08 R272). -/
def Sys.submitCommit (core : Nat) (s : Sys) : Sys :=
  match s.takeMessage core fun m => m == 2 with
  | none => s
  | some (d, t) =>
    let p := d.pkt
    let cookie := wordAt p.payload 4
    let ack (gid : Nat) (code : Word) (u : Sys) : Sys :=
      u.originate core (u.graphPkt p.sgei gid p.jtag p.jgen 3 cookie code 0 [])
    let u := t.modGraphs fun g => { g with stagings := g.stagings.filter fun x => !x.is core p.sgei cookie }
    let good :=
      match t.graphs.stagings.find? (Staging.is core p.sgei cookie) with
      | some x =>
        match x.image (beAt p.payload 8 4) with
        | some b => if crc32c b = wordAt p.payload 12 then some (x, b) else none
        | none => none
      | none => none
    let v :=
      match good with
      | none => ack 0 graphCrc u
      | some (x, b) =>
        match imageCheck b (some (x.jtag, !x.mixed && x.jtag == p.jtag)) u with
        | some c => ack 0 c u
        | none =>
          let r := u.acceptGraph b
          ack r.1 0 r.2
    (v.consume d).settle

/-- SUBMIT_COMMIT (R272). -/
def execSubmitCommit (core : Core) (s : State) : Host.Outcome State Fault Refusal :=
  .next (s.onSys (Sys.submitCommit core.toNat))

/-- An ARRIVE message. -/
def Sys.arriveMsg (core : Nat) (s : Sys) : Sys :=
  match s.takeMessage core fun m => m == 4 with
  | none => s
  | some (d, t) =>
    let l := d.pkt.payload
    match t.arriveAt (beAt l 0 4 % 1024) (wordAt l 4) (beAt l 8 2) (beAt l 10 2) with
    | .ok u => u.consume d
    | .error c => (t.dropDelivered core c true d).consume d

/-- ARRIVE (R283). -/
def execArrive (core : Core) (s : State) : Host.Outcome State Fault Refusal := .next (s.onSys (Sys.arriveMsg core.toNat))

/-- A CANCEL message: it ends the graph when it carries the graph's tag and generation. -/
def Sys.cancelMsg (core : Nat) (s : Sys) : Sys :=
  match s.takeMessage core fun m => m == 5 with
  | none => s
  | some (d, t) =>
    let gid := beAt d.pkt.payload 0 4 % 1024
    match t.named gid (wordAt d.pkt.payload 4) with
    | none => (t.dropDelivered core graphNograph true d).consume d
    | some g =>
      (if g.st = .running ∧ g.jtag = d.pkt.jtag ∧ g.jgen = d.pkt.jgen then t.cancelGraph gid else t).consume d

/-- CANCEL (R290). -/
def execCancel (core : Core) (s : State) : Host.Outcome State Fault Refusal := .next (s.onSys (Sys.cancelMsg core.toNat))

/-- A staging without a commit for 100 ms is discarded and counted (08 R272). -/
def Sys.stagingTimeout (core : Nat) (sgei cookie : Word) (s : Sys) : Sys :=
  match s.graphs.stagings.find? (Staging.is core sgei cookie) with
  | none => s
  | some x =>
    ((s.toMono (x.since + 100000000)).modGraphs fun g =>
      { g with stagings := g.stagings.filter fun y => !y.is core sgei cookie }).tally itemStagingDropped 0

/-- STAGING_TIMEOUT (R272). -/
def execStagingTimeout (core : Core) (sgei cookie : Word) (s : State) : Host.Outcome State Fault Refusal :=
  .next (s.onSys (Sys.stagingTimeout core.toNat sgei cookie))

/-! ## Deadlines (08 R282, R289, R291) -/

/-- A WAIT_TIME node of a RUNNING graph completes at its time, once the time is valid (08 R282). -/
def Sys.waitDue (gid i : Nat) (s : Sys) : Sys :=
  match s.graph gid, s.node gid i with
  | some g, some n =>
    if g.st = .running ∧ n.kind.toNat = kWait ∧ (n.st = .ready ∨ n.st = .running) ∧ s.clk.valid then
      let ahead := (BitVec.ofNat 32 (n.a 351 320) - s.now).toNat
      ((s.advance (if ahead ≤ 2 ^ 31 then ahead else 0)).finishNode gid i false).settle
    else s
  | _, _ => s

/-- WAIT_TIME_DUE (R282). -/
def execWaitTimeDue (gid : BitVec 10) (node : BitVec 16) (s : State) : Host.Outcome State Fault Refusal :=
  .next (s.onSys (Sys.waitDue gid.toNat node.toNat))

/-- A READY node is not admitted within WAITLIM ms (08 R289). -/
def Sys.starved (gid i : Nat) (s : Sys) : Sys :=
  match s.graph gid, s.node gid i with
  | some g, some n =>
    if g.st = .running ∧ n.st = .ready ∧ g.waitLim ≠ 0 then
      ((s.toExt (n.readyExt + BitVec.ofNat 64 (g.waitLim * 1000000))).failNode gid i graphStarved).settle
    else s
  | _, _ => s

/-- NODE_STARVED (R289). -/
def execNodeStarved (gid : BitVec 10) (node : BitVec 16) (s : State) : Host.Outcome State Fault Refusal :=
  .next (s.onSys (Sys.starved gid.toNat node.toNat))

/-- A graph with AUTOREL is released one drain bound after its end (08 R291). -/
def Sys.autorelease (gid : Nat) (s : Sys) : Sys :=
  match s.graph gid with
  | some { autoRel := true, ended := some i, .. } => (s.toEnd i).freeGraph gid
  | _ => s

/-- GRAPH_AUTORELEASE (R291). -/
def execGraphAutorelease (gid : BitVec 10) (s : State) : Host.Outcome State Fault Refusal :=
  .next (s.onSys (Sys.autorelease gid.toNat))

end Sys2Proof.Machine
end

