-- ==== Sys2Proof/Machine/Bcast.lean ====
section
/-! DEFINITION. The broadcast cache: objects, receivers, filling, sending, grafting, pulls and closing (09 R302-R327). -/

namespace Sys2Proof.Machine

/-! ## Descriptors (09 Tables 09-2, 09-3) -/

/-- The object descriptor in 64 bytes, without its receivers, and whether it passes check 2 of Table 09-4. -/
structure BcDesc where
  obj : BcObj
  nrecv : Nat
  ok : Bool
  deriving DecidableEq, Repr

/-- The fields of a descriptor. -/
def BcDesc.of (b : List Byte) : BcDesc :=
  let x := beAt b 0 64
  let o : BcObj :=
    { obj := bv 32 x 480, jtag := bv 16 x 464, jgen := bv 8 x 456, flow := bv 24 x 432, mgroup := bv 16 x 416,
      tc := bv 3 x 413, src := bit x 412, size := bits x 399 360, up := bv 32 x 328, alt1 := bv 32 x 296,
      alt2 := bv 32 x 264, reachTo := bits x 239 224, resumeTo := bits x 223 208, receivers := [] }
  let alt (g : Word) : Bool := g == 0 || isSvcGei g 2
  let ms (n : Nat) : Bool := 1 ≤ n && n ≤ 10000
  { obj := o, nrecv := bits x 263 250 + 1
    ok := bits x 411 400 == 0 && bits x 249 240 == 0 && bits x 207 0 == 0 && o.tc != 7 && o.size != 0 && ms o.reachTo &&
      ms o.resumeTo && alt o.alt1 && alt o.alt2 && (o.src || o.up == 0) }

/-- A receiver entry in 32 bytes. -/
def Receiver.of (b : List Byte) : Receiver :=
  let x := beAt b 0 32
  let start := bv 32 x 192
  { gei := bv 32 x 224, start, port := bv 10 x 182, graft := bv 128 x 0, mode := if start = 0 then .mcast else .pull
    ack := start, next := start }

/-- A graft route passes check 2: PTR 0, NH 0-8, the reserved bits of Table 02-6 are 0, and HOP0, when it has one, is a
configured port (02 R56). -/
def Sys.graftOk (v : BitVec 128) (s : Sys) : Bool :=
  srPtr v == 0 && srNh v ≤ 8 && bits v.toNat 119 112 == 0 && bits v.toNat 31 0 == 0 &&
    (srNh v == 0 || s.configured (srHop v 0))

/-- An entry passes check 2. -/
def Sys.receiverOk (nseg : Nat) (b : List Byte) (s : Sys) : Bool :=
  let r := Receiver.of b
  bits (beAt b 0 32) 181 128 == 0 && s.graftOk r.graft && decide (r.start.toNat < nseg)

/-! ## Space (09 R323, 14 Table 14-2) -/

/-- Size of the broadcast cache region in bytes. -/
def Sys.bcRegion (s : Sys) : Nat :=
  (match s.mem.alloc with | 0 | 1 => 192 | 2 => 96 | _ => 0) * 2 ^ 30

/-- HBM services that the profile keeps, and that no lost stack or die has stopped. -/
def Sys.hbmServices (s : Sys) : Bool := s.hearth.inForce != 3 && s.nv.stackLost.isEmpty

/-- Cache that an object takes. -/
def BcObj.space (o : BcObj) : Nat := o.nseg * 4096

/-- Cache that a tag's objects hold. -/
def Sys.bcUsed (tag : BitVec 16) (s : Sys) : Nat := sum ((s.bc.objs.filter fun o => o.jtag == tag).map BcObj.space)

/-- Cache in use. -/
def Sys.bcUsedAll (s : Sys) : Nat := sum (s.bc.objs.map BcObj.space)

/-- Checks 3-8 of Table 09-4. -/
def bcCheck (o : BcObj) (s : Sys) : Option Word :=
  let j := s.job o.jtag
  let own := getD s.fwd.owners o.mgroup.toNat 0xFFFF
  let quota := getD s.bc.quota o.jtag.toNat 0
  if !j.active ∨ j.gen ≠ o.jgen then some bcJob
  else if s.bc.objs.any fun x => x.jtag == o.jtag && (x.obj == o.obj || x.flow == o.flow) then some bcState
  else if own ≠ o.jtag ∧ own ≠ 0xFFFF then some bcGroup
  else if 4096 ≤ s.bc.objs.length then some bcFull
  else if quota ≠ 0 ∧ quota * 2 ^ 20 < s.bcUsed o.jtag + o.space then some bcQuota
  else if s.bcRegion < s.bcUsedAll + o.space then some bcNospace
  else none

/-! ## Objects -/

/-- An object put through `f`. -/
def Sys.modObj (jtag : BitVec 16) (obj : Word) (f : BcObj → BcObj) (s : Sys) : Sys :=
  s.modBc fun b => { b with objs := b.objs.map fun o => if o.jtag == jtag && o.obj == obj then f o else o }

/-- A receiver put through `f`. -/
def Sys.modRecv (jtag : BitVec 16) (obj : Word) (r : Nat) (f : Receiver → Receiver) (s : Sys) : Sys :=
  s.modObj jtag obj fun o => { o with receivers := modNth o.receivers r f }

/-- Code of a receiver mode (09 Table 09-6). -/
def RMode.code : RMode → Nat
  | .mcast => 0
  | .grafted => 1
  | .pull => 2
  | .done => 3
  | .unreachable => 4
  | .pruned => 5

/-- A receiver changes its mode, and with it the RMODE of its flow context's service area (09 R329). -/
def Sys.setMode (jtag : BitVec 16) (obj : Word) (k : Nat) (mode : RMode) (s : Sys) : Sys :=
  let t := s.modRecv jtag obj k fun r => { r with mode }
  match (s.bc.objs.find? fun o => o.jtag == jtag && o.obj == obj).bind fun o => o.receivers[k]? with
  | some { flow := some i, .. } => t.modFlow i fun f => { f with rmode := mode.code }
  | _ => t

/-- A receiver is served in its mode. -/
def Receiver.live (r : Receiver) : Bool := r.mode == .mcast || r.mode == .grafted || r.mode == .pull

/-- An object that has everything and has no live receiver is COMPLETE; one with a live receiver is ACTIVE (09 R306). -/
def BcObj.refresh (o : BcObj) : BcObj :=
  if o.st = .active ∨ o.st = .complete then
    { o with st := if o.nseg ≤ o.fill && !o.receivers.any Receiver.live then .complete else .active }
  else o

/-- The states of an object and of the nodes that wait for it are brought up to date. -/
def Sys.objSettle (jtag : BitVec 16) (obj : Word) (s : Sys) : Sys := (s.modObj jtag obj BcObj.refresh).settle

/-- An inbound context for an object opens at `first` (09 R307, R319); without a free context none does. -/
def Sys.openInflow (jtag : BitVec 16) (obj first : Word) (s : Sys) : Sys :=
  match s.bcObj jtag obj with
  | none => s
  | some o =>
    match s.openFlow (Flow.new o.up o.flow false o.jtag o.jgen 2 first obj 0) with
    | some (i, t) => t.modObj jtag obj fun o => { o with inflow := some i, moved := s.clk.mono }
    | none => s.modObj jtag obj fun o => { o with inflow := none, moved := s.clk.mono }

/-- Every live receiver that lacks an outbound context gets one while contexts are free, once the object sends (09 R309,
R310); one whose flow to the same receiver is still in use waits. -/
def Sys.openReceivers (jtag : BitVec 16) (obj : Word) (s : Sys) : Sys :=
  match s.bcObj jtag obj with
  | none => s
  | some o =>
    if o.sendLimit = 0 then s
    else
      (List.range o.receivers.length).foldl
        (fun t k =>
          match o.receivers[k]? with
          | some r =>
            if r.live && r.flow.isNone && (t.findFlow r.gei o.flow true).isNone then
              let f := { Flow.new r.gei o.flow true o.jtag o.jgen 2 r.ack obj k with rmode := r.mode.code, graft := r.graft }
              match t.openFlow f with
              | some (i, u) => u.modRecv jtag obj k fun r => { r with flow := some i, next := r.ack }
              | none => t
            else t
          | none => t)
        s

/-- The send limit rises, and contexts open (09 R310). -/
def Sys.raiseLimit (jtag : BitVec 16) (obj : Word) (limit : Nat) (s : Sys) : Sys :=
  (s.modObj jtag obj fun o => { o with sendLimit := max o.sendLimit limit }).openReceivers jtag obj

/-- A receiver leaves service: its context closes. -/
def Sys.endReceiver (jtag : BitVec 16) (obj : Word) (k : Nat) (mode : RMode) (s : Sys) : Sys :=
  match s.bcObj jtag obj with
  | none => s
  | some o =>
    let t :=
      match o.receivers[k]? with
      | some { flow := some i, .. } => s.closeFlow i
      | _ => s
    (t.setMode jtag obj k mode).modRecv jtag obj k fun r => { r with flow := none }

/-- A receiver becomes UNREACHABLE (09 R316): the flag, the fault notice with its PORT, and the log record
with GEI, OBJ, JTAG and ACK (the place of ACK is log 82). -/
def Sys.unreach (jtag : BitVec 16) (obj : Word) (k : Nat) (s : Sys) : Sys :=
  match s.bcObj jtag obj with
  | none => s
  | some o =>
    match o.receivers[k]? with
    | none => s
    | some r =>
      (((s.endReceiver jtag obj k .unreachable).modObj jtag obj fun o => { o with incomplete := true }).fault faultBcUnreach
        (16 + jtag.toNat % 4) r.port.toNat false [0, r.gei, obj, BitVec.ofNat 32 (jtag.toNat * 65536), r.ack]).objSettle jtag obj

/-- Every receiver of every object in one of the states `ok` for which `f` gives an action. -/
def Sys.eachReceiver (ok : BcSt → Bool) (f : BcObj → Nat → Receiver → Option (Sys → Sys)) (s : Sys) : Sys :=
  s.bc.objs.foldl
    (fun t o =>
      if ok o.st then
        (List.range o.receivers.length).foldl
          (fun u k => match o.receivers[k]? with
            | some r => (match f o k r with | some g => g u | none => u)
            | none => u)
          t
      else t)
    s

/-- Live receivers in the fence list become PRUNED, and are counted; those of a FAILED object too (09 R317). -/
def Sys.pruneFenced (s : Sys) : Sys :=
  s.eachReceiver (fun st => st == .active || st == .complete || st == .failed) fun o k r =>
    if r.live && s.fenced r.gei then
      some fun t => ((t.endReceiver o.jtag o.obj k .pruned).tally itemPruned r.port.toNat).objSettle o.jtag o.obj
    else none

/-- First hop of a receiver's graft route, when it has one. -/
def Receiver.hop0 (r : Receiver) : Option Nat := if srNh r.graft = 0 then none else some (srHop r.graft 0)

/-- A port has got HW 0 or PFENCE 1 (09 R318): its MCAST receivers are grafted, or UNREACHABLE; receivers grafted through
it are UNREACHABLE. -/
def Sys.graftPort (port : Nat) (s : Sys) : Sys :=
  if s.hwFenced port ≠ 0 then s
  else
    s.eachReceiver (· == .active) fun o k r =>
      if r.mode = .mcast ∧ r.port.toNat = port then
        match r.hop0 with
        | some h =>
          if s.hwFenced h ≠ 0 then
            some fun t => (t.setMode o.jtag o.obj k .grafted).modRecv o.jtag o.obj k fun r => { r with next := r.ack }
          else some (Sys.unreach o.jtag o.obj k)
        | none => some (Sys.unreach o.jtag o.obj k)
      else if r.mode = .grafted ∧ r.hop0 = some port then some (Sys.unreach o.jtag o.obj k)
      else none

/-- On the loss of a core die or a stack every object is FAILED, whatever its state was (09 R326). -/
def Sys.failObjs (s : Sys) : Sys :=
  (s.modBc fun b => { b with objs := b.objs.map fun o => { o with st := .failed, cause := bcHwfault, closing := none } }).settle

/-- An ACTIVE or COMPLETE object FAILS with a cause; its sending stops (09 R319). -/
def Sys.failObj (jtag : BitVec 16) (obj cause : Word) (s : Sys) : Sys :=
  (s.modObj jtag obj fun o => if o.st = .active ∨ o.st = .complete then { o with st := .failed, cause } else o).settle

/-! ## Tokens (09 R324) -/

/-- Key of a share: core die and tag. -/
def shareKey (core : Nat) (tag : BitVec 16) : Nat := core * 65536 + tag.toNat

/-- A segment that an object may send now, and to whom. -/
inductive BcWork where
  | mcast (seg : Nat)
  | unicast (k seg : Nat) (again : Bool)
  deriving DecidableEq, Repr

/-- The flow context of a receiver. -/
def Sys.recvFlow (r : Receiver) (s : Sys) : Option Flow :=
  match r.flow with
  | some i => get? s.flows.ctx i
  | none => none

/-- Segment n may be multicast: it precedes the LIMIT of every receiver in MCAST mode (09 R312). -/
def Sys.mcastReady (o : BcObj) (s : Sys) : Bool :=
  let ms := o.receivers.filter fun r => r.mode == .mcast
  !ms.isEmpty && o.mnext < o.fill && o.mnext < o.sendLimit &&
    ms.all fun r =>
      match s.recvFlow r with
      | some f => f.st == .opened && serialAfter f.limit (BitVec.ofNat 32 o.mnext)
      | none => false

/-- The next segment of a unicast receiver (09 R310, R314). -/
def Sys.uniReady (o : BcObj) (r : Receiver) (s : Sys) : Bool :=
  (r.mode == .grafted || r.mode == .pull) && r.next.toNat < o.fill && r.next.toNat < o.sendLimit &&
    (match s.recvFlow r with
     | some f => f.st == .opened && serialAfter f.limit r.next
     | none => false)

/-- What an ACTIVE object sends next: resends first (09 R313), then the multicast and its unicast receivers in turn
(09 R314). -/
def Sys.bcNext (o : BcObj) (s : Sys) : Option BcWork :=
  if o.st ≠ .active then none
  else
    let n := o.receivers.length
    let due := (List.range n).findSome? fun k =>
      match o.receivers[k]? with
      | some r =>
        if r.live then
          (match s.recvFlow r with | some { due := x :: _, .. } => some (BcWork.unicast k x.toNat true) | _ => none)
        else none
      | none => none
    match due with
    | some w => some w
    | none =>
      (List.range (n + 1)).findSome? fun j =>
        let k := (o.turn + j) % (n + 1)
        if k = 0 then (if s.mcastReady o then some (.mcast o.mnext) else none)
        else
          match o.receivers[k - 1]? with
          | some r => if s.uniReady o r then some (.unicast (k - 1) r.next.toNat false) else none
          | none => none

/-- A tag has broadcast work pending on a core die: something to send, a segment waiting to be filled, in the miss queue too, or a
load that waits. -/
def Sys.bcPending (core : Nat) (tag : BitVec 16) (s : Sys) : Bool :=
  (s.bc.objs.any fun o => o.jtag == tag && o.jtag.toNat % 4 == core && (s.bcNext o).isSome) ||
    (s.bc.loads.any fun j => j.jtag == tag && tag.toNat % 4 == core) ||
    (s.sw.svc ++ getD s.flows.missq core []).any fun d =>
      d.svc == 2 && d.core == core && d.pkt.kind == 4 && d.pkt.jtag == tag

/-- `n` bytes of tokens are taken from the shares in order, as far as they go. -/
def takeShares : List (Nat × Nat) → Nat → Sparse Nat → Sparse Nat
  | [], _, t => t
  | (k, v) :: r, n, t => takeShares r (n - v) (put t k (v - n))

/-- Tokens for `n` bytes of a tag: its own share, the shares of tags without work, then what passes down from the classes above (17
R505); none when they do not suffice. -/
def Sys.spendBc (core : Nat) (tag : BitVec 16) (n : Nat) (s : Sys) : Option Sys :=
  let own := shareKey core tag
  let idle := s.hearth.tokTag.filter fun e =>
    e.1 / 65536 == core && e.1 != own && !s.bcPending core (BitVec.ofNat 16 e.1)
  let pots := (own, getD s.hearth.tokTag own 0) :: idle
  let here := sum (pots.map fun e => e.2)
  let down := s.passers .broadcast
  if here + sum (down.map s.hearth.pot) < n then none
  else some (s.modHearth fun h => { Hearth.spend down (n - here) h with tokTag := takeShares pots n h.tokTag })

/-- Each core die's broadcast tokens are divided among the tags with work pending, by WEIGHT (09 R324). -/
def Sys.shareBc (tokens : Nat) (s : Sys) : Sys :=
  let shares (core : Nat) : List (Nat × Nat) :=
    let tags := ((s.bc.objs.filter fun o => o.jtag.toNat % 4 == core).map BcObj.jtag).eraseDups.filter fun t =>
      s.bcPending core t
    let w (t : BitVec 16) : Nat := getD s.bc.weight t.toNat 8
    let total := sum (tags.map w)
    tags.map fun t => (shareKey core t, tokens * w t / total)
  s.modHearth fun h =>
    { h with tokTag := ((List.range 4).flatMap shares).foldl (fun a e => put a e.1 e.2) [] }

/-! ## Loading (09 R307, R324) -/

/-- A segment of a load enters the cache at F (09 R307). -/
def BcObj.load (o : BcObj) (seg : Nat) (data : List Byte) (now : Nat) : BcObj :=
  { o with segs := put o.segs seg data, fill := seg + 1, moved := now }

/-- The command of a load ends: DONE with F, or FAILED. -/
def Sys.loadEnds (j : BcJob) (failed : Bool) (s : Sys) : Sys :=
  let t := s.modBc fun b => { b with loads := b.loads.filter fun x => x.path != j.path }
  if failed then t.failed .bc j.path bcState
  else (t.objSettle j.jtag j.obj).done .bc j.path [(0, BitVec.ofNat 32 j.stop)]

/-- A load copies segments while the tokens of its tag last (09 R324), and ends with the last one; one whose object has left ACTIVE
fails. -/
def Sys.loadLoop (path : Path) : Nat → Sys → Sys
  | 0, s => s
  | n + 1, s =>
    match s.bc.loads.find? fun j => j.path == path with
    | none => s
    | some j =>
      match (s.bcObj j.jtag j.obj).filter fun o => o.st == .active && o.fill == j.next with
      | none => s.loadEnds j (decide (j.next < j.stop))
      | some _ =>
        if j.stop ≤ j.next then s.loadEnds j false
        else
          match s.spendBc (j.jtag.toNat % 4) j.jtag (min 4096 j.data.length) with
          | none => s
          | some t =>
            Sys.loadLoop path n
              (((t.wrote (.object j.jtag j.obj)).modObj j.jtag j.obj fun o => o.load j.next (j.data.take 4096) s.clk.mono).modBc fun b =>
                { b with
                  loads := b.loads.map fun x =>
                    if x.path = path then { x with next := x.next + 1, data := x.data.drop 4096 } else x })

/-- Loads that waited for tokens go on (09 R324). -/
def Sys.loadsRun (s : Sys) : Sys :=
  s.bc.loads.foldl (fun t j => t.loadLoop j.path (j.stop - j.next + 1)) s

/-! ## Sending (09 R310-R314) -/

/-- A segment packet: multicast, or to one receiver in its mode (09 R311). -/
def Sys.segPkt (o : BcObj) (seg : Nat) (rcv : Option Receiver) (s : Sys) : Pkt :=
  let data := getD o.segs seg []
  let dgei := match rcv with | some r => r.gei | none => o.mgroup.setWidth 32
  let p : Pkt := { s.ownPkt 2 4 o.tc dgei o.flow (BitVec.ofNat 32 seg) data with jtag := o.jtag, jgen := o.jgen }
  match rcv with
  | none => { p with rm := rmMulticast }
  | some r => if r.mode = .grafted then { p with rm := rmSource, hlen := 6, xp := true, ext := .sr r.graft } else p

/-- A receiver's stall limit starts again when it had nothing outstanding. -/
def Sys.noteOut (jtag : BitVec 16) (obj : Word) (k seg : Nat) (again : Bool) (s : Sys) : Sys :=
  match s.bcObj jtag obj with
  | none => s
  | some o =>
    match o.receivers[k]? with
    | some r =>
      match r.flow, s.recvFlow r with
      | some i, some f =>
        let t := s.noteSent i (BitVec.ofNat 32 seg) again
        if f.sent.isEmpty then t.modRecv jtag obj k fun r => { r with moved := s.clk.mono } else t
      | _, _ => s
    | none => s

/-- One segment leaves: tokens and room in the originated-packets pool permitting. -/
def Sys.sendWork (core : Nat) (o : BcObj) (w : BcWork) (s : Sys) : Option Sys :=
  let rcv := match w with | .mcast _ => none | .unicast k _ _ => o.receivers[k]?
  let seg := match w with | .mcast n => n | .unicast _ n _ => n
  let p := s.segPkt o seg rcv
  if !s.clk.valid ∨ !s.origRoom core p.len then none
  else
    match s.spendBc core o.jtag p.plen.toNat with
    | none => none
    | some t =>
      let n := o.receivers.length + 1
      let u := t.originate core p
      match w with
      | .mcast seg =>
        let v := (List.range o.receivers.length).foldl
          (fun a k => match o.receivers[k]? with
            | some r => if r.mode = .mcast then a.noteOut o.jtag o.obj k seg false else a
            | none => a)
          u
        some (v.modObj o.jtag o.obj fun o => { o with mnext := seg + 1, sent := o.sent + 1, turn := 1 % n })
      | .unicast k seg again =>
        let v := u.noteOut o.jtag o.obj k seg again
        some (if again then v
          else
            (v.modRecv o.jtag o.obj k fun r => { r with next := r.next + 1 }).modObj o.jtag o.obj fun o =>
              { o with turn := (k + 2) % n })

/-- The objects of a core die take turns: the next one that can send sends one segment (09 R314). -/
def Sys.segmentSend (core : Nat) (s : Sys) : Sys :=
  let mine (t : Sys) : List BcObj := t.bc.objs.filter fun o => o.jtag.toNat % 4 == core
  let s1 := (mine s).foldl (fun t o => if o.st = .active then t.openReceivers o.jtag o.obj else t) s
  let l := mine s1
  let n := l.length
  let turn := getD s1.bc.turn core 0
  let hit := (List.range n).findSome? fun j =>
    let k := (turn + j) % n
    match l[k]? with
    | some o =>
      match s1.bcNext o with
      | some w => (s1.sendWork core o w).map fun t => t.modBc fun b => { b with turn := put b.turn core ((k + 1) % n) }
      | none => none
    | none => none
  (hit.getD s1).loadsRun

/-- SEGMENT_SEND (R310). -/
def execSegmentSend (core : Core) (s : State) : Host.Outcome State Fault Refusal :=
  .next (s.onSys (Sys.segmentSend core.toNat))

/-- Segments of a receiver that are due leave at once while tokens and room last (05 R162, 09 R313); the rest leave at
SEGMENT_SEND, before new segments. -/
def Sys.resendObj (core : Nat) (jtag : BitVec 16) (obj : Word) (k : Nat) : Nat → Sys → Sys
  | 0, s => s
  | n + 1, s =>
    match s.bcObj jtag obj with
    | none => s
    | some o =>
      match o.receivers[k]? with
      | none => s
      | some r =>
        match s.recvFlow r with
        | some { due := x :: _, .. } =>
          if o.st = .active && r.live then
            match s.sendWork core o (.unicast k x.toNat true) with
            | some t => Sys.resendObj core jtag obj k n t
            | none => s
          else s
        | _ => s

/-- A receiver's ACK moves with its grant; at NSEG it is DONE and its context closes (09 R315). -/
def Sys.receiverAck (jtag : BitVec 16) (obj : Word) (k : Nat) (ack : Word) (s : Sys) : Sys :=
  match s.bcObj jtag obj with
  | none => s
  | some o =>
    match o.receivers[k]? with
    | none => s
    | some r =>
      if !r.live ∨ r.ack = ack then s
      else
        let t := s.modRecv jtag obj k fun r =>
          { r with
            ack, moved := s.clk.mono
            next := if serialAfter ack r.next then ack else r.next }
        (if o.nseg ≤ ack.toNat then t.endReceiver jtag obj k .done else t).objSettle jtag obj

/-! ## Filling (09 R307-R309) -/

/-- Bytes of segment `i`. -/
def BcObj.segLen (o : BcObj) (i : Nat) : Nat := if i + 1 = o.nseg then o.size - 4096 * i else 4096

/-- A segment that an inbound context accepted is written, and F follows ACK (09 R307). -/
def Sys.fillSegment (jtag : BitVec 16) (obj : Word) (i : Nat) (d : Delivery) (s : Sys) : Sys :=
  match get? s.flows.ctx i with
  | none => s
  | some f =>
    ((s.wrote (.object jtag obj)).modObj jtag obj fun o =>
      { o with
        segs := put o.segs d.pkt.seq.toNat d.pkt.payload
        fill := f.ack.toNat
        moved := if f.ack.toNat = o.fill then o.moved else s.clk.mono }).objSettle jtag obj

/-- A broadcast segment under its inbound context (09 R308). Without tokens it waits where it is. -/
def Sys.segmentWith (core : Nat) (d : Delivery) (s whenFull : Sys) : Sys :=
  let p := d.pkt
  let drop (code : Word) (t : Sys) : Sys := (t.dropDelivered core code true d).consume d
  match s.findFlow p.sgei p.flow false with
  | none => drop flowUnknown s
  | some (i, f) =>
    match s.bcObj f.jtag f.obj with
    | none => drop flowUnknown s
    | some o =>
      let run (t : Sys) : Sys :=
        if f.st = .opened ∧ (o.nseg ≤ p.seq.toNat ∨ p.plen.toNat ≠ o.segLen p.seq.toNat) then drop bcLength t
        else if !(t.flowAccepts i d).1 then ((t.flowAccepts i d).2.grantIfDue i).consume d
        else
          match t.spendBc core f.jtag p.plen.toNat with
          | none => whenFull
          | some u => (((u.flowAccepts i d).2.fillSegment f.jtag f.obj i d).grantIfDue i).consume d
      s.withContext core i d run whenFull

/-- The oldest broadcast segment of a core die. -/
def Sys.segmentReceive (core : Nat) (s : Sys) : Sys :=
  match s.takeDelivery fun d => d.svc == 2 && d.core == core && d.pkt.kind == 4 with
  | some (d, t) => t.segmentWith core d s
  | none => s

/-- BROADCAST_SEGMENT_RECEIVE (R308). -/
def execBroadcastSegmentReceive (core : Core) (s : State) : Host.Outcome State Fault Refusal :=
  .next (s.onSys (Sys.segmentReceive core.toNat))

/-! ## The broadcast command object (09 R305, R307, R310, R326, R327) -/

/-- BC_OPEN: the profile and the descriptor are checked when CMD is written, the receiver table and the rest of Table
09-4 during execution. -/
def bcOpen (path : Path) (cmd : Word) (arg : Nat → Word) (st : Stores) (dma : Dma) (s : Sys) : Except Word Sys :=
  let d := BcDesc.of (wordsToBytes ((List.range 16).map arg))
  if !s.hbmServices ∨ s.bcRegion = 0 then .error bcProfile
  else if !d.ok then .error bcDesc
  else
    let s1 := s.accept .bc path cmd []
    let need := 32 * d.nrecv
    match s1.region path (arg 16) need with
    | .error e => .ok (s1.failed .bc path e)
    | .ok b =>
      match regionRead st path b need dma with
      | .error _ => .ok (s1.failedDma .bc path b.dAddr)
      | .ok data =>
        let entries := (List.range d.nrecv).map fun i => (data.drop (32 * i)).take 32
        if !entries.all (fun e => s1.receiverOk d.obj.nseg e) then .ok (s1.failed .bc path bcDesc)
        else
          match bcCheck d.obj s1 with
          | some c => .ok (s1.failed .bc path c)
          | none =>
            let o := { d.obj with
              receivers := entries.map fun e => { Receiver.of e with moved := s1.clk.mono }, moved := s1.clk.mono }
            let s2 := (s1.unheld fun i => i == .object o.jtag o.obj).modBc fun b => { b with objs := b.objs ++ [o] }
            let s3 := if o.src then s2.openInflow o.jtag o.obj 0 else s2
            .ok (s3.done .bc path [])

/-- BC_LOAD: it must start at F (09 R307). It stays BUSY while tokens lack (09 R324). -/
def bcLoad (path : Path) (cmd : Word) (o : BcObj) (handle : Word) (first count : Nat) (st : Stores) (dma : Dma) (s : Sys) :
    Except Word Sys :=
  if o.st ≠ .active then .error bcState
  else if o.src ∨ first ≠ o.fill ∨ o.nseg < first + count then .error bcBadarg
  else
    let s1 := s.accept .bc path cmd []
    let need := min (4096 * count) (o.size - 4096 * first)
    match s1.region path handle need with
    | .error e => .ok (s1.failed .bc path e)
    | .ok b =>
      match regionRead st path b need dma with
      | .error _ => .ok (s1.failedDma .bc path b.dAddr)
      | .ok data =>
        let j : BcJob := { path, jtag := o.jtag, obj := o.obj, next := first, stop := first + count, data := data.take need }
        .ok ((s1.modBc fun b => { b with loads := b.loads ++ [j] }).loadLoop path (count + 1))

/-- BC_CLOSE takes effect: work stops, contexts close, and the object is CLOSING for one drain bound. -/
def Sys.closeObj (o : BcObj) (s : Sys) : Sys :=
  let flows := o.inflow.toList ++ o.receivers.filterMap Receiver.flow
  let t := flows.foldl (fun u i => u.closeFlow i) s
  (t.modObj o.jtag o.obj fun o => { o with st := .closing, segs := [], closing := some (t.startInterval t.drainNs) }).settle

/-- A write of CMD of the broadcast command object. -/
def bcCmd (path : Path) (cmd : Word) (st : Stores) (dma : Dma) (s : Sys) : Except Word Sys :=
  let sl := s.slot .bc path
  let arg := sl.arg
  let tag := BitVec.ofNat 16 (fld (arg 0) 31 16)
  let go := s.accept .bc path cmd []
  if sl.busy then .error tblBusy
  else if fld cmd 23 0 ≠ 0 then .error mgtReserved
  else
    match fld cmd 31 24 with
    | 1 => bcOpen path cmd arg st dma s
    | 2 =>
      match s.bcObj tag (arg 1) with
      | none => .error bcNoobj
      | some o => bcLoad path cmd o (arg 2) (arg 3).toNat (arg 4).toNat st dma s
    | 3 =>
      match s.bcObj tag (arg 1) with
      | none => .error bcNoobj
      | some o =>
        let stop := (arg 2).toNat + (arg 3).toNat
        if o.st ≠ .active ∧ o.st ≠ .complete then .error bcState
        else if o.nseg < stop then .error bcBadarg
        else .ok ((go.raiseLimit tag o.obj stop).done .bc path [])
    | 4 =>
      match s.bcObj tag (arg 1) with
      | none => .error bcNoobj
      | some o =>
        if o.st = .closing ∨ o.st = .stale then .error bcState else .ok ((go.closeObj o).done .bc path [])
    | _ => .error mgtReserved

/-- A broadcast command of a row. -/
def bcReq (path : Path) (op : Nat) (args : List (Nat × Word)) (st : Stores) (dma : Dma) (s : Sys) : Sys :=
  request path 0x5020 0 0
    (fun t => bcCmd path (BitVec.ofNat 32 (op * 2 ^ 24)) st dma (t.setArgs .bc path args)) s

/-- The ARG0 of a command that names an object. -/
def tagArg (jtag : BitVec 16) : Word := BitVec.ofNat 32 (jtag.toNat * 65536)

/-- BC_OPEN (R305). -/
def execBcOpen (path : Path) (desc : List Word) (handle : Word) (host : Dma) (s : State) : Host.Outcome State Fault Refusal :=
  .next (s.onSys (bcReq path 1 (argsFrom0 desc ++ [(16, handle)]) s.stores host))

/-- BC_LOAD (R307). -/
def execBcLoad (path : Path) (jtag : BitVec 16) (obj handle first count : Word) (host : Dma) (s : State) :
    Host.Outcome State Fault Refusal :=
  .next (s.onSys (bcReq path 2 [(0, tagArg jtag), (1, obj), (2, handle), (3, first), (4, count)] s.stores host))

/-- BC_SEND (R310). -/
def execBcSend (path : Path) (jtag : BitVec 16) (obj first count : Word) (s : State) : Host.Outcome State Fault Refusal :=
  .next (s.onSys (bcReq path 3 [(0, tagArg jtag), (1, obj), (2, first), (3, count)] {} .failed))

/-- BC_CLOSE (R326). -/
def execBcClose (path : Path) (jtag : BitVec 16) (obj : Word) (s : State) : Host.Outcome State Fault Refusal :=
  .next (s.onSys (bcReq path 4 [(0, tagArg jtag), (1, obj)] {} .failed))

/-! ## Deadlines and pulls (09 R316, R319-R321, R326) -/

/-- A receiver's ACK has not changed for REACHTO ms while segments are outstanding (09 R316). -/
def Sys.reachTimeout (jtag : BitVec 16) (obj : Word) (k : Nat) (s : Sys) : Sys :=
  match s.bcObj jtag obj with
  | none => s
  | some o =>
    match o.receivers[k]? with
    | none => s
    | some r =>
      let out := match s.recvFlow r with | some f => !f.sent.isEmpty | none => false
      if o.st = .active && r.live && out then (s.toMono (r.moved + o.reachTo * 1000000)).unreach jtag obj k else s

/-- RECEIVER_UNREACHABLE (R316). -/
def execReceiverUnreachable (jtag : BitVec 16) (obj : Word) (ridx : Nat) (s : State) : Host.Outcome State Fault Refusal :=
  .next (s.onSys (Sys.reachTimeout jtag obj ridx))

/-- A broadcast message of an object (09 R320). -/
def Sys.bcMsg (o : BcObj) (dest : Word) (mtype : Nat) (a b : Word) (s : Sys) : Pkt :=
  { s.ownPkt 2 9 o.tc dest o.flow 0 (toBe 4 (mtype * 2 ^ 24) ++ toBe 4 o.obj.toNat ++ toBe 4 a.toNat ++ toBe 4 b.toNat) with
    jtag := o.jtag, jgen := o.jgen }

/-- The relay turns to its next alternate source at F, or the object FAILS when none is left (09 R319). -/
def Sys.nextSource (jtag : BitVec 16) (obj : Word) (s : Sys) : Sys :=
  match s.bcObj jtag obj with
  | none => s
  | some o =>
    let core := jtag.toNat % 4
    let s1 := match o.inflow with | some i => s.closeFlow i | none => s
    let left := ([o.alt1, o.alt2].zipIdx.drop o.tried).find? fun e => e.1 != 0
    match left with
    | none =>
      ((s1.modObj jtag obj fun o => { o with inflow := none, pullSince := none, tried := 2 }).faultUnit faultBcUpstream
        (16 + core) [0, 0, obj, BitVec.ofNat 32 (jtag.toNat * 65536)]).failObj jtag obj bcUpstream
    | some (g, k) =>
      let f := BitVec.ofNat 32 o.fill
      let s2 := s1.modObj jtag obj fun o => { o with up := g, tried := k + 1, pullSince := some s.clk.mono }
      (s2.originate core (s2.bcMsg o g 1 f 0)).openInflow jtag obj f

/-- F of a relayed object has not changed for RESUMETO ms (09 R319). -/
def Sys.upstreamStall (jtag : BitVec 16) (obj : Word) (s : Sys) : Sys :=
  match s.bcObj jtag obj with
  | none => s
  | some o =>
    if o.st = .active ∧ o.src ∧ o.fill < o.nseg then (s.toMono (o.moved + o.resumeTo * 1000000)).nextSource jtag obj else s

/-- UPSTREAM_STALL (R319). -/
def execUpstreamStall (jtag : BitVec 16) (obj : Word) (s : State) : Host.Outcome State Fault Refusal :=
  .next (s.onSys (Sys.upstreamStall jtag obj))

/-- No BC_PULL_ACK has come within RESUMETO ms (09 R319). -/
def Sys.pullTimeout (jtag : BitVec 16) (obj : Word) (s : Sys) : Sys :=
  match s.bcObj jtag obj with
  | some { st := .active, pullSince := some t, resumeTo := r, .. } => (s.toMono (t + r * 1000000)).nextSource jtag obj
  | _ => s

/-- PULL_ACK_TIMEOUT (R319). -/
def execPullAckTimeout (jtag : BitVec 16) (obj : Word) (s : State) : Host.Outcome State Fault Refusal :=
  .next (s.onSys (Sys.pullTimeout jtag obj))

/-- The oldest broadcast message of a core die whose MTYPE satisfies `f`. -/
def Sys.takeBcMsg (core : Nat) (f : Nat → Bool) (s : Sys) : Option (Delivery × Sys) :=
  s.takeDelivery fun d => d.svc == 2 && d.core == core && d.pkt.kind == 9 && f d.pkt.mtype

/-- A pull: the sender becomes a PULL receiver, or is refused (09 R321). A message with a reserved MTYPE is discarded and
counted. -/
def Sys.pull321 (core : Nat) (s : Sys) : Sys :=
  match s.takeBcMsg core fun m => m != 2 with
  | none => s
  | some (d, t) =>
    let p := d.pkt
    if p.mtype ≠ 1 then (t.tally itemFlowDiscard (t.portOf d)).consume d
    else
      let obj := wordAt p.payload 4
      let a := wordAt p.payload 8
      let blank : BcObj :=
        { obj, jtag := p.jtag, jgen := p.jgen, flow := p.flow, mgroup := 0, tc := p.tc, src := false, size := 0, alt1 := 0,
          alt2 := 0, reachTo := 0, resumeTo := 0, receivers := [] }
      let refuse (o : BcObj) (code : Word) : Sys := t.originate core (t.bcMsg o p.sgei 2 0 code)
      let u :=
        match t.bcObj p.jtag obj with
        | none => refuse blank bcNoobj
        | some o =>
          if o.jgen ≠ p.jgen then refuse blank bcNoobj
          else if o.st ≠ BcSt.active ∧ o.st ≠ BcSt.complete then refuse o bcState
          else if 64 ≤ (o.receivers.filter Receiver.isPull).length then refuse o bcFull
          else
            let r : Receiver :=
              { gei := p.sgei, start := a, port := 0, graft := 0, mode := if o.nseg ≤ a.toNat then .done else .pull
                ack := a, next := a, moved := t.clk.mono, isPull := true }
            let v := t.modObj p.jtag obj fun o => { o with receivers := o.receivers ++ [r] }
            ((v.openReceivers p.jtag obj).originate core (v.bcMsg o p.sgei 2 a 0)).objSettle p.jtag obj
      u.consume d

/-- BC_PULL (R321). -/
def execBcPull (core : Core) (s : State) : Host.Outcome State Fault Refusal := .next (s.onSys (Sys.pull321 core.toNat))

/-- An answer to a pull: accepted, or the next alternate source is tried (09 R319). -/
def Sys.pullAck (core : Nat) (s : Sys) : Sys :=
  match s.takeBcMsg core fun m => m == 2 with
  | none => s
  | some (d, t) =>
    let p := d.pkt
    let obj := wordAt p.payload 4
    let u :=
      match t.bcObj p.jtag obj with
      | some o =>
        if o.jgen = p.jgen ∧ o.up = p.sgei ∧ o.pullSince.isSome ∧ o.st = BcSt.active then
          if wordAt p.payload 12 = 0 then t.modObj p.jtag obj fun o => { o with pullSince := none }
          else t.nextSource p.jtag obj
        else t.tally itemFlowDiscard (t.portOf d)
      | none => t.tally itemFlowDiscard (t.portOf d)
    u.consume d

/-- BC_PULL_ACK (R319). -/
def execBcPullAck (core : Core) (s : State) : Host.Outcome State Fault Refusal := .next (s.onSys (Sys.pullAck core.toNat))

/-- One drain bound after BC_CLOSE an object is FREE (09 R326). -/
def Sys.bcExpire (jtag : BitVec 16) (obj : Word) (s : Sys) : Sys :=
  match s.bcObj jtag obj with
  | some { st := .closing, closing := some i, .. } =>
    (s.toEnd i).modBc fun b => { b with objs := b.objs.filter fun o => !(o.jtag == jtag && o.obj == obj) }
  | _ => s

/-- BC_CLOSE_EXPIRE (R326). -/
def execBcCloseExpire (jtag : BitVec 16) (obj : Word) (s : State) : Host.Outcome State Fault Refusal :=
  .next (s.onSys (Sys.bcExpire jtag obj))

end Sys2Proof.Machine
end

