-- ==== Sys2Proof/Machine/Vault.lean ====
section
/-! DEFINITION. The parity vault: Quire slots, updates and rebuilds (10 R330-R351). -/

namespace Sys2Proof.Machine

/-! ## Descriptors (10 Tables 10-1, 10-2, 10-5) -/

/-- What a vault node's descriptor and slot give its context. -/
structure VaultDesc where
  ctx : BitVec 14
  mgroup : BitVec 16
  w : BitVec 8
  tc : BitVec 3
  tto : BitVec 16
  stall : BitVec 16
  version : Word
  flow0 : BitVec 24
  flow1 : BitVec 24
  rsv : Bool
  deriving DecidableEq, Repr

/-- The parity update descriptor. -/
def VaultDesc.ofUpdate (b : List Byte) : VaultDesc :=
  let x := beAt b 0 64
  { ctx := bv 14 x 498, version := bv 32 x 464, mgroup := bv 16 x 448, w := bv 8 x 440, tc := bv 3 x 437, tto := bv 16 x 416
    stall := bv 16 x 400, flow0 := 0, flow1 := 0
    rsv := bits x 497 496 == 0 && bits x 436 432 == 0 && bits x 399 0 == 0 }

/-- The rebuild descriptor. -/
def VaultDesc.ofRebuild (b : List Byte) : VaultDesc :=
  let x := beAt b 0 64
  { ctx := bv 14 x 498, version := 0, mgroup := bv 16 x 480, w := bv 8 x 472, tc := bv 3 x 469, tto := bv 16 x 448
    stall := bv 16 x 432, flow0 := bv 24 x 408, flow1 := bv 24 x 384
    rsv := bits x 497 496 == 0 && bits x 468 464 == 0 && bits x 383 0 == 0 }

/-- The fields of the descriptor are in range. -/
def VaultDesc.ok (d : VaultDesc) : Bool :=
  d.rsv && d.tc != 7 && 1 ≤ d.w.toNat && d.w.toNat ≤ 64 && 10 ≤ d.tto.toNat && d.tto.toNat ≤ 10000 && 1 ≤ d.stall.toNat &&
    d.stall.toNat ≤ 10000

/-- The arithmetic of parity and rebuild contexts (10 Table 10-2). -/
def vaultArith (seed : Word64) : Arith :=
  { ifmt := 14, ofmt := 14, op := 4, arev := 1, nelem := 4096, scale := 0x3F800000, seed }

/-- The context descriptor of a vault node (10 R333). -/
def VaultDesc.toCtx (d : VaultDesc) (jtag : BitVec 16) (jgen : BitVec 8) (members nstripe : Nat) (seed : Word64) : CtxDesc :=
  { ctx := d.ctx, jtag, jgen, role0 := 1, role1 := 0, fpol := false, tc := d.tc, mgroup := d.mgroup, w := d.w
    nslot := BitVec.ofNat 10 (members + 1023), nmem := BitVec.ofNat 20 (members + 2 ^ 20 - 1)
    ntiles := BitVec.ofNat 32 nstripe, tto := d.tto, stall := d.stall, arith := vaultArith seed }

/-- The member slots of a Quire's members but the lost ones. -/
def quireMembers (members : List Word) (lost : List Nat) : List Member :=
  (members.zipIdx.filter fun e => !lost.contains e.2).map fun e =>
    { gei := e.1, member := BitVec.ofNat 20 e.2, child := false, t1 := false, t0 := true, below := 1 }

/-- Vat SRAM that a vault node's context reserves (10 R334). -/
def VaultDesc.sram (d : VaultDesc) : Nat := d.w.toNat * 8320

/-- There is room for it on the home core die. -/
def Sys.vaultFits (d : VaultDesc) (s : Sys) : Bool := s.sramUsed (d.ctx.toNat % 4) + d.sram ≤ vatSram

/-! ## Space (10 R330) -/

/-- Size of the parity vault region in bytes (14 Table 14-2). -/
def Sys.vaultRegion (s : Sys) : Nat := (match s.mem.alloc with | 0 => 432 | 1 => 384 | 2 => 336 | _ => 0) * 2 ^ 30

/-- Vault that slots take. -/
def Sys.vaultUsed (s : Sys) : Nat := sum (s.vault.slot.map fun e => e.2.nstripe * 16384)

/-! ## Staging and rebuilding (10 R335-R337, R344, R345) -/

/-- The stripe result payload (10 Table 10-3). -/
def stripeResult (version : Word) (stripe staged : Nat) (commit : Bool) : List Byte :=
  toBe 4 version.toNat ++ toBe 4 stripe ++ toBe 4 staged ++ toBe 4 (b2n commit * 2 ^ 31)

/-- Stripes staged at a version: their shadow banks hold P and Q of it (10 R335). -/
def Quire.stagedAt (q : Quire) (v : Word) : Nat := (q.shadow.filter fun e => e.2.version == v).length

/-- A stripe enters its shadow bank with the tag of its version, and counts as staged at CV + 1 when the tag is that; the last one
of them commits the slot (10 R335-R337). The answer says how many stripes are staged at the version, and whether it committed. -/
def Quire.stage (q : Quire) (stripe : Nat) (b : Bank) (jgen : BitVec 8) : Quire × Nat × Bool :=
  let new := b.version == q.cv + 1
  let staged := if new then insertNat stripe q.staged else q.staged.filter fun i => i != stripe
  let shadow := put q.shadow stripe b
  if new && decide (q.nstripe ≤ staged.length) then
    ({ q with
       current := shadow, shadow := q.current, staged := [], bad := [], cv := q.cv + 1, valid := true, lastGen := jgen },
     staged.length, true)
  else
    let r := { q with shadow, staged }
    (r, r.stagedAt b.version, false)

/-- The lanes of a tile: P and Q of an update, sp and sq of a rebuild. -/
def Tile.lanes2 (t : Tile) : List Byte × List Byte :=
  let z := List.replicate 4096 (0 : Byte)
  (if t.xor.isEmpty then z else t.xor, if t.wxor.isEmpty then z else t.wxor)

/-- The lost stripes from the committed parities and the survivors' sums (10 R344). -/
def rebuildStripe (b : Bank) (sp sq : List Byte) (lost : List Nat) : List (List Byte) :=
  let two := lost.length == 2
  let x := nth lost 0 0
  let y := nth lost 1 0
  let byte (l : List Byte) (i : Nat) : Nat := (nth l i 0).toNat
  let d := (List.range 4096).map fun i => rebuildByte (byte b.p i) (byte b.q i) (byte sp i) (byte sq i) x y two
  let one := d.map fun e => BitVec.ofNat 8 e.1
  if two then [one, d.map fun e => BitVec.ofNat 8 e.2] else [one]

/-- A stripe is rebuilt: its shards wait to be sent and acknowledged. -/
def Sys.rebuildTile (c tile : Nat) (x : Ctx) (p : ParityUse) (q : Quire) (s : Sys) : Sys :=
  let l := (x.tile tile).lanes2
  let lost := match q.rebuild with | some r => r.lost | none => []
  let b := getD q.current tile { p := [], q := [], version := 0 }
  (s.modQuire p.qslot fun q => { q with shards := put q.shards tile (rebuildStripe b l.1 l.2 lost) }).modCtx c fun x =>
    { x with tiles := put x.tiles tile { x.tile tile with waiting := true } }

/-- After a commit the banks of a slot change places, and the poisoned units with them (10 R335, 14 R437). -/
def Sys.swapPoison (q : Nat) (s : Sys) : Sys :=
  s.modMem fun m =>
    { m with
      poisoned := m.poisoned.map fun e =>
        (e.1, match e.2 with
          | .stripe k i shadow => if k = q then .stripe k i !shadow else e.2
          | i => i) }

/-- A complete stripe of an update is staged, its result multicast, and the tile completes (10 R336). -/
def Sys.stageStripe (c tile : Nat) (x : Ctx) (p : ParityUse) (q : Quire) (s : Sys) : Sys :=
  let l := (x.tile tile).lanes2
  let r := q.stage tile { p := l.1, q := l.2, version := p.version } x.desc.jgen
  let data := stripeResult p.version tile r.2.1 r.2.2
  let t := s.wrote (.stripe p.qslot tile true)
  let u := (if r.2.2 then t.swapPoison p.qslot else t).modQuire p.qslot fun _ => r.1
  (u.sendResult x tile data false none).completeTile c tile data false

/-- A tile of a vault context that has every bit is staged or rebuilt, when the parity tokens pay for its HBM access
and its core die has a grant (17 R505, 01 R30). -/
def Sys.stageTile (c tile : Nat) (s : Sys) : Sys :=
  match s.ctx c with
  | some x =>
    match x.parity with
    | some p =>
      match s.quire p.qslot with
      | some q =>
        let n := if p.rebuild then (match q.rebuild with | some r => r.lost.length | none => 1) else 2
        if x.st == .active && x.inScope tile && decide (x.low ≤ tile) && !x.ahead.contains tile && !(x.tile tile).waiting &&
            x.ready tile && decide (4096 * n ≤ s.tokens .parity) && !s.hearth.noGrant.contains (16 + c % 4) then
          let t := s.spend .parity (4096 * n)
          if p.rebuild then t.rebuildTile c tile x p q else t.stageStripe c tile x p q
        else s
      | none => s
    | none => s
  | none => s

/-- Every tile of the window of a vault context that can be staged or rebuilt now. -/
def Sys.stageReady (c : Nat) (s : Sys) : Sys :=
  match s.ctx c with
  | some x => (List.range x.desc.w.toNat).foldl (fun t k => t.stageTile c (x.low + k)) s
  | none => s

/-- Tiles that waited for parity tokens, on every context that a vault node opened. -/
def Sys.stageAll (s : Sys) : Sys :=
  (s.coll.ctx.foldl (fun t e => if e.2.parity.isSome then t.stageReady e.1 else t) s).settle

/-- A parity packet reaches its home core die (10 R334). -/
def Sys.parityReceive (core : Nat) (vat : VatCheck) (s : Sys) : Sys :=
  if !s.vatsRun core then s
  else
    match s.takeDelivery fun d => d.svc == 3 && d.core == core && d.pkt.kind == 5 with
    | none => s
    | some (d, t) =>
      match t.takeContribution core vat true d (fun c _ u => u.stageReady c) with
      | .consumed u => (u.consume d).settle
      | .waits => s

/-- PARITY_RECEIVE (R334). -/
def execParityReceive (core : Core) (vat : VatCheck) (s : State) : Host.Outcome State Fault Refusal :=
  .next (s.onSys (Sys.parityReceive core.toNat vat))

/-! ## Shards (10 R345) -/

/-- A shard of a rebuild context to a replacement. -/
def Sys.shardPkt (x : Ctx) (r : QRebuild) (k tile : Nat) (flow : BitVec 24) (again : Bool) (data : List Byte) (s : Sys) : Pkt :=
  { s.collPkt x 5 false (nth r.dests k 0) tile 14 (nth r.lost k 0) false false again data with sgei := s.ownGei 3, flow }

/-- A shard leaves: a resend that is due, else the next stripe, when it is rebuilt and within the window. -/
def Sys.sendShard (q k : Nat) (again : Bool) (s : Sys) : Option Sys :=
  match s.quire q with
  | some { rebuild := some r, shards, .. } =>
    match s.ctx r.ctx, r.flows[k]? with
    | some x, some i =>
      match get? s.flows.ctx i with
      | some f =>
        let seq := match again, f.due with | true, y :: _ => y | _, _ => f.next
        let ok := if again then !f.due.isEmpty else serialAfter f.limit f.next
        match get? shards seq.toNat with
        | some l =>
          let p := s.shardPkt x r k seq.toNat f.flow again (nth l k [])
          if ok && f.st == .opened && x.st == .active && s.clk.valid && s.origRoom (r.ctx % 4) p.len then
            some ((s.originate (r.ctx % 4) p).noteSent i seq again)
          else none
        | none => none
      | none => none
    | _, _ => none
  | _ => none

/-- A shard of one replacement leaves; resends go first. -/
def Sys.shardSend (q k : Nat) (s : Sys) : Sys :=
  match s.sendShard q k true with
  | some t => t
  | none => (s.sendShard q k false).getD s

/-- REBUILD_SHARD_SEND (R345). -/
def execRebuildShardSend (qslot : BitVec 12) (second : Bool) (s : State) : Host.Outcome State Fault Refusal :=
  .next (s.onSys (Sys.shardSend qslot.toNat (b2n second)))

/-- Shards of a replacement that are due leave at once while room lasts (05 R162). -/
def Sys.resendShards (q k : Nat) : Nat → Sys → Sys
  | 0, s => s
  | n + 1, s =>
    match s.sendShard q k true with
    | some t => Sys.resendShards q k n t
    | none => s

/-- Every replacement has acknowledged a stripe. -/
def Sys.shardAcked (r : QRebuild) (tile : Nat) (s : Sys) : Bool :=
  let x := BitVec.ofNat 32 tile
  r.flows.all fun i =>
    match get? s.flows.ctx i with
    | some f => serialAfter f.ack x || f.got.contains x
    | none => false

/-- Stripes that every replacement has acknowledged complete (10 R345), and the window moves. -/
def Sys.shardsDone (q : Nat) (s : Sys) : Sys :=
  match s.quire q with
  | some { rebuild := some r, shards, cv, .. } =>
    let acks := r.flows.map fun i => match get? s.flows.ctx i with | some f => f.ack | none => 0
    let s1 := s.modQuire q fun x => { x with acked := acks }
    let ready := (shards.map fun e => e.1).filter fun t => s.shardAcked r t
    let s2 := ready.foldl
      (fun t tile =>
        match t.ctx r.ctx with
        | some x =>
          if x.st = .active then
            let data := stripeResult cv tile (x.done + 1) false
            (((t.modQuire q fun x => { x with shards := del x.shards tile }).sendResult x tile data false none).completeTile
              r.ctx tile data false)
          else t
        | none => t)
      s1
    (s2.stageReady r.ctx).settle
  | _ => s

/-! ## Starts of vault nodes (10 R338, R343) -/

/-- What an admission visit finds. -/
inductive Start where
  | wait
  | go (s : Sys)
  | fail (cause : Word)
  deriving DecidableEq, Repr

/-- The checks of R338 in order. -/
def updateCheck (q : Option Quire) (jtag : BitVec 16) (d : VaultDesc) (first count : Nat) : Option Word :=
  match q with
  | none => some vaultJob
  | some q =>
    if q.jtag ≠ jtag then some vaultJob
    else if d.version ≠ q.cv + 1 then some vaultVersion
    else if q.st ≠ .ready ∧ q.st ≠ .updating then some vaultState
    else if q.nstripe < first + count then some vaultRange
    else if q.updates.any fun u => u.first < first + count && first < u.first + u.count then some vaultRange
    else none

/-- Start of a PARITY_UPDATE node: it waits for a slot that is REBUILDING and for Vat SRAM (10 R338, 08 R277). -/
def Sys.startUpdate (gid i : Nat) (g : Graph) (n : Node) (s : Sys) : Start :=
  let d := VaultDesc.ofUpdate (bytesAt g.data (n.a 255 224) 64)
  let first := n.a 319 288
  let count := n.a 287 256
  match s.quire n.qslot with
  | some { st := .rebuilding, .. } => .wait
  | q =>
    match updateCheck q g.jtag d first count with
    | some c => .fail c
    | none =>
      if !d.ok then .fail vaultDesc
      else if (s.ctx d.ctx.toNat).isSome then .fail collState
      else if !s.vaultFits d then .wait
      else
        match q with
        | none => .fail vaultJob
        | some q =>
          let ms := quireMembers q.members []
          let use : ParityUse := { qslot := n.qslot, rebuild := false, gid, node := i, first, count, version := d.version }
          .go ((s.newCtx (d.toCtx g.jtag g.jgen ms.length q.nstripe (d.version.setWidth 64)) ms d.sram 0 (some (gid, i))
              (some use)).modQuire n.qslot fun q =>
            { q with st := .updating, updates := q.updates ++ [{ gid, node := i, first, count }] })

/-- Lost indices and replacements of a REBUILD node. -/
def Node.losses (n : Node) : List Nat × List Word :=
  if n.a 299 299 = 1 then
    ([n.a 339 320, n.a 319 300], [BitVec.ofNat 32 (n.a 287 256), BitVec.ofNat 32 (n.a 255 224)])
  else ([n.a 339 320], [BitVec.ofNat 32 (n.a 287 256)])

/-- The checks of R343 in order. -/
def rebuildCheck (q : Option Quire) (jtag : BitVec 16) (jgen : BitVec 8) (lost : List Nat) (dests : List Word) : Option Word :=
  match q with
  | none => some vaultJob
  | some q =>
    if q.jtag ≠ jtag ∨ jgen = q.lastGen then some vaultJob
    else if (q.st ≠ .ready ∧ q.st ≠ .degraded) ∨ !q.valid then some vaultState
    else if !q.bad.isEmpty then some vaultBadstripe
    else if lost.any (fun x => decide (q.members.length ≤ x)) || lost.eraseDups.length != lost.length then some vaultDesc
    else if q.lost.any fun x => !lost.contains x then some vaultState
    else if dests.any fun d => d == 0 || q.members.contains d then some vaultDesc
    else none

/-- The outbound flow contexts of the replacements open (10 R345); none when contexts lack. -/
def openShardFlows (d : VaultDesc) (jtag : BitVec 16) (jgen : BitVec 8) (qslot : Nat) :
    List (Word × BitVec 24) → Sys → Option (List Nat × Sys)
  | [], s => some ([], s)
  | (gei, flow) :: r, s =>
    match s.openFlow (Flow.new gei flow true jtag jgen 3 0 (d.ctx.setWidth 32) qslot) with
    | none => none
    | some (i, t) => (openShardFlows d jtag jgen qslot r t).map fun e => (i :: e.1, e.2)

/-- Start of a REBUILD node: it waits until the slot is not UPDATING, and for Vat SRAM and flow contexts. -/
def Sys.startRebuild (gid i : Nat) (g : Graph) (n : Node) (s : Sys) : Start :=
  let d := VaultDesc.ofRebuild (bytesAt g.data (n.a 223 192) 64)
  let l := n.losses
  match s.quire n.qslot with
  | some { st := .updating, .. } => .wait
  | none => .fail vaultJob
  | some q =>
    match rebuildCheck (some q) g.jtag g.jgen l.1 l.2 with
    | some c => .fail c
    | none =>
      if !d.ok then .fail vaultDesc
      else if (s.ctx d.ctx.toNat).isSome then .fail collState
      else if !s.vaultFits d then .wait
      else
        match openShardFlows d g.jtag g.jgen n.qslot (l.2.zip [d.flow0, d.flow1]) s with
        | none => .wait
        | some (fs, t) =>
          let ms := quireMembers q.members l.1
          let use : ParityUse :=
            { qslot := n.qslot, rebuild := true, gid, node := i, first := 0, count := q.nstripe, version := q.cv }
          let seed := 0x8000000000000000#64 ||| q.cv.setWidth 64
          let u := (t.newCtx (d.toCtx g.jtag g.jgen ms.length q.nstripe seed) ms d.sram 0 (some (gid, i)) (some use)).modQuire
            n.qslot fun q =>
              { q with
                st := .rebuilding, lost := l.1, staged := [], shadow := [], shards := [], acked := l.1.map fun _ => 0
                rebuild := some { gid, node := i, ctx := d.ctx.toNat, lost := l.1, dests := l.2, flows := fs } }
          .go (u.stageReady d.ctx.toNat)

/-- QUIRE_ALLOC: checks 1 and 2 but the GEIs when CMD is written, the rest during execution. -/
def quireAlloc (path : Path) (cmd : Word) (arg : Nat → Word) (st : Stores) (dma : Dma) (s : Sys) : Except Word Sys :=
  let q := fld (arg 0) 11 0
  let k := fld (arg 1) 7 0 + 1
  let tag : BitVec 16 := BitVec.ofNat 16 (fld (arg 1) 31 16)
  let n := (arg 2).toNat
  if !s.hbmServices ∨ s.vaultRegion = 0 then .error vaultProfile
  else if fld (arg 0) 31 12 ≠ 0 ∨ fld (arg 1) 15 8 ≠ 0 ∨ k < 2 ∨ 255 < k ∨ n < 1 ∨ 16777216 < n then .error vaultDesc
  else
    let s1 := s.accept .vault path cmd []
    match s1.region path (arg 3) (4 * k) with
    | .error e => .ok (s1.failed .vault path e)
    | .ok b =>
      match regionRead st path b (4 * k) dma with
      | .error _ => .ok (s1.failedDma .vault path b.dAddr)
      | .ok data =>
        let ms := bytesToWords data
        let fail (c : Word) : Except Word Sys := .ok (s1.failed .vault path c)
        if ms.contains 0 || ms.eraseDups.length != ms.length then fail vaultDesc
        else if !(s.job tag).active then fail vaultJob
        else if (s.quire q).isSome then fail vaultState
        else if s.vaultRegion < s.vaultUsed + n * 16384 then fail vaultNospace
        else
          .ok ((s1.modVault fun v => { v with slot := put v.slot q { jtag := tag, members := ms, nstripe := n } }).done
            .vault path [])

/-- A write of CMD of the vault command object. -/
def vaultCmd (path : Path) (cmd : Word) (st : Stores) (dma : Dma) (s : Sys) : Except Word Sys :=
  let sl := s.slot .vault path
  if sl.busy then .error tblBusy
  else if fld cmd 23 0 ≠ 0 then .error mgtReserved
  else
    match fld cmd 31 24 with
    | 1 => quireAlloc path cmd sl.arg st dma s
    | 2 =>
      let q := fld (sl.arg 0) 11 0
      match s.quire q with
      | none => .error vaultState
      | some x =>
        if x.st = .updating ∨ x.st = .rebuilding then .error vaultState
        else .ok (((s.accept .vault path cmd []).modVault fun v => { v with slot := del v.slot q }).done .vault path [])
    | _ => .error mgtReserved

/-- A vault command of a row. -/
def vaultReq (path : Path) (op : Nat) (args : List (Nat × Word)) (st : Stores) (dma : Dma) (s : Sys) : Sys :=
  request path 0x5040 0 0
    (fun t => vaultCmd path (BitVec.ofNat 32 (op * 2 ^ 24)) st dma (t.setArgs .vault path args)) s

/-- QUIRE_ALLOC (R350). -/
def execQuireAlloc (path : Path) (slot jobK nstripe handle : Word) (host : Dma) (s : State) :
    Host.Outcome State Fault Refusal :=
  .next (s.onSys (vaultReq path 1 [(0, slot), (1, jobK), (2, nstripe), (3, handle)] s.stores host))

/-- QUIRE_FREE (R350). -/
def execQuireFree (path : Path) (slot : Word) (s : State) : Host.Outcome State Fault Refusal :=
  .next (s.onSys (vaultReq path 2 [(0, slot)] {} .failed))

/-- Every Quire slot is LOST with the loss of a stack or a core die (10 R348). -/
def Sys.loseVault (s : Sys) : Sys :=
  s.vault.slot.foldl
    (fun t e =>
      if e.2.st = .lost then t
      else
        ((t.rebuildFails e.1 collHwfault).modQuire e.1 fun q => { q with st := .lost, updates := [] }).faultUnit
          faultVaultLost (16 + t.collierCore) [0, 0, BitVec.ofNat 32 e.1, BitVec.ofNat 32 (e.2.jtag.toNat * 65536)])
    s

end Sys2Proof.Machine
end

