-- ==== Sys2Proof/Machine/FlowRows.lean ====
section
/-! DEFINITION. The flow-control rows: received grants, grant refresh, the timer wheel, freeing and fetching contexts
(05 R158-R162, R179-R183). -/

namespace Sys2Proof.Machine

/-- What a flow's owner does after its sender side has moved: receivers advance, shards complete, and numbers that are
due leave at once (05 R162, 09 R313, R315, 10 R345). -/
def Sys.senderMoved (i : Nat) (s : Sys) : Sys :=
  match get? s.flows.ctx i with
  | none => s
  | some f =>
    match f.svc.toNat with
    | 2 => (s.receiverAck f.jtag f.obj f.ridx f.ack).resendObj f.home f.jtag f.obj f.ridx 64
    | 0 => s.inbandMoved i
    | 3 =>
      let k := match s.quire f.ridx with
        | some { rebuild := some r, .. } => (r.flows.findIdx? fun j => j == i).getD 0
        | _ => 0
      (s.resendShards f.ridx k 64).shardsDone f.ridx
    | _ => s

/-- A credit grant at its service (05 R158, R180): one that does not follow the last accepted grant, or whose context is
FREE or STALE, is dropped and counted. DESIGN CHOICE (log 162): an accepted grant starts the idle time again, and LAST stands. -/
def Sys.grantWith (core : Nat) (d : Delivery) (s whenFull : Sys) : Sys :=
  let p := d.pkt
  let ignored (t : Sys) : Sys := (t.tally itemGrantIgnored (t.portOf d)).consume d
  match s.findFlow p.sgei p.flow true with
  | none => ignored s
  | some (i, f) =>
    if f.st = .stale then ignored s
    else
      let run (t : Sys) : Sys :=
        if serialAfter p.seq f.gseq then
          let u := (t.takeGrant i p.seq (GrantBody.of p.payload)).modFlow i fun f => { f with lastIv := t.startInterval 0 }
          (u.senderMoved i).consume d
        else ignored t
      s.withContext core i d run whenFull

/-- The oldest credit grant waiting at a core die. -/
def Sys.grantReceive (core : Nat) (s : Sys) : Sys :=
  match s.takeDelivery fun d => d.core == core && d.pkt.kind == 6 with
  | some (d, t) => t.grantWith core d s
  | none => s

/-- CREDIT_GRANT_RECEIVE (R158). -/
def execCreditGrantReceive (core : Core) (s : State) : Host.Outcome State Fault Refusal :=
  .next (s.onSys (Sys.grantReceive core.toNat))

/-- While a number is missing the receiver sends a grant at least every 65,536 ns (05 R160). -/
def Sys.grantRefresh (i : Nat) (s : Sys) : Sys :=
  match get? s.flows.ctx i with
  | some f =>
    if f.st = .opened ∧ !f.outbound ∧ f.next ≠ f.ack then (s.toExt (f.grantTime + 65536)).sendGrant i false else s
  | none => s

/-- GRANT_REFRESH_TIMER (R160). -/
def execGrantRefreshTimer (flow : Nat) (s : State) : Host.Outcome State Fault Refusal :=
  .next (s.onSys (Sys.grantRefresh flow))

/-- A context whose deadline has come is fetched and acted on: overdue numbers are resent, an idle flow with nothing
outstanding closes (05 R162, R179, R183). -/
def Sys.wheelAct (core i : Nat) (s : Sys) : Sys :=
  match get? s.flows.ctx i with
  | none => s
  | some f =>
    let late := s.overdue f
    let s1 := s.touch core i
    if f.outbound && !f.sent.isEmpty then
      (s1.modFlow i fun f => { f with due := (f.due ++ late).eraseDups }).senderMoved i
    else if f.quiet then s1.closeFlow i
    else s1

/-- ns to the end of the wheel slot in which a deadline `n` ns away lies: slots of one control cycle, on fabric time, or on the
free-running count while the time-valid flag is clear (05 R183). -/
def Sys.slotEnd (n : Nat) (s : Sys) : Nat :=
  let base := if s.clk.valid then s.clk.ext.toNat else s.clk.mono
  (base + n + 2 ^ 17 - 1) / 2 ^ 17 * 2 ^ 17 - base

/-- The next slot of a core die's wheel that lists a context falls due, and every context listed by then is acted on (05
R183). -/
def Sys.wheelSlot (core : Nat) (s : Sys) : Sys :=
  let listed := (s.flows.ctx.filter fun e => e.2.home == core).filterMap fun e => (s.deadline e.2).map fun n => (e.1, n)
  match listed with
  | [] => s
  | e :: r =>
    let n := s.slotEnd (r.foldl (fun a x => min a x.2) e.2)
    ((listed.filter fun x => x.2 ≤ n).foldl (fun u x => u.wheelAct core x.1) (s.advance n)).settle

/-- TIMER_WHEEL_SLOT (R183). -/
def execTimerWheelSlot (core : Core) (s : State) : Host.Outcome State Fault Refusal :=
  .next (s.onSys (Sys.wheelSlot core.toNat))

/-- A CLOSING context becomes FREE one drain bound later (05 R179). -/
def Sys.contextFree (i : Nat) (s : Sys) : Sys :=
  match get? s.flows.ctx i with
  | some { st := .closing, closing := some v, .. } => (s.toEnd v).freeFlow i
  | _ => s

/-- FLOW_CONTEXT_FREE (R179). -/
def execFlowContextFree (flow : Nat) (s : State) : Host.Outcome State Fault Refusal :=
  .next (s.onSys (Sys.contextFree flow))

/-- HBM traffic of a fetch: the 256 B of the context, and the 256 B of the one that it replaces when that has changed (05 R181). -/
def Sys.fetchBytes (core : Nat) (i : Option Nat) (s : Sys) : Nat :=
  256 + (if (i.bind fun i => s.writeBack core i).isSome then 256 else 0)

/-- The context of the oldest packet in a core die's miss queue has been fetched, and the packet is handled (05 R182); an
in-band request is again the first that waits. A fetch spends flow-context tokens, and waits for them (17 Table 17-5), or for a
new grant to its die (01 R30). -/
def Sys.fetchComplete (core : Nat) (s : Sys) : Sys :=
  match getD s.flows.missq core [] with
  | [] => s
  | d :: rest =>
    let found := (s.findFlow d.pkt.sgei d.pkt.flow (d.pkt.kind == 6)).map fun e => e.1
    if s.tokens .flow < s.fetchBytes core found ∨ s.hearth.noGrant.contains (16 + core) then s
    else
    let s1 := ((s.memAccess (16 + core) false []).spend .flow 256).modFlows fun f => { f with missq := put f.missq core rest }
    let s2 := match s1.findFlow d.pkt.sgei d.pkt.flow (d.pkt.kind == 6) with
      | some (i, _) => s1.touch core i
      | none => s1
    let t :=
      if d.svc = 0 ∧ d.pkt.kind = 9 then s2.modSw fun w => { w with svc := d :: w.svc }
      else if d.pkt.kind = 6 then s2.grantWith core d s
      else if d.pkt.kind = 4 then s2.segmentWith core d s
      else s2.submitDataWith core d s
    t.settle

/-- CONTEXT_FETCH_COMPLETE (R182). -/
def execContextFetchComplete (core : Core) (s : State) : Host.Outcome State Fault Refusal :=
  .next (s.onSys (Sys.fetchComplete core.toNat))

end Sys2Proof.Machine
end

