-- ==== Sys2Proof/Machine/Admission.lean ====
section
/-! DEFINITION. The admission pass of a core die and the start of every kind of node (08 R277-R285; 09 R322). -/

namespace Sys2Proof.Machine

/-- Hearth units of a node. -/
def Node.units (n : Node) : Nat :=
  match n.kind.toNat with
  | 1 => if n.a 337 337 = 1 then 4 else 0
  | 2 => 1
  | 3 => 2
  | 4 => 4
  | 5 => 8
  | _ => 0

/-- The context descriptor and the member table that a REDUCE node opens with. -/
def Node.reduceDesc (g : Graph) (n : Node) : CtxDesc × List Member :=
  let doff := n.a 255 224
  let d := CtxDesc.of (bytesAt g.data doff 64)
  let k := d.nslot.toNat + 1
  (d, membersOf (bytesAt g.data (doff + 64) (16 * k)) k)

/-- Why a REDUCE node with OPEN fails at its start, whatever is free (08 R281). -/
def Sys.openRefusal (n : Node) (d : CtxDesc) (ms : List Member) (s : Sys) : Option Word :=
  if d.ctx.toNat ≠ n.a 351 338 then some collDesc
  else
    match ctxCheck d s with
    | some c => some c
    | none =>
      if !membersOk d ms then some collMembers
      else if d.ntiles ≠ 0 ∧ d.ntiles.toNat < n.a 319 288 + n.a 287 256 then some graphBadarg
      else none

/-- The packet of a MULTICAST node (08 R284). -/
def Sys.multicastPkt (g : Graph) (n : Node) (s : Sys) : Pkt :=
  { s.ownPkt 4 1 (BitVec.ofNat 3 (n.a 335 333)) (BitVec.ofNat 32 (n.a 351 336)) (BitVec.ofNat 24 (n.a 271 248))
      (BitVec.ofNat 32 (n.a 247 216)) (bytesAt g.data (n.a 319 288) (n.a 287 275)) with
    rm := rmMulticast, jtag := g.jtag, jgen := g.jgen }

/-- Live receivers of an object that lack a flow context. -/
def BcObj.lacking (o : BcObj) : Nat := (o.receivers.filter fun r => r.live && r.flow.isNone).length

/-- The pools a node takes from, and whether each has what it needs. -/
def Sys.poolsOf (g : Graph) (n : Node) (s : Sys) : List (NodePool × Bool) :=
  let core := n.core g
  let u := if n.units = 0 then [] else [(NodePool.units, decide (n.units ≤ getD s.graphs.units core 0))]
  let rest :=
    match n.kind.toNat with
    | 1 =>
      if n.a 337 337 = 1 then
        let r := n.reduceDesc g
        let bad := (s.openRefusal n r.1 r.2).isSome
        let need := r.1.sram (r.2.filter Member.child).length
        [(NodePool.sram, bad || decide (s.sramUsed core + need ≤ vatSram)),
         (NodePool.escape, bad || decide (r.1.arith.reserve ≤ s.escFree))]
      else []
    | 2 => [(NodePool.cells, s.clk.valid && s.origRoom core (s.multicastPkt g n).len)]
    | 3 =>
      match s.bcObj g.jtag (BitVec.ofNat 32 (n.a 351 320)) with
      | some o =>
        [(NodePool.flows,
          (s.flows.ctx.filter fun e => e.2.home == core).length + o.lacking ≤ 1048576 &&
            s.flows.ctx.length + o.lacking ≤ 4194304)]
      | none => []
    | 4 => [(NodePool.sram, s.vaultFits (VaultDesc.ofUpdate (bytesAt g.data (n.a 255 224) 64)))]
    | 5 =>
      [(NodePool.sram, s.vaultFits (VaultDesc.ofRebuild (bytesAt g.data (n.a 223 192) 64))),
       (NodePool.flows, s.flowRoom core)]
    | _ => []
  u ++ rest

/-- Start of a REDUCE node (08 R281). -/
def Sys.startReduce (gid i : Nat) (g : Graph) (n : Node) (s : Sys) : Start :=
  let stop := n.a 319 288 + n.a 287 256
  if n.a 337 337 = 1 then
    let r := n.reduceDesc g
    match s.openRefusal n r.1 r.2 with
    | some c => .fail c
    | none => .go (s.openCtx r.1 r.2 (some (gid, i)))
  else
    match s.ctx (n.a 351 338) with
    | none => .fail graphState
    | some x =>
      match x.st with
      | .active | .complete => if x.desc.ntiles ≠ 0 ∧ x.desc.ntiles.toNat < stop then .fail graphBadarg else .go s
      | .aborted => .fail x.cause
      | _ => .fail graphState

/-- Start of a BROADCAST_SEGMENT node (09 R322). -/
def Sys.startBroadcast (g : Graph) (n : Node) (s : Sys) : Start :=
  let obj := BitVec.ofNat 32 (n.a 351 320)
  let stop := n.a 319 288 + n.a 287 256
  match s.bcObj g.jtag obj with
  | none => .fail bcNoobj
  | some o =>
    if o.st ≠ .active ∧ o.st ≠ .complete then .fail bcNoobj
    else if o.nseg < stop then .fail bcBadarg
    else .go (s.raiseLimit g.jtag obj stop)

/-- What the start of an admitted node does (08 R281-R285). -/
def Sys.startNode (gid i : Nat) (g : Graph) (n : Node) (s : Sys) : Start :=
  match n.kind.toNat with
  | 1 => s.startReduce gid i g n
  | 2 =>
    let id := s.sw.nextId
    .go ((s.originate g.home (s.multicastPkt g n)).modNode gid i fun n => { n with pkt := some id })
  | 3 => s.startBroadcast g n
  | 4 => s.startUpdate gid i g n
  | 5 => s.startRebuild gid i g n
  | 8 =>
    let s1 := if n.a 351 320 = 0 then s else s.originate g.home (s.notifyPkt gid g i n)
    .go (if n.a 319 319 = 1 then s1.msix (n.a 318 313) else s1)
  | _ => .go s

/-- An admitted node takes its units, holds nothing any longer and is RUNNING (08 R278, R279). -/
def Sys.nodeAdmitted (gid i core : Nat) (n : Node) (s : Sys) : Sys :=
  let s1 := s.modGraphs fun g => { g with units := modify g.units core 0 (· - n.units) }
  (s1.modNode gid i fun n => { n with st := .running, tstart := s.now, holds := [] }).event (16 + core) 0x25 0 1

/-- An admitted node has started; what waited for its start becomes READY (08 R276). -/
def Sys.takeIn (gid i core : Nat) (n : Node) (s : Sys) : Sys := ((s.nodeAdmitted gid i core n).makeReady gid).settle

/-- Place of a node in the order of a pass: PCLASS, submission, index. -/
def passKey (g : Graph) (i : Nat) (n : Node) : Nat := (n.pclass.toNat * 2 ^ 64 + g.order) * 65536 + i

/-- READY nodes of RUNNING graphs on a core die after a place in the order, with that place. -/
def Sys.readyAfter (core last : Nat) (s : Sys) : List (Nat × Nat × Nat × Graph × Node) :=
  (s.graphs.graph.filter fun e => e.2.st == .running).flatMap fun e =>
    (List.range e.2.nodes.length).filterMap fun i =>
      match e.2.nodes[i]? with
      | some n =>
        let k := passKey e.2 i n
        if n.st == .ready && n.core e.2 == core && decide (last ≤ k) then some (k, e.1, i, e.2, n) else none
      | none => none

/-- The one that is earliest in the order. -/
def earliest : List (Nat × Nat × Nat × Graph × Node) → Option (Nat × Nat × Nat × Graph × Node)
  | [] => none
  | e :: r => some (r.foldl (fun a b => if b.1 < a.1 then b else a) e)

/-- The pass: nodes in order, where a node that waited 8 control cycles holds every pool it lacks from then until it is admitted,
and `held` are the pools that nodes earlier in the order hold (08 R278, R279). -/
def Sys.passLoop (core : Nat) : Nat → Nat → List NodePool → Sys → Sys
  | 0, _, _, s => s
  | fuel + 1, last, held, s =>
    match earliest (s.readyAfter core last) with
    | none => s
    | some (k, gid, i, g, n) =>
      let pools := s.poolsOf g n
      let lacks := (pools.filter fun e => !e.2).map fun e => e.1
      if pools.any fun e => held.contains e.1 then Sys.passLoop core fuel (k + 1) (held ++ n.holds) s
      else if lacks.isEmpty then
        match s.startNode gid i g n with
        | .go t => Sys.passLoop core fuel (k + 1) held (t.takeIn gid i core n)
        | .fail c => Sys.passLoop core fuel (k + 1) held ((s.nodeAdmitted gid i core n).failNode gid i c).settle
        | .wait => Sys.passLoop core fuel (k + 1) (held ++ n.holds) s
      else if n.readyCycle + 8 ≤ s.clk.cycle then
        let holds := n.holds ++ lacks.filter fun x => !n.holds.contains x
        Sys.passLoop core fuel (k + 1) (held ++ holds) (s.modNode gid i fun n => { n with holds })
      else Sys.passLoop core fuel (k + 1) (held ++ n.holds) s

/-- One admission pass of a core die. -/
def Sys.admissionPass (core : Nat) (s : Sys) : Sys :=
  s.settle.passLoop core (sum (s.graphs.graph.map fun e => e.2.nodes.length)) 0 []

/-- ADMISSION_PASS (R278). -/
def execAdmissionPass (core : Core) (s : State) : Host.Outcome State Fault Refusal :=
  .next (s.onSys (Sys.admissionPass core.toNat))

end Sys2Proof.Machine
end

