-- ==== Sys2Proof/Machine/Source.lean ====
section
/-! DEFINITION. Which time source is in use (16 R475-R477, R485). -/

namespace Sys2Proof.Machine

/-- The time unit qualifies its sources: from the end of the FELT phase on, with CD0 in place (16 R478, R485). -/
def Sys.timeOn (s : Sys) : Bool :=
  (s.boot.mode == .ready || (s.boot.mode == .kindling && 4 ≤ s.boot.phase.toNat)) && !s.boot.lostDies.contains 16

/-- The kinds of SRCPRIO, highest priority first; 0 ends the list. -/
def prioList (v : BitVec 16) : List Nat :=
  [bits v.toNat 15 12, bits v.toNat 11 8, bits v.toNat 7 4, bits v.toNat 3 0].takeWhile (· != 0)

/-- The port of the qualified source of a kind: the lowest one among link sources, 0 for the others (16 R476). -/
def Sys.sourcePort (kind : Nat) (s : Sys) : Option Nat :=
  let on (b : Bool) : Option Nat := if b then some 0 else none
  if !s.timeOn then none
  else
    match kind with
    | 1 => on s.clk.ptpA.qualified
    | 2 => on s.clk.ptpB.qualified
    | 3 => (s.clk.links.find? fun e => e.2.qualified && getD s.nv.tsrc e.1 false && (s.port e.1).st == .up).map fun e => e.1
    | 4 => on (s.clk.ppsQualified && s.clk.highSet)
    | 5 => on s.clk.dictQualified
    | _ => none

/-- A kind listed before the dictionary source has a qualified source. -/
def Sys.earlierQualified (s : Sys) : Bool :=
  ((prioList s.clk.cfg.srcPrio).takeWhile (· != 5)).any fun k => (s.sourcePort k).isSome

/-- The dictionary source loses qualification when a kind listed before it qualifies (16 R477). -/
def Sys.dictCheck (s : Sys) : Sys :=
  if s.earlierQualified then s.modClk fun c => { c with dictQualified := false } else s

/-- The first listed kind that has a qualified source, with its port. -/
def Sys.bestSource (s : Sys) : Option (Nat × Nat) :=
  (prioList s.clk.cfg.srcPrio).findSome? fun k => (s.sourcePort k).map fun p => (k, p)

/-- Mean of the servo's rates, in whole parts per 10^9 (16 R485; the rounding is a free value, log 28). -/
def meanRate (l : List Int) : Int :=
  if l.isEmpty then 0
  else
    let t := l.foldl (· + ·) 0
    let q := t / (l.length : Int)
    if t % (l.length : Int) ≠ 0 ∧ Config.meanUp l then q + 1 else q

/-- The rate correction of holdover: the servo's mean, or none on the 10 MHz reference (16 R485, R487). -/
def Clock.holdRate (c : Clock) : Int := if c.refInUse then 0 else meanRate c.rates

/-- Holdover starts: the mean rate of the last 64 control cycles, or the reference's own rate (16 R485, R487). -/
def Sys.enterHoldover (s : Sys) : Sys :=
  s.modClk fun c =>
    { c with
      holdover := true, holdStart := c.mono, holdReported := false, kind := 0, srcPort := 0
      rate := c.holdRate }

/-- The source in use is the first listed one that is qualified; with none the module is in holdover, or free-running while
the time-valid flag is clear (16 R476). -/
def Sys.chooseSource (s : Sys) : Sys :=
  let t := s.dictCheck
  match t.bestSource with
  | some (k, p) => t.modClk fun c => { c with kind := BitVec.ofNat 4 k, srcPort := BitVec.ofNat 10 p, holdover := false }
  | none =>
    if !t.clk.valid then t.modClk fun c => { c with kind := 0, srcPort := 0 }
    else if t.clk.holdover then t
    else t.enterHoldover

/-- The source in use is still qualified. -/
def Sys.sourceHeld (s : Sys) : Bool :=
  match s.clk.kind.toNat with
  | 3 =>
    let p := s.clk.srcPort.toNat
    s.timeOn && (getD s.clk.links p {}).qualified && getD s.nv.tsrc p false && (s.port p).st == .up
  | k => (s.sourcePort k).isSome

/-- A qualification has changed: holdover starts when the source in use is lost and no other is qualified, and ends when a
listed kind qualifies (16 R485). Any other change of source waits for the control cycle. -/
def Sys.sourceChange (s : Sys) : Sys :=
  let t := s.dictCheck
  if t.clk.holdover || (t.clk.kind != 0 && !t.sourceHeld && t.bestSource.isNone) then t.chooseSource else t

/-- A port is no longer UP, so it is no qualified link source. -/
def Sys.loseLinkSource (p : Nat) (s : Sys) : Sys :=
  if (get? s.clk.links p).isNone then s else (s.modClk fun c => { c with links := del c.links p }).sourceChange

end Sys2Proof.Machine
end

