-- ==== Sys2Proof/Machine/Ports.lean ====
section
/-! DEFINITION. Ports, lanes and cages: states, training, Seasoning, faults, degrades, drains, tests, CMIS and the port
configuration (13; 22 R628-R632), with the forwarding record and the fence list (03 R87, R102). -/

namespace Sys2Proof.Machine

/-! ## Health weight 0 -/

/-- A port's HW has become 0: its queued packets are repicked or dropped (03 R92), and its MCAST receivers grafted
(09 R318). -/
def Sys.hwLost (p : Nat) (txLost : Bool) (s : Sys) : Sys := (s.portLost p txLost).graftPort p

/-- A change that may take a port's HW to 0. -/
def Sys.withHw (p : Nat) (f : Sys → Sys) (s : Sys) : Sys :=
  let t := f s
  if s.hw p != 0 && t.hw p == 0 then t.hwLost p false else t

/-! ## Forwarding record and fence list (03 R87, R102) -/

/-- A write of a port's forwarding record: DIR and PFENCE (03 R87). -/
def Sys.writeRecord (p : Nat) (v : Word) (s : Sys) : Except Word Sys :=
  let d : BitVec 2 := BitVec.ofNat 2 (fld v 15 14)
  if d = 3 ∨ fld v 3 0 ≠ 0 ∨ fld v 31 16 ≠ 0 then .error mgtReserved
  else
    match (if s.dir p = d then .ok s else s.rws fun n => { n with dir := put n.dir p d }) with
    | .error c => .error c
    | .ok t =>
      let u := t.modFwd fun f => { f with pfence := put f.pfence p (bit v.toNat 13) }
      let w := if s.hw p != 0 && u.hw p == 0 then u.portLost p false else u
      .ok (if s.hwFenced p != 0 then (w.graftPort p).settle else w)

/-- Block and sub-index of an object that has one entry for each port. -/
def portSub (p : Nat) : Nat × Nat := (p / 256, p % 256)

/-- FORWARDING_RECORD_WRITE (R87). -/
def execForwardingRecordWrite (path : Path) (port : Port) (value : Word) (s : State) : Host.Outcome State Fault Refusal :=
  .next (s.onSys (request path 0x2010 (portSub port.toNat).1 (portSub port.toNat).2 (Sys.writeRecord port.toNat value)))

/-- A write of a fence list entry, with the checks of contexts and receivers (03 R102; 07 R250; 09 R317). -/
def Sys.writeFence (i : Nat) (gei : Word) (s : Sys) : Except Word Sys :=
  let t := s.modFwd fun f => { f with fence := if gei = 0 then del f.fence i else put f.fence i gei }
  .ok (t.fenceCtxs.pruneFenced.settle)

/-- FENCE_LIST_WRITE (R102). -/
def execFenceListWrite (path : Path) (index : BitVec 13) (gei : Word) (s : State) : Host.Outcome State Fault Refusal :=
  .next (s.onSys (request path 0x3040 (index.toNat / 256) (index.toNat % 256) (Sys.writeFence index.toNat gei)))

/-! ## Cages as ports see them (13 R405, R406) -/

/-- Kindling can go no further: CD0 and CD2 have failed, or no stack trains; every transmitter is squelched (21 R606). -/
def Sys.stuck (s : Sys) : Bool := (s.boot.lostDies.contains 16 && s.boot.lostDies.contains 18) || s.liveStacks.isEmpty

/-- Port dies, cages and lanes are at work: from the JOURNAL phase of Kindling on while it goes on, and in READY (21 Table
21-2). -/
def Sys.portsOn (s : Sys) : Bool :=
  match s.boot.mode with
  | .ready => true
  | .kindling => s.boot.phase != 1 && !s.stuck
  | _ => false

/-- A cage. -/
def Sys.cage (c : Nat) (s : Sys) : Cage := getD s.ports.cage c {}

/-- A cage put through `f`. -/
def Sys.modCage (c : Nat) (f : Cage → Cage) (s : Sys) : Sys := s.modPorts fun q => { q with cage := modify q.cage c {} f }

/-- CAGEPWR of a cage. -/
def Sys.cagePwr (c : Nat) (s : Sys) : Nat := getD s.nv.cagePwr c 30

/-- The unit fits the port: class, and an application for its width (13 R406). -/
def Sys.unitFits (p : Nat) (u : CageUnit) (s : Sys) : Bool :=
  let c := s.pcfg p
  u.readable && (c.cls == 0 || c.cls == u.linkClass) && u.widths.contains c.width

/-- The cage of a port has released it to training. -/
def Sys.released (p : Nat) (s : Sys) : Bool :=
  let c := s.cage (p / 8)
  match c.unit with
  | some u => c.released && s.unitFits p u
  | none => false

/-- Configured ports of a cage. -/
def Sys.cagePorts (c : Nat) (s : Sys) : List Nat := ((List.range 8).map fun i => 8 * c + i).filter fun p => s.configured p

/-! ## State changes (13 R409) -/

/-- A port leaves UP: its clean time is held (13 R414), its deficits fall back (11 R359), and it is no time source (16 R477). -/
def Sys.leaveUp (p : Nat) (s : Sys) : Sys :=
  ((s.modPort p fun q =>
    match q.cleanStart with
    | some t => { q with cleanHeld := s.clk.mono - t, cleanStart := none }
    | none => q).resetDrr p).loseLinkSource p

/-- A health event (13 R414, R415): the clean time is 0 and HIST is cleared in the journal. -/
def Sys.healthEvent (p : Nat) (s : Sys) : Sys :=
  let t := s.modPort p fun q => { q with cleanHeld := 0, cleanStart := if q.st = .up then some s.clk.mono else none }
  if (s.season p).hist then (t.modNv fun n => { n with season := put n.season p { s.season p with hist := false } }).jrnl
  else t

/-- A full training starts. -/
def Sys.startTraining (p : Nat) (s : Sys) : Sys :=
  (s.leaveUp p).modPort p fun q =>
    { q with st := .training, trained := false, warm := none, active := 0, peerSeen := false, retryAt := none }

/-- A DIE_BIST that runs or has failed keeps the ports of its die out of training (13 R426). -/
def Sys.bistHolds (p : Nat) (s : Sys) : Bool :=
  (get? s.ports.bist (p / 64)).isSome || s.ports.bistFailed.contains (p / 64)

/-- A port that the unit of its cage does not fit is reported, once for each insertion (13 R406). -/
def Sys.reportUnfit (p : Nat) (s : Sys) : Sys :=
  if (s.cage (p / 8)).told.contains p then s
  else (s.modCage (p / 8) fun x => { x with told := insertNat p x.told }).fault faultLinkClass (p / 64) p false []

/-- DISABLED to TRAINING, when the port is enabled, configured and released (13 Table 13-5, R426); a unit that has left
low-power mode and does not fit the port is reported (13 R406). -/
def Sys.tryEnable (p : Nat) (s : Sys) : Sys :=
  if !s.portsOn || (s.port p).st != .disabled || !(s.pcfg p).enable || !s.configured p || s.bistHolds p then s
  else if s.released p then s.startTraining p
  else if (s.cage (p / 8)).released then s.reportUnfit p
  else s

/-- The lanes of a port's width. -/
def widthMask (w : Nat) : BitVec 8 := BitVec.ofNat 8 (2 ^ w - 1)

/-- An item of the counters for each lane, on the lanes of a port in `lanes` (13 R428). -/
def Sys.countLanes (p : Nat) (lanes : BitVec 8) (item : Nat) (s : Sys) : Sys :=
  (List.range 8).foldl (fun t i => if lanes.getLsbD i then t.count 0x9030 (p + i) item 1 else t) s

/-- Item of family 0x9030 for a fault cause of Table 13-7 (log 13). -/
def causeItem (cause : Nat) : Nat := 3 + cause

/-- A fault or degrade is recorded, counted on the lanes that it struck and logged, and the port's return is owed a notice;
`loud`: with its notices (13 R418, R419, R428, R647). -/
def Sys.linkReport (p cause : Nat) (code : Word) (loud : Bool) (struck mask : BitVec 8) (s : Sys) : Sys :=
  let t := (s.modPort p fun q => { q with fault := BitVec.ofNat 4 cause, faultTime := s.now, owesUp := true }).countLanes p
    struck (causeItem cause)
  let detail := [BitVec.ofNat 32 cause, mask.setWidth 32]
  if loud then t.fault code (p / 64) p true detail else t.log code 0x03 (p / 64) p 0 0 detail

/-- A link fault (13 R388, R418, R647): planned losses are only counted. -/
def Sys.linkFault (p cause : Nat) (s : Sys) : Sys :=
  let q := s.port p
  let all := widthMask (s.pcfg p).width
  if q.planned && (cause == 1 || cause == 4 || cause == 5) then s.count 0x9022 p 0 1
  else
    match q.st with
    | .up =>
      (((s.healthEvent p).startTraining p).hwLost p true).linkReport p cause faultLinkDown true all q.active
    | .seasoning => ((s.startTraining p).hwLost p true).linkReport p cause faultLinkDown false all q.active
    | .draining =>
      ((s.modPort p fun q => { q with st := .maintenance, drain := none }).portLost p true).linkReport p cause faultLinkDown
        false all q.active
    | _ => s.linkReport p cause faultLinkDown false all q.active

/-- A codeword burst, a pre-FEC BER above 1e-5, or a cause 6 that degrades nothing: a health event on a port whose lanes are
active, and in SEASONING a fresh period; planned intervals, Maintenance and its tests have none (13 R413-R415). -/
def Sys.disturb (p : Nat) (s : Sys) : Sys :=
  let q := s.port p
  if q.active = 0 ∨ q.planned then s
  else
    match q.st with
    | .up | .draining | .training => s.healthEvent p
    | .seasoning => (s.modPort p fun q => { q with seasonStart := s.clk.mono }).healthEvent p
    | .maintenance | .disabled => s

/-- A cause of Table 13-7 detected on a whole port: 1-5 are faults, 6 and 7 health events only, counted as causes on its active
lanes (13 R428), and no other exists. -/
def Sys.detected (p cause : Nat) (s : Sys) : Sys :=
  if 1 ≤ cause ∧ cause ≤ 5 then s.linkFault p cause
  else if cause = 6 ∨ cause = 7 then (s.disturb p).countLanes p (s.port p).active (causeItem cause)
  else s

/-- LINK_FAULT (R418). -/
def execLinkFault (port : Port) (cause : BitVec 4) (s : State) : Host.Outcome State Fault Refusal :=
  .next (s.onSys fun t => (t.detected port.toNat cause.toNat).settle)

/-- No valid ordered set has come for 4,000 ns (02 R69). -/
def Sys.setLoss (p : Nat) (s : Sys) : Sys :=
  if !(s.port p).linked then s else ((s.toMono ((s.port p).osLast + 4000)).linkFault p 4).settle

/-- ORDERED_SET_LOSS (R69). -/
def execOrderedSetLoss (port : Port) (s : State) : Host.Outcome State Fault Refusal :=
  .next (s.onSys (Sys.setLoss port.toNat))

/-! ## Lane degrade (13 R421, R422, R645) -/

/-- The lanes of a port in `lost` are removed. -/
def Sys.removeLanes (p : Nat) (lost : BitVec 8) (s : Sys) : Sys :=
  s.modPorts fun q =>
    { q with
      lane := (List.range 8).foldl
        (fun l i => if lost.getLsbD i then modify l (p + i) {} fun x => { x with removed := true } else l) q.lane }

/-- A warm retrain becomes a full training and a fault: none of its lanes remain, or it took too long. -/
def Sys.warmFails (p : Nat) (s : Sys) : Sys :=
  let q := s.port p
  (s.startTraining p).linkReport p q.fault.toNat faultLinkDown q.warmFromUp (widthMask (s.pcfg p).width) q.active

/-- The medium of a port permits lane degrade: every class but an optic that shares media lanes (13 Table 13-3). -/
def Sys.mediumDegrades (p : Nat) (s : Sys) : Bool :=
  match (s.cage (p / 8)).unit with
  | some u => u.linkClass != 3 || u.mapsLanes
  | none => true

/-- A lane degrade is permitted: DEGRADE is 1, a lane remains, the medium permits it, and the peer distributes over active
lanes (13 Table 13-3, Table 13-7, R422). -/
def Sys.mayDegrade (p : Nat) (left : BitVec 8) (s : Sys) : Bool :=
  let d := (s.port p).peer.dtype
  (s.pcfg p).degrade && left != 0 && s.mediumDegrades p && (d == 1 || d == 2 || d == 3)

/-- A lane degrade is a health event, but for one in the window of a plan (13 R415). -/
def Sys.degradeEvent (p : Nat) (s : Sys) : Sys := if (s.port p).planned then s else s.healthEvent p

/-- Cause 6 where it degrades nothing: a health event only, counted as a cause on the lanes that it struck (13 Table 13-7,
R428). -/
def Sys.strikeOnly (p : Nat) (hit : BitVec 8) (s : Sys) : Sys := (s.disturb p).countLanes p hit (causeItem 6)

/-- Cause 5 or 6 on active lanes of a port (13 Table 13-7, R415, R421, R645, R647). -/
def Sys.laneLoss (p cause : Nat) (lost : BitVec 8) (s : Sys) : Sys :=
  let q := s.port p
  let hit := q.active &&& lost
  let left := q.active &&& ~~~lost
  if q.planned && cause == 5 then s.count 0x9022 p 0 1
  else if hit = 0 then s
  else
    match q.st, q.warm with
    | .training, some _ =>
      let t := ((s.degradeEvent p).removeLanes p lost).modPort p fun q => { q with active := left }
      if left = 0 then t.warmFails p else t.linkReport p cause faultLinkDegraded false hit left
    | .up, _ | .seasoning, _ =>
      if s.mayDegrade p left then
        let up := q.st == .up
        let t := ((s.degradeEvent p).leaveUp p).modPort p fun q =>
          { q with
            st := .training, trained := false, warm := some s.clk.mono, warmFromUp := up, active := left, retryAt := none }
        ((t.removeLanes p lost).hwLost p true).linkReport p cause faultLinkDegraded up hit left
      else if cause = 6 then s.strikeOnly p hit
      else s.linkFault p cause
    | .draining, _ =>
      if s.mayDegrade p left then
        let t := (((s.degradeEvent p).modPort p fun q => { q with st := .maintenance, drain := none }).removeLanes p lost).portLost
          p true
        t.linkReport p cause faultLinkDegraded false hit left
      else if cause = 6 then s.strikeOnly p hit
      else s.linkFault p cause
    | .training, none =>
      if s.mayDegrade p left then (s.degradeEvent p).linkReport p cause faultLinkDegraded false hit left
      else if cause = 6 then s.strikeOnly p hit
      else s.linkFault p cause
    | _, _ =>
      if s.mayDegrade p left then s.linkReport p cause faultLinkDegraded false hit left
      else if cause = 6 then s.strikeOnly p hit
      else s.linkFault p cause

/-- LANE_DEGRADE (R421): of the causes of Table 13-7 it takes 5 and 6. -/
def execLaneDegrade (port : Port) (cause : BitVec 4) (lost : BitVec 8) (s : State) : Host.Outcome State Fault Refusal :=
  .next (s.onSys fun t => if cause = 5 ∨ cause = 6 then (t.laneLoss port.toNat cause.toNat lost).settle else t)

/-- WARM_RETRAIN_TIMEOUT (R421): 200 µs have passed since detection. -/
def Sys.warmTimeout (p : Nat) (s : Sys) : Sys :=
  match (s.port p).warm with
  | some t => (s.toMono (t + 200000)).warmFails p
  | none => s

/-- WARM_RETRAIN_TIMEOUT (R421). -/
def execWarmRetrainTimeout (port : Port) (s : State) : Host.Outcome State Fault Refusal :=
  .next (s.onSys (Sys.warmTimeout port.toNat))

/-! ## Training, LINK_ID, Seasoning (13 R411-R414, 02 R68, 05 R151) -/

/-- The end of training: active lanes, and the CREDIT counters start at the free cells (05 R151). -/
def Sys.linkTrained (p : Nat) (mask : BitVec 8) (s : Sys) : Sys :=
  let w := (s.pcfg p).width
  let t := s.modPort p fun q =>
    { q with
      active := mask, trained := true, warm := none
      freed := (List.range 4).map fun k => BitVec.ofNat 16 (allot w k - nth q.used k 0)
      lastRx := [0, 0, 0, 0], lastTx := [0, 0, 0, 0], credit := [0, 0, 0, 0]
      osLast := s.clk.mono, creditSent := s.clk.mono, linkSent := s.clk.mono, timeFirst := s.floorTo 14, timeSent := s.floorTo 14
      timeRan := (q.timeFirst, q.timeSent) :: q.timeRan }
  t.modPorts fun q =>
    { q with
      lane := (List.range w).foldl
        (fun l i => modify l (p + i) {} fun x => { x with removed := !mask.getLsbD i }) q.lane }

/-- Training has ended and LINK_ID matches: Seasoning starts (13 R412, R413); planned intervals end (12 R388). -/
def Sys.enterSeasoning (p : Nat) (hist : Bool) (s : Sys) : Sys :=
  s.modPort p fun q =>
    { q with
      st := .seasoning, seasonHist := hist, seasonStart := s.clk.mono, seasonSince := s.clk.mono, seasonReported := false
      planned := false, attempts := 0, mismatches := 0, idReported := false }

/-- The peer that the cabling map expects. -/
def Cabling.peer (c : Cabling) : PeerId := { dtype := c.dtype, plane := c.plane, group := c.group, index := c.index, pport := c.pport }

/-- LINK_ID agrees with the cabling map, and the module's coordinates are assigned (02 R68, 18 R552). -/
def Sys.peerMatches (p : Nat) (s : Sys) : Bool :=
  let c : Cabling := getD s.nv.cabling p {}
  s.nv.coordValid && c.dtype != 0 && c.peer == (s.port p).peer

/-- An attempt fails (13 R411): the next starts at once, or after 8 in a row one second later; the eighth is reported. -/
def Sys.trainFailed (p : Nat) (mismatch : Bool) (s : Sys) : Sys :=
  let q := s.port p
  let n := q.attempts + 1
  let m := q.mismatches + b2n mismatch
  let report := n == 8 && !q.trainReported
  let t := s.modPort p fun q =>
    { q with
      attempts := n, mismatches := m, trained := false, active := 0, peerSeen := false
      retryAt := if n < 8 then none else some (s.clk.mono + 1000000000)
      trainReported := q.trainReported || report }
  if report then t.fault (if m = 8 then faultLinkMismatch else faultLinkTrain) (p / 64) p false [0, q.active.setWidth 32] else t

/-- A port die is neither lost nor in partial reset (01 R34, 21 R612). -/
def Sys.dieUp (d : Nat) (s : Sys) : Bool := !s.boot.lostDies.contains d && (get? s.boot.dieResets d).isNone

/-- A list in rising order. -/
def rising (l : List Nat) : List Nat :=
  l.foldr (fun x r => (r.filter fun y => decide (y < x)) ++ x :: r.filter fun y => !decide (y < x)) []

/-- Link delay: the median of (round trip - peer turnaround) / 2 over the delay probes; between the two middle ones it is a free
value (16 R480; log 28). None where the peer answers no probe. -/
def linkDelay (probes : List (Nat × Nat)) : Option Nat :=
  let l := rising (probes.map fun e => (e.1 - e.2) / 2)
  let lo := nth l ((l.length - 1) / 2) 0
  let hi := nth l (l.length / 2) 0
  let m := Config.delayMedian lo hi
  if l.isEmpty then none else some (if lo ≤ m ∧ m ≤ hi then m else lo)

/-- One attempt at a full training has ended at the physical layer (13 R411), and the ends have exchanged their delay probes (16
R480). -/
def Sys.trainingComplete (p : Nat) (o : Training) (s : Sys) : Sys :=
  let q := s.port p
  if q.st ≠ .training ∨ q.warm.isSome ∨ q.dark ∨ q.retryAt.isSome ∨ !s.released p ∨ !s.portsOn ∨ !s.dieUp (p / 64) then s
  else
    let w := (s.pcfg p).width
    let all := widthMask w
    let mask := o.usable &&& o.peerMask &&& all
    let t := s.countLanes p all 2
    if o.ok && mask != 0 && ((s.pcfg p).degrade || mask == all) then
      (t.linkTrained p mask).modPort p fun q =>
        { q with delay := (linkDelay o.probes).getD q.delay, peerSeen := false }
    else t.trainFailed p false

/-- TRAINING_COMPLETE (R411). -/
def execTrainingComplete (port : Port) (outcome : Training) (s : State) : Host.Outcome State Fault Refusal :=
  .next (s.onSys (Sys.trainingComplete port.toNat outcome))

/-- After 8 failures the next attempt starts once every second. -/
def Sys.trainingRetry (p : Nat) (s : Sys) : Sys :=
  match (s.port p).retryAt with
  | some t => (s.toMono t).modPort p fun q => { q with retryAt := none }
  | none => s

/-- TRAINING_RETRY (R411). -/
def execTrainingRetry (port : Port) (s : State) : Host.Outcome State Fault Refusal :=
  .next (s.onSys (Sys.trainingRetry port.toNat))

/-- The port is Up again, and so is its peer (13 R419). -/
def Sys.tellUp (p : Nat) (s : Sys) : Sys :=
  let q := s.port p
  if q.owesUp && q.st == .up && q.peerState == 2 then
    (s.modPort p fun q => { q with owesUp := false }).fault faultLinkUp (p / 64) p true [0, q.active.setWidth 32]
  else s

/-- The LINK_ID of a port that seasons or has been admitted: a disagreement with the cabling map is reported, once until it
agrees again (02 R68). -/
def Sys.idCheck (p : Nat) (s : Sys) : Sys :=
  let q := s.port p
  if !s.nv.coordValid ∨ !(q.st == .seasoning || q.st == .up || q.st == .draining) then s
  else if s.peerMatches p then s.modPort p fun q => { q with idReported := false }
  else if q.idReported then s
  else (s.modPort p fun q => { q with idReported := true }).fault faultLinkMismatch (p / 64) p false [0, q.active.setWidth 32]

/-- A LINK_ID on a port (02 R68, 13 R409-R412). A port seasons with history when its record has HIST set and names the peer (13
R412, 21 Table 21-4; log 115). -/
def Sys.linkId (p : Nat) (b : List Byte) (s : Sys) : Sys :=
  let w := beAt b 2 5
  let peer : PeerId :=
    { dtype := bv 4 w 32, plane := bv 4 w 36, group := bv 8 w 24, index := bv 8 w 16, pport := bv 10 w 0 }
  let st : BitVec 8 := BitVec.ofNat 8 (beAt b 7 1)
  let old := s.port p
  let s1 := s.withHw p fun t => t.modPort p fun q => { q with peer, peerState := st, peerSeen := true }
  let s2 := if old.peerState == 2 && st != 2 && old.st == .up then s1.count 0x9022 p 1 1 else s1
  let q := s2.port p
  if q.st = .training ∧ q.trained ∧ q.warm.isNone then
    if !s2.nv.coordValid ∨ s2.boot.mode ≠ .ready then s2
    else if s2.peerMatches p then s2.enterSeasoning p ((s2.season p).peer == peer && (s2.season p).hist)
    else s2.trainFailed p true
  else (s2.idCheck p).tellUp p

/-- LINK_ID_RECEIVE (R68). -/
def execLinkIdReceive (port : Port) (bytes : List Byte) (s : State) : Host.Outcome State Fault Refusal :=
  .next (s.onSys fun t => (t.osReceive port.toNat 3 bytes (Sys.linkId port.toNat bytes)).settle)

/-- A warm retrain ends: the port seasons again (13 R421, R645), unless VALID has been cleared, which keeps it in TRAINING (18
R552). -/
def Sys.warmComplete (p : Nat) (usable peerMask : BitVec 8) (s : Sys) : Sys :=
  let q := s.port p
  if q.warm.isNone then s
  else
    let mask := q.active &&& usable &&& peerMask
    if mask = 0 then s.warmFails p
    else if s.nv.coordValid then (s.linkTrained p mask).enterSeasoning p (q.warmFromUp || q.seasonHist)
    else s.linkTrained p mask

/-- WARM_RETRAIN_COMPLETE (R421). -/
def execWarmRetrainComplete (port : Port) (usable peerMask : BitVec 8) (s : State) : Host.Outcome State Fault Refusal :=
  .next (s.onSys (Sys.warmComplete port.toNat usable peerMask))

/-- A plan whose reflip has run with the new epoch is DONE once every entry is complete or Up (12 R391). -/
def Sys.planSettle (s : Sys) : Sys :=
  s.modOcs fun o =>
    { o with
      plans := o.plans.map fun x =>
        if x.st = .rejoining ∧ x.reflipRun ∧ x.entries.all (fun e => e.complete || (s.port e.port.toNat).st == .up) then
          { x with st := .done, entries := x.entries.map fun e => { e with complete := true } }
        else x }

/-- The Seasoning period has passed and LINK_ID agrees: the port is UP, without history its record takes the peer, and a peer
that is not Up starts a counted period (02 R68; 13 R410, R412-R414). -/
def Sys.seasoned (p : Nat) (s : Sys) : Sys :=
  let q := s.port p
  if q.st ≠ .seasoning ∨ !s.peerMatches p then s
  else
    let t := (s.toMono (q.seasonStart + (if q.seasonHist then 100000000 else 2000000000)))
    let u := t.modPort p fun q =>
      { q with st := .up, cleanStart := some t.clk.mono, cleanHeld := 0, trainReported := false, seasonReported := false }
    let rec0 : Season := { peer := q.peer, hist := false }
    let v := if q.seasonHist ∨ s.season p = rec0 then u else (u.modNv fun n => { n with season := put n.season p rec0 }).jrnl
    let w := if q.peerState == 2 then v else v.count 0x9022 p 1 1
    ((w.fillTokens p).planSettle).tellUp p

/-- SEASONING_COMPLETE (R413). -/
def execSeasoningComplete (port : Port) (s : State) : Host.Outcome State Fault Refusal :=
  .next (s.onSys (Sys.seasoned port.toNat))

/-- A port has spent 30 s in SEASONING: it is reported once. -/
def Sys.seasonOverdue (p : Nat) (s : Sys) : Sys :=
  let q := s.port p
  if q.st ≠ .seasoning ∨ q.seasonReported then s
  else
    ((s.toMono (q.seasonSince + 30000000000)).modPort p fun q => { q with seasonReported := true }).fault faultLinkSeason
      (p / 64) p false [0, q.active.setWidth 32]

/-- SEASONING_OVERDUE (R413). -/
def execSeasoningOverdue (port : Port) (s : State) : Host.Outcome State Fault Refusal :=
  .next (s.onSys (Sys.seasonOverdue port.toNat))

/-- The clean time reaches 60 s: HIST is set and written. -/
def Sys.clean60 (p : Nat) (s : Sys) : Sys :=
  match (s.port p).cleanStart with
  | some t =>
    if (s.port p).st = .up ∧ !(s.season p).hist then
      ((s.toMono (t + 60000000000)).modNv fun n => { n with season := put n.season p { s.season p with hist := true } }).jrnl
    else s
  | none => s

/-- CLEAN_TIME_60S (R414). -/
def execCleanTime60s (port : Port) (s : State) : Host.Outcome State Fault Refusal := .next (s.onSys (Sys.clean60 port.toNat))

/-- Bits that a lane receives in 64 control cycles, 8,388,608 ns at 212.5 Gb/s (13 R401, R415). -/
def berWindowBits : Nat := 1782579200

/-- BER of Table 13-10: corrected bits in 10^12 bits, saturating. -/
def berOf (corrected : Nat) : Word := BitVec.ofNat 32 (min (corrected * 1000000000000 / berWindowBits) 0xFFFFFFFF)

/-- A window of 64 control cycles ends on a lane: above 1e-4 it is cause 6, above 1e-5 a health event (13 R413, R415, R417,
R428, R645). -/
def Sys.laneBer (p lane : Nat) (corrected : Word) (s : Sys) : Sys :=
  let n := corrected.toNat
  let t := (s.modPorts fun q => { q with lane := modify q.lane (p + lane) {} fun x => { x with ber := berOf n } }).count 0x9030
    (p + lane) 0 n
  if (s.port p).active.getLsbD lane = false then t
  else if berWindowBits < n * 10000 then t.laneLoss p 6 (BitVec.ofNat 8 (2 ^ lane))
  else if berWindowBits < n * 100000 then t.disturb p
  else t

/-- LANE_BER_WINDOW (R415). -/
def execLaneBerWindow (port : Port) (lane : BitVec 3) (corrected : Word) (s : State) : Host.Outcome State Fault Refusal :=
  .next (s.onSys fun t => (t.laneBer port.toNat lane.toNat corrected).settle)

/-- The configured port that covers a lane. -/
def Sys.portOfLane (l : Nat) (s : Sys) : Option Nat :=
  ((List.range 8).map fun i => l / 8 * 8 + i).find? fun p => s.configured p && p ≤ l && l < p + (s.pcfg p).width

/-- A lane carries traffic. -/
def Sys.laneActive (l : Nat) (s : Sys) : Bool :=
  match s.portOfLane l with
  | some p => (s.port p).active.getLsbD (l - p)
  | none => false

/-- Uncorrectable codewords of a control cycle on the lanes of a port: 4 or more are a burst, a health event, and any starts
the Seasoning period again (13 R413, R415, Table 13-7). -/
def Sys.codewords (l : List (BitVec 10 × Nat)) (p : Nat) (s : Sys) : Sys :=
  let n := sum (l.map fun e => if s.portOfLane e.1.toNat = some p ∧ s.laneActive e.1.toNat then e.2 else 0)
  if n = 0 then s
  else if 4 ≤ n then (s.disturb p).countLanes p (s.port p).active (causeItem 7)
  else if (s.port p).st = .seasoning then s.modPort p fun q => { q with seasonStart := s.clk.mono }
  else s

/-- The uncorrectable codewords of a control cycle are counted for each lane, and each port's looked at (13 R415, R428). -/
def Sys.takeCodewords (l : List (BitVec 10 × Nat)) (s : Sys) : Sys :=
  let t := l.foldl
    (fun a e =>
      let lane := e.1.toNat
      (a.count 0x9030 lane 1 e.2).event (lane / 64) 0x0C ((s.portOfLane lane).getD lane) e.2) s
  let ports := l.foldl (fun a e => match s.portOfLane e.1.toNat with | some p => insertNat p a | none => a) []
  ports.foldl (fun a p => a.codewords l p) t

/-- The eye margin of an active lane of a port in SEASONING or UP (13 R424). -/
def Sys.eyeMargin (l : Nat) (m : Word) (s : Sys) : Sys :=
  match s.portOfLane l with
  | some p =>
    if ((s.port p).st == .up || (s.port p).st == .seasoning) && s.laneActive l then
      s.modPorts fun q => { q with lane := modify q.lane l {} fun x => { x with margin := m } }
    else s
  | none => s

/-- EYE_MARGIN_MEASURE (R424). -/
def execEyeMarginMeasure (lane : BitVec 10) (margin : Word) (s : State) : Host.Outcome State Fault Refusal :=
  .next (s.onSys (Sys.eyeMargin lane.toNat margin))

/-! ## Drains and tests (13 R423-R426) -/

/-- An UP port drains (13 R423). -/
def Sys.startDrain (p : Nat) (s : Sys) : Sys :=
  ((s.leaveUp p).modPort p fun q =>
    { q with st := .draining, drain := some s.clk.mono, drainUs := s.fwd.drainUs }).hwLost p false

/-- The drain is complete: no descriptor is left and the time has passed. -/
def Sys.drainDone (p : Nat) (s : Sys) : Sys :=
  match (s.port p).st, (s.port p).drain with
  | .draining, some t =>
    if (s.eg p).idle then
      (s.toMono (t + (s.port p).drainUs * 1000 + 2097152)).modPort p fun q => { q with st := .maintenance, drain := none }
    else s
  | _, _ => s

/-- DRAIN_COMPLETE (R423). -/
def execDrainComplete (port : Port) (s : State) : Host.Outcome State Fault Refusal := .next (s.onSys (Sys.drainDone port.toNat))

/-- Configured ports of a port die. -/
def Sys.diePorts (d : Nat) (s : Sys) : List Nat := ((List.range 64).map fun i => 64 * d + i).filter fun p => s.configured p

/-- Every configured port of a die is in MAINTENANCE or DISABLED. -/
def Sys.dieQuiet (d : Nat) (s : Sys) : Bool :=
  (s.diePorts d).all fun p => (s.port p).st == .maintenance || (s.port p).st == .disabled

/-- A LANE_TEST ends with the bit errors of each lane (13 R425). -/
def Sys.laneTestEnd (p : Nat) (errors : List Word) (s : Sys) : Sys :=
  match (s.port p).test with
  | none => s
  | some t =>
    ((s.toMono t.stop).modPort p fun q => { q with test := none }).done .port t.path
      ((List.range 8).map fun i => (i, nth errors i 0))

/-- LANE_TEST_END (R425). -/
def execLaneTestEnd (port : Port) (errors : List Word) (s : State) : Host.Outcome State Fault Refusal :=
  .next (s.onSys (Sys.laneTestEnd port.toNat errors))

/-- A DIE_BIST ends; a failed one keeps the die's ports in MAINTENANCE and is reported (13 R426). -/
def Sys.bistDone (d : Nat) (failed : Word) (s : Sys) : Sys :=
  match get? s.ports.bist d with
  | none => s
  | some path =>
    let t := s.modPorts fun q =>
      { q with
        bist := del q.bist d
        bistFailed := if failed = 0 then q.bistFailed.filter fun x => x != d else insertNat d q.bistFailed }
    let u := if failed = 0 then (s.diePorts d).foldl (fun a p => a.tryEnable p) t else t.faultUnit faultDieBist d []
    u.done .port path [(0, failed)]

/-- DIE_BIST_COMPLETE (R426). -/
def execDieBistComplete (die : Die) (failed : Word) (s : State) : Host.Outcome State Fault Refusal :=
  .next (s.onSys (Sys.bistDone die.toNat failed))

/-! ## The port command object (13 R427) -/

/-- Bytes of a CMIS transfer as RES0-RES31. -/
def cmisWords (l : List Byte) : List (Nat × Word) :=
  (List.range ((l.length + 3) / 4)).map fun i => (i, wordAt l (4 * i))

/-- A write of CMD of the port command object. `cmis`: what the unit of a cage answers, none when it rejects. -/
def portCmd (path : Path) (cmd : Word) (cmis : Option (List Byte)) (s : Sys) : Except Word Sys :=
  let sl := s.slot .port path
  let p := fld (sl.arg 0) 9 0
  let q := s.port p
  let go := s.accept .port path cmd []
  let done (t : Sys) : Except Word Sys := .ok (t.settle.done .port path [])
  if sl.busy then .error tblBusy
  else if fld cmd 23 0 ≠ 0 then .error mgtReserved
  else
    match fld cmd 31 24 with
    | 1 =>
      match q.st with
      | .up => done (go.startDrain p)
      | .seasoning | .training =>
        done (go.modPort p fun q => { q with st := .maintenance, trained := false, warm := none, active := 0, retryAt := none })
      | _ => .error portState
    | 2 =>
      if q.st = .maintenance ∧ q.test.isNone ∧ !s.bistHolds p then done (go.startTraining p)
      else .error portState
    | 3 =>
      match s.rws fun n => { n with season := del n.season p } with
      | .error c => .error c
      | .ok t => done (t.accept .port path cmd [])
    | 4 =>
      let pat := fld (sl.arg 1) 3 0
      let ms := (sl.arg 2).toNat
      if 4 < pat then .error mgtReserved
      else if q.st ≠ .maintenance then .error portNotdrained
      else if pat = 0 then done (go.modPort p fun q => { q with test := q.test.map fun t => { t with stop := s.clk.mono } })
      else if ms < 1 ∨ 60000 < ms then .error mgtRange
      else if q.test.isSome then .error portState
      else
        .ok (go.modPort p fun q =>
          { q with test := some { path, pattern := BitVec.ofNat 4 pat, stop := s.clk.mono + ms * 1000000 } })
    | 5 =>
      let d := fld (sl.arg 0) 3 0
      if !s.dieQuiet d then .error portNotdrained
      else if (get? s.ports.bist d).isSome then .error portState
      else .ok (go.modPorts fun q => { q with bist := put q.bist d path })
    | 6 =>
      let n := (sl.arg 2).toNat
      let ask : Output := .cmisRead (BitVec.ofNat 7 (fld (sl.arg 0) 6 0)) ((sl.arg 1).setWidth 24 |>.setWidth 32) n
      if n < 1 ∨ 128 < n then .error mgtRange
      else
        match (s.cage (fld (sl.arg 0) 6 0)).unit, cmis with
        | some _, some l => .ok ((go.emit ask).done .port path (cmisWords (bytesAt l 0 n)))
        | some _, none => .ok ((go.emit ask).failed .port path portCmis)
        | none, _ => .ok (go.failed .port path portCmis)
    | 7 =>
      let n := (sl.arg 2).toNat
      let send : Output := .cmisWrite (BitVec.ofNat 7 (fld (sl.arg 0) 6 0)) ((sl.arg 1).setWidth 24 |>.setWidth 32)
        ((wordsToBytes ((List.range 30).map fun i => sl.arg (3 + i))).take n)
      if n < 1 ∨ 120 < n then .error mgtRange
      else
        match (s.cage (fld (sl.arg 0) 6 0)).unit, cmis with
        | some _, some _ => done (go.emit send)
        | some _, none => .ok ((go.emit send).failed .port path portCmis)
        | none, _ => .ok (go.failed .port path portCmis)
    | _ => .error mgtReserved

/-- A port command of a row. -/
def portReq (path : Path) (op : Nat) (args : List (Nat × Word)) (cmis : Option (List Byte)) (s : Sys) : Sys :=
  request path 0x2004 0 0 (fun t => portCmd path (BitVec.ofNat 32 (op * 2 ^ 24)) cmis (t.setArgs .port path args)) s

/-- PORT_DRAIN (R423). -/
def execPortDrain (path : Path) (port : Word) (s : State) : Host.Outcome State Fault Refusal :=
  .next (s.onSys (portReq path 1 [(0, port)] none))

/-- PORT_RESUME (R427). -/
def execPortResume (path : Path) (port : Word) (s : State) : Host.Outcome State Fault Refusal :=
  .next (s.onSys (portReq path 2 [(0, port)] none))

/-- PORT_FORGET (R414). -/
def execPortForget (path : Path) (port : Word) (s : State) : Host.Outcome State Fault Refusal :=
  .next (s.onSys (portReq path 3 [(0, port)] none))

/-- LANE_TEST (R425). -/
def execLaneTest (path : Path) (port pattern duration : Word) (s : State) : Host.Outcome State Fault Refusal :=
  .next (s.onSys (portReq path 4 [(0, port), (1, pattern), (2, duration)] none))

/-- DIE_BIST (R426). -/
def execDieBist (path : Path) (die : Word) (s : State) : Host.Outcome State Fault Refusal :=
  .next (s.onSys (portReq path 5 [(0, die)] none))

/-- CMIS_READ (R427). -/
def execCmisRead (path : Path) (cage address length : Word) (answer : Option (List Byte)) (s : State) :
    Host.Outcome State Fault Refusal :=
  .next (s.onSys (portReq path 6 [(0, cage), (1, address), (2, length)] answer))

/-- CMIS_WRITE (R427). -/
def execCmisWrite (path : Path) (cage address length : Word) (data : List Word) (accepted : Bool) (s : State) :
    Host.Outcome State Fault Refusal :=
  .next (s.onSys (portReq path 7
    ([(0, cage), (1, address), (2, length)] ++ (List.range (min data.length 30)).map fun i => (3 + i, nth data i 0))
    (if accepted then some [] else none)))

/-! ## Port configuration (13 R399, R400) -/

/-- A WIDTH breaks R397 or covers a lane of another configured port. -/
def Sys.widthBad (p w : Nat) (s : Sys) : Bool :=
  w != 0 &&
    (!(w == 1 || w == 2 || w == 4 || w == 8) || p % w != 0 ||
      ((List.range 8).map fun i => p / 8 * 8 + i).any fun q =>
        q != p && s.configured q && decide (q < p + w) && decide (p < q + (s.pcfg q).width))

/-- A port that is disabled ends its LANE_TEST, whose command fails (13 R425; log 133). -/
def Sys.endTest (p : Nat) (s : Sys) : Sys :=
  match (s.port p).test with
  | some t => (s.modPort p fun q => { q with test := none }).failed .port t.path portState
  | none => s

/-- A field of a port's configuration. -/
def Sys.setPcfg (p : Nat) (f : PortCfg → PortCfg) (s : Sys) : Except Word Sys :=
  s.rws fun n => { n with portCfg := put n.portCfg p (f (s.pcfg p)) }

/-- A write of object 0x2000 on the selected port. -/
def Sys.writePortCfg (path : Path) (sub : Nat) (v : Word) (s : Sys) : Except Word Sys :=
  let p := (s.selOf path 0x2000 0).toNat % 1024
  let st := (s.port p).st
  match sub with
  | 0 => if 1023 < v.toNat then .error mgtReserved else .ok (s.setSel path 0x2000 0 v)
  | 1 =>
    if 15 < v.toNat then .error mgtReserved
    else if st ≠ .disabled then .error portState
    else if s.widthBad p v.toNat then .error portConfig
    else (s.setPcfg p fun c => { c with width := v.toNat }).map (Sys.tryEnable p)
  | 2 =>
    if 3 < v.toNat then .error mgtReserved
    else (s.setPcfg p fun c => { c with cls := BitVec.ofNat 4 v.toNat }).map (Sys.tryEnable p)
  | 3 =>
    if 1 < v.toNat then .error mgtReserved
    else if v = 0 ∧ (st = .up ∨ st = .seasoning ∨ st = .draining) then .error portState
    else
      (s.setPcfg p fun c => { c with enable := v == 1 }).map fun t =>
        if v = 0 then
          (t.endTest p).modPort p fun q =>
            { q with st := .disabled, trained := false, warm := none, active := 0, retryAt := none }
        else t.tryEnable p
  | 4 => if 1 < v.toNat then .error mgtReserved else s.setPcfg p fun c => { c with degrade := v == 1 }
  | _ => .error mgtNosub

/-- PORT_CONFIG_WRITE (R400). -/
def execPortConfigWrite (path : Path) (sub : BitVec 8) (value : Word) (s : State) : Host.Outcome State Fault Refusal :=
  .next (s.onSys (request path 0x2000 0 sub.toNat (Sys.writePortCfg path sub.toNat value)))

/-! ## Cages (13 R406-R408; 22 R628-R632) -/

/-- Advertised power of the units out of low-power mode. -/
def Sys.cageLoad (s : Sys) : Nat :=
  sum (s.ports.cage.map fun e => match e.2.unit with | some u => if e.2.lowPower then 0 else u.maxPower | none => 0)

/-- A unit leaves low-power mode: the ports that it fits are released, the others reported. -/
def Sys.admitUnit (c : Nat) (u : CageUnit) (s : Sys) : Sys :=
  let t := s.modCage c fun x => { x with lowPower := false, released := true }
  (t.cagePorts c).foldl (fun a p => if a.unitFits p u then a.tryEnable p else a.reportUnfit p) t

/-- A cage is reported for power, with its first lane as the port. -/
def Sys.powerNotice (c : Nat) (s : Sys) : Sys := s.fault faultCagePower (c / 8) (8 * c) false []

/-- A refused unit is reported for power, once for its insertion (13 R406, 22 R630). -/
def Sys.reportPower (c : Nat) (s : Sys) : Sys :=
  if (s.cage c).powerTold then s else (s.modCage c fun x => { x with powerTold := true }).powerNotice c

/-- The queue in order: each unit that fits is admitted (22 R630). -/
def Sys.queuePass (s : Sys) : Sys :=
  s.ports.cageQueue.foldl
    (fun t c =>
      match (t.cage c).unit with
      | some u =>
        if t.cageLoad + u.maxPower ≤ 3840 then
          (t.modPorts fun q => { q with cageQueue := q.cageQueue.filter fun x => x != c }).admitUnit c u
        else t
      | none => t.modPorts fun q => { q with cageQueue := q.cageQueue.filter fun x => x != c })
    s

/-- A unit found in a cage is power-checked and joins the queue (13 R406, 22 R630). -/
def Sys.findUnit (c : Nat) (s : Sys) : Sys :=
  match (s.cage c).unit with
  | none => s
  | some u =>
    if s.cagePwr c < u.maxPower then s.reportPower c
    else
      let t := (s.modPorts fun q => { q with cageQueue := (q.cageQueue.filter fun x => x != c) ++ [c] }).queuePass
      if t.ports.cageQueue.contains c then t.reportPower c else t

/-- A unit is inserted; it is handled once cages have power. -/
def Sys.cageInsert (c : Nat) (u : CageUnit) (s : Sys) : Sys :=
  let t := s.modCage c fun _ => { unit := some u }
  if t.portsOn && !t.boot.j2Lost then t.findUnit c else t

/-- CAGE_INSERT (R406). -/
def execCageInsert (cage : BitVec 7) (unit : CageUnit) (s : State) : Host.Outcome State Fault Refusal :=
  .next (s.onSys (Sys.cageInsert cage.toNat unit))

/-- The ports of a cage lose their signal. -/
def Sys.cageFault (c : Nat) (s : Sys) : Sys := ((s.cagePorts c).foldl (fun t p => t.linkFault p 1) s).settle

/-- A unit is removed: a link fault of its ports, and the queue is gone through (22 R628, R630). -/
def Sys.cageRemove (c : Nat) (s : Sys) : Sys :=
  if (s.cage c).unit.isNone then s
  else
    let t := (s.modCage c fun _ => {}).modPorts fun q => { q with cageQueue := q.cageQueue.filter fun x => x != c }
    if t.portsOn then (t.cageFault c).queuePass else t

/-- CAGE_REMOVE (R628). -/
def execCageRemove (cage : BitVec 7) (s : State) : Host.Outcome State Fault Refusal :=
  .next (s.onSys (Sys.cageRemove cage.toNat))

/-- A cage above its supply limit is powered off until its unit is reinserted (22 R631). -/
def Sys.cageOver (c : Nat) (s : Sys) : Sys :=
  if (s.cage c).unit.isNone ∨ (s.cage c).off ∨ !s.portsOn ∨ s.boot.j2Lost then s
  else
    let t := (s.modCage c fun x => { x with off := true, lowPower := true, released := false }).modPorts fun q =>
      { q with cageQueue := q.cageQueue.filter fun x => x != c }
    ((t.powerNotice c).cageFault c).queuePass

/-- CAGE_OVERCURRENT (R631). -/
def execCageOvercurrent (cage : BitVec 7) (s : State) : Host.Outcome State Fault Refusal :=
  .next (s.onSys (Sys.cageOver cage.toNat))

/-- A CMIS interrupt: its alarms and warnings go to the error log (13 R407). The record's code tells them, and is a free value (log
22); its detail is 0 (20 Table 20-10). -/
def Sys.cmisAlarm (c : Nat) (alarms : Word) (s : Sys) : Sys :=
  if (s.cage c).unit.isNone ∨ !s.portsOn then s else s.log (Config.cmisAlarmCode alarms) 0x03 (c / 8) (8 * c) 0 0 []

/-- CMIS_INTERRUPT (R407). -/
def execCmisInterrupt (cage : BitVec 7) (alarms : Word) (s : State) : Host.Outcome State Fault Refusal :=
  .next (s.onSys (Sys.cmisAlarm cage.toNat alarms))

/-- The unit's monitors are read once per second (13 R407, R408). -/
def Sys.cmisPoll (c : Nat) (monitors : CmisMonitors) (s : Sys) : Sys :=
  if (s.cage c).unit.isNone ∨ !s.portsOn then s else s.modCage c fun x => { x with monitors }

/-- CMIS_POLL (R407). -/
def execCmisPoll (cage : BitVec 7) (monitors : CmisMonitors) (s : State) : Host.Outcome State Fault Refusal :=
  .next (s.onSys (Sys.cmisPoll cage.toNat monitors))

/-- Units present in cages that may be powered join the queue in ascending cage number (22 R630, R632). -/
def Sys.powerCages (s : Sys) : Sys :=
  if s.boot.j2Lost then s
  else s.ports.cage.foldl (fun t e => if e.2.unit.isSome && !e.2.off then t.findUnit e.1 else t) s

/-- J2 is lost: every cage is powered off, and the UP ports have a link fault; or it returns (22 R632). -/
def Sys.j2 (lost : Bool) (s : Sys) : Sys :=
  if s.boot.j2Lost = lost then s
  else
    let t := s.modBoot fun b => { b with j2Lost := lost }
    if !t.portsOn then t
    else if lost then
      let u := t.modPorts fun q =>
        { q with cage := q.cage.map fun e => (e.1, { e.2 with lowPower := true, released := false }), cageQueue := [] }
      (u.upPorts.foldl (fun a p => a.linkFault p 1) u).settle
    else t.powerCages

/-- J2_LOSS (R632). -/
def execJ2Loss (lost : Bool) (s : State) : Host.Outcome State Fault Refusal := .next (s.onSys (Sys.j2 lost))

/-! ## Fault notices (13 R419) -/

/-- A neighbour's fault notice goes to the notice sink and the error log; it changes no forwarding state. -/
def Sys.faultNotice (s : Sys) : Sys :=
  match s.takeDelivery fun d => d.svc == 5 && d.pkt.kind == 7 with
  | none => s
  | some (d, t) =>
    let l := d.pkt.payload
    ((t.tally itemNoticeSink (t.portOf d)).log (wordAt l 0) 0x03 20 (beAt l 12 4 / 2 ^ 22) 4
      ((wordAt l 4).setWidth 64) []).consume d

/-- FAULT_NOTICE_RECEIVE (R419). -/
def execFaultNoticeReceive (s : State) : Host.Outcome State Fault Refusal := .next (s.onSys Sys.faultNotice)

end Sys2Proof.Machine
end

