-- ==== Sys2Proof/Machine/GateRows.lean ====
section
/-! DEFINITION. The scheduler settings and the gate lists of a port as commands change them (11 R363-R372). -/

namespace Sys2Proof.Machine

/-! ## Scheduler settings, object 0x2030 (11 R363, R364) -/

/-- One scheduler setting of a port is written; it takes effect at the next refill. -/
def Sys.setSched (p : Nat) (f : Sched → Sched) (s : Sys) : Except Word Sys :=
  s.rws fun n => { n with sched := put n.sched p (f (getD n.sched p {})) }

/-- A write of object 0x2030 on the selected port (11 Table 11-1). -/
def Sys.writeSched (path : Path) (sub : Nat) (v : Word) (s : Sys) : Except Word Sys :=
  let p := (s.selOf path 0x2030 0).toNat % 1024
  let n := v.toNat
  if sub = 0 then (if 1023 < n then .error mgtReserved else .ok (s.setSel path 0x2030 0 v))
  else if 1 ≤ sub ∧ sub ≤ 6 then
    if 4160 ≤ n ∧ n ≤ 1048576 then s.setSched p fun c => { c with quantum := setNth c.quantum (sub - 1) n }
    else .error schedRange
  else if 0x10 ≤ sub ∧ sub ≤ 0x16 then
    if n ≤ 1024 ∧ (sub = 0x16 → 1 ≤ n) then s.setSched p fun c => { c with rate := setNth c.rate (sub - 0x10) n }
    else .error schedRange
  else if 0x20 ≤ sub ∧ sub ≤ 0x26 then
    if 4160 ≤ n ∧ n ≤ 4194304 then s.setSched p fun c => { c with burst := setNth c.burst (sub - 0x20) n }
    else .error schedRange
  else .error mgtNosub

/-! ## Committing a list (11 R367, R370, R371) -/

/-- GATES and duration in ns of an entry word (11 Table 11-2). -/
def gateEntry (w : Word) : BitVec 8 × Nat := (BitVec.ofNat 8 (fld w 31 24), 8 * fld w 23 0)

/-- The entries of the administrative list. -/
def EgPort.adminEntries (e : EgPort) : List (BitVec 8 × Nat) :=
  (List.range e.nentry.toNat).map fun i => gateEntry (getD e.admin i 0xFF000000)

/-- A list that may be committed (11 R366, R367). -/
def gateListOk (l : List (BitVec 8 × Nat)) : Bool :=
  l.all (fun e => e.1.getLsbD 7 && 64 ≤ e.2) &&
    (l.isEmpty || (1024 ≤ sum (l.map fun e => e.2) && sum (l.map fun e => e.2) ≤ 1073741824))

/-- The first `base + n * cycle`, n from `least` up, at or after `earliest`. -/
def firstCycle (base : Int) (cycle least : Nat) (earliest : Int) : Int :=
  let n : Int := (earliest - base + cycle - 1) / cycle
  base + (max n least) * cycle

/-- E of a list with entries that is committed now: BASE is read by serial arithmetic on the 32-bit fabric time, and E lies
at least 2 µs ahead (11 R370). -/
def Sys.gateStart (base : Word) (cycle : Nat) (s : Sys) : Word64 :=
  s.clk.ext + BitVec.ofInt 64 (firstCycle (base - s.now).toInt cycle 0 2000)

/-- E of a committed list without entries: the first end of a cycle of the running list at least 2 µs ahead. -/
def Sys.gateStop (run : GateList) (s : Sys) : Word64 :=
  s.clk.ext + BitVec.ofInt 64 (firstCycle (run.start - s.clk.ext).toInt run.cycle 1 2000)

/-- A committed list becomes the pending list, with its E as if it were committed now; one without entries takes effect
at once while no list runs (11 R370, R371). -/
def Sys.commitGates (p : Nat) (l : List (BitVec 8 × Nat)) (base : Word) (s : Sys) : Sys :=
  s.modEg p fun e =>
    if !l.isEmpty then
      let g : GateList := { entries := l }
      { e with pending := some { g with start := s.gateStart base g.cycle } }
    else
      match (if s.clk.valid then e.running else none) with
      | some r => { e with pending := some { start := s.gateStop r } }
      | none => { e with pending := none }

/-- The time-valid flag has become set: E of every list that stayed pending is computed as if committed now (11 R371).
BASE is the one that the commit copied, held in the pending list's start. -/
def Sys.gatesValid (s : Sys) : Sys :=
  s.sw.eg.foldl
    (fun t e =>
      match e.2.pending with
      | some g => t.commitGates e.1 g.entries (g.start.setWidth 32)
      | none => t)
    s

/-- COMMIT of the administrative list of a port. While the time-valid flag is clear the list stays pending with its BASE
in place of E. -/
def Sys.gateCommit (p : Nat) (v : Word) (s : Sys) : Except Word Sys :=
  let e := s.eg p
  let l := e.adminEntries
  if v ≠ 1 then .error schedRange
  else if !gateListOk l then .error schedGate
  else if !s.clk.valid ∧ !l.isEmpty then
    .ok (s.modEg p fun e => { e with pending := some { entries := l, start := e.base.setWidth 64 } })
  else .ok (s.commitGates p l e.base)

/-! ## The running list (11 R369-R371) -/

/-- The entry and the gates that the time gives are in force, and a committed packet that waited for its gate starts when that is
open (11 R368). -/
def Sys.placeGates (p : Nat) (s : Sys) : Sys :=
  (s.modEg p fun e =>
    match e.running with
    | some g => { e with entry := (g.at s.clk.ext).1, gates := (g.at s.clk.ext).2.1 }
    | none => { e with entry := 0, gates := s.defGates p }).startNext p

/-- The pending list takes effect at its E: the old list stops in mid-entry. -/
def Sys.gateListStart (p : Nat) (s : Sys) : Sys :=
  match (s.eg p).pending with
  | some g =>
    if s.clk.valid then
      ((s.toExt g.start).modEg p fun e =>
        { e with running := (if g.entries.isEmpty then none else some g), pending := none }).placeGates p
    else s
  | none => s

/-- The next entry of the running list comes into force, unless a pending list takes over before. -/
def Sys.gateEntryChange (p : Nat) (s : Sys) : Sys :=
  let e := s.eg p
  match e.running with
  | some g =>
    let here := g.at s.clk.ext
    let t := if here.1 = e.entry then s.clk.ext + BitVec.ofNat 64 here.2.2 else s.clk.ext
    let first := match e.pending with | some q => serialGe64 t q.start | none => false
    if !s.clk.valid || first then s else (s.toExt t).placeGates p
  | none => s

/-- A step of fabric time places every running list at the entry that the new time gives, and is counted for its port
(11 R371, R376); a list whose E has passed takes effect. -/
def Sys.gatesStep (s : Sys) : Sys :=
  s.sw.eg.foldl
    (fun t e =>
      let t1 :=
        if e.2.running.isSome then
          (List.range 8).foldl (fun u c => u.count 0x9020 (e.1 * 8 + c) 4 1) (t.placeGates e.1)
        else t
      match e.2.pending with
      | some g => if t1.clk.valid && serialGe64 t1.clk.ext g.start then t1.gateListStart e.1 else t1
      | none => t1)
    s

/-! ## Object 0x2031 (11 R372) -/

/-- A write of object 0x2031 on the selected port (11 Table 11-3). -/
def Sys.writeGates (path : Path) (sub : Nat) (v : Word) (s : Sys) : Except Word Sys :=
  let p := (s.selOf path 0x2031 0).toNat % 1024
  match sub with
  | 0 => if 1023 < v.toNat then .error mgtReserved else .ok (s.setSel path 0x2031 0 v)
  | 1 =>
    if 255 < v.toNat then .error mgtReserved
    else if fld v 7 7 = 0 then .error schedGate
    else
      (s.rws fun n => { n with defGates := put n.defGates p (BitVec.ofNat 8 v.toNat) }).map fun t =>
        if (t.eg p).running.isNone then t.placeGates p else t
  | 2 => if 64 < v.toNat then .error schedRange else .ok (s.modEg p fun e => { e with nentry := v })
  | 3 => .ok (s.modEg p fun e => { e with base := v })
  | 4 => s.gateCommit p v
  | 5 | 6 | 7 => .error mgtReadonly
  | k =>
    if 0x10 ≤ k ∧ k ≤ 0x4F then .ok (s.modEg p fun e => { e with admin := put e.admin (k - 0x10) v }) else .error mgtNosub

/-- STATE of object 0x2031. -/
def Sys.gateState (p : Nat) (s : Sys) : Word :=
  let e := s.eg p
  let st := if e.pending.isSome then (if s.clk.valid then 1 else 3) else if e.running.isSome then 2 else 0
  BitVec.ofNat 32 (e.entry * 256 + st)

/-- GATE_COMMIT (R370). -/
def execGateCommit (path : Path) (value : Word) (s : State) : Host.Outcome State Fault Refusal :=
  .next (s.onSys (request path 0x2031 0 4 (Sys.writeGates path 4 value)))

/-- GATE_LIST_START (R370). -/
def execGateListStart (port : Port) (s : State) : Host.Outcome State Fault Refusal :=
  .next (s.onSys (Sys.gateListStart port.toNat))

/-- GATE_ENTRY_CHANGE (R369). -/
def execGateEntryChange (port : Port) (s : State) : Host.Outcome State Fault Refusal :=
  .next (s.onSys (Sys.gateEntryChange port.toNat))

end Sys2Proof.Machine
end

