-- ==== Sys2Proof/Machine/Ocs.lean ====
section
/-! DEFINITION. Optical circuit bypass: the demand matrix and the circuit plans (12). -/

namespace Sys2Proof.Machine

/-! ## The demand matrix (12 R377-R382) -/

/-- The 16 parts of the current snapshot go to a GEI (12 R381). -/
def Sys.pushDemand (dest : Word) (s : Sys) : Sys :=
  let o := s.ocs
  let part (k : Nat) : List Byte :=
    [1, BitVec.ofNat 8 k, 0, 0] ++ toBe 4 o.snap.toNat ++ toBe 4 o.snapTime.toNat ++ toBe 4 o.exp ++
      (List.range 256).flatMap fun i => toBe 8 (getD o.snapshot (256 * k + i) 0)
  (List.range 16).foldl
    (fun t k => t.originate t.collierCore (t.ownPkt 6 9 o.tc dest 0xFFF800 (BitVec.ofNat 32 k) (part k))) s

/-- The matrix is closed at a multiple of 2^(17 + EXP) ns: the settings and the bucket assignment written before take
effect, and the snapshot is pushed (12 R377, R379, R380, R381). -/
def Sys.demandClose (s : Sys) : Sys :=
  let t := s.toExt (s.dueOnce (17 + s.ocs.exp) s.clk.firstDemand s.clk.lastDemand s.clk.ranDemand)
  let n := ((t.ocs.snap.toNat + 1) % 2 ^ 31) + b2n (!t.clk.valid) * 2 ^ 31
  let u := t.modOcs fun o =>
    { o with
      snapshot := o.matrix.map fun e => (e.1, e.2 % 2 ^ 64)
      matrix := [], snap := BitVec.ofNat 32 n, snapTime := t.now
      bucket := t.nv.demandBucket, exp := t.nv.demExp, dest := t.nv.demDest, tc := t.nv.demTc }
  let v := u.modClk fun c =>
    { c with
      firstDemand := t.runOf (17 + t.ocs.exp) c.firstDemand c.lastDemand, lastDemand := t.floorTo (17 + t.ocs.exp)
      ranDemand := t.ranOf (17 + t.ocs.exp) c.firstDemand c.lastDemand c.ranDemand }
  if v.ocs.dest = 0 then v else v.pushDemand v.ocs.dest

/-- DEMAND_CLOSE (R379). -/
def execDemandClose (s : State) : Host.Outcome State Fault Refusal := .next (s.onSys Sys.demandClose)

/-- A DEMAND_REQ (MTYPE 0x02) is answered with the current snapshot to its source (12 R382). -/
def Sys.demandReq (s : Sys) : Sys :=
  match s.takeDelivery fun d => d.svc == 6 && d.pkt.kind == 9 && beAt d.pkt.payload 0 1 == 2 with
  | none => s
  | some (d, t) => (t.pushDemand d.pkt.sgei).consume d

/-- DEMAND_REQ (R382). -/
def execDemandReq (s : State) : Host.Outcome State Fault Refusal := .next (s.onSys Sys.demandReq)

/-! ## Plans (12 R383-R385) -/

/-- A plan as its bytes give it, with whether every field is in range and every reserved field 0 (12 R383). -/
def Plan.of (b : List Byte) : Plan × Bool :=
  let h := beAt b 0 32
  let n := bits h 135 128 + 1
  let entry (i : Nat) : PlanEntry × Bool :=
    let x := beAt b (32 + 16 * i) 16
    let dir := bits x 117 116
    let dt := bits x 115 112
    let e : PlanEntry :=
      { port := bv 10 x 118, dir := bv 2 x 116
        peer := { dtype := bv 4 x 112, plane := bv 4 x 108, group := bv 8 x 100, index := bv 8 x 92, pport := bv 10 x 82 } }
    (e, dir != 3 && bits x 81 0 == 0 && (if dir == 2 then bits x 115 82 == 0 else 1 ≤ dt && dt ≤ 3))
  let es := (List.range n).map entry
  let wd := bits h 191 160
  let lead := bits h 159 144
  let refl := bits h 127 96
  let rej := bits h 95 80
  ({ id := BitVec.ofNat 32 (bits h 255 224), ws := BitVec.ofNat 32 (bits h 223 192), wd, lead, epoch := bit h 143,
     reflip := refl, rejoin := rej, entries := es.map fun e => e.1, st := .pending },
   1 ≤ wd && wd ≤ 1000000 && 100 ≤ lead && lead ≤ 50000 && bits h 142 136 == 0 && n ≤ 64 && wd ≤ refl && refl ≤ 4000000 &&
     100 ≤ rej && rej ≤ 60000 && bits h 79 0 == 0 && es.all (fun e => e.2))

/-- A plan has ended. -/
def Plan.ended (p : Plan) : Bool :=
  match p.st with
  | .done | .failed | .missed | .cancelled => true
  | _ => false

/-- WS as its first occurrence after now (12 R384). -/
def Sys.nextTime (w : Word) (s : Sys) : Word64 :=
  let d := (w - s.now).toNat
  s.clk.ext + BitVec.ofNat 64 (if d = 0 then 2 ^ 32 else d)

/-- Drain start D, window end WE, reflip R and limit WE + REJOIN (12 R384, R387). -/
def Plan.drainAt (p : Plan) : Word64 := p.wsExt - BitVec.ofNat 64 (1000 * p.lead)
def Plan.endAt (p : Plan) : Word64 := p.wsExt + BitVec.ofNat 64 (1000 * p.wd)
def Plan.reflipAt (p : Plan) : Word64 := p.wsExt + BitVec.ofNat 64 (1000 * p.reflip)
def Plan.limitAt (p : Plan) : Word64 := p.endAt + BitVec.ofNat 64 (1000000 * p.rejoin)

/-- D lies 100 µs to 1,073,741,824 ns after now (12 Table 12-5, check 4). -/
def Sys.drainInTime (p : Plan) (s : Sys) : Bool :=
  let d := (p.drainAt - s.clk.ext).toInt
  decide (100000 ≤ d ∧ d ≤ 1073741824)

/-- The first check of Table 12-5 that a plan fails. -/
def Sys.planCheck (p : Plan) (ok : Bool) (s : Sys) : Option Word :=
  let live := s.ocs.plans.filter fun x => !x.ended
  let ports := p.entries.map fun e => e.port
  if !ok then some ocsDesc
  else if !ports.all (fun q => s.configured q.toNat) || ports.eraseDups.length != ports.length then some ocsPort
  else if live.any (fun x => x.entries.any fun e => ports.contains e.port) then some ocsPort
  else if s.clk.valid && !s.drainInTime p then some ocsLate
  else if p.reflip + p.lead < s.fwd.drainUs + 1000 then some ocsDesc
  else if live.any (fun x => x.id == p.id) then some ocsState
  else if 8 ≤ live.length then some ocsFull
  else none

/-- The oldest ended plan gives its place to a new one when all 8 are taken (12 R395). -/
def dropEnded : List Plan → List Plan
  | [] => []
  | p :: r => if p.ended then r else p :: dropEnded r

/-- PLAN_SUBMIT: the plan is read and checked during execution; one accepted without a valid time is HELD. -/
def planSubmit (path : Path) (cmd : Word) (handle : Word) (len : Nat) (st : Stores) (dma : Dma) (s : Sys) : Sys :=
  let s1 := s.accept .ocs path cmd []
  match s1.region path handle len with
  | .error e => s1.failed .ocs path e
  | .ok b =>
    match regionRead st path b len dma with
    | .error _ => s1.failedDma .ocs path b.dAddr
    | .ok data =>
      let r := Plan.of data
      let p := { r.1 with
        num := s1.ocs.accepted, wsExt := s1.nextTime r.1.ws, st := if s1.clk.valid then .pending else .held }
      match s1.planCheck p (r.2 && len == 32 + 16 * p.entries.length) with
      | some c => s1.failed .ocs path c
      | none =>
        (s1.modOcs fun o =>
          { o with
            accepted := o.accepted + 1, plans := (if o.plans.length < 8 then o.plans else dropEnded o.plans) ++ [p] }).done
          .ocs path []

/-- A plan that has not ended. -/
def Sys.livePlan (id : Word) (s : Sys) : Option Plan := s.ocs.plans.find? fun p => p.id == id && !p.ended

/-- A plan, named by its place among those accepted, put through `f`: a kept plan of the same PLANID stays as it is. -/
def Sys.modPlan (num : Nat) (f : Plan → Plan) (s : Sys) : Sys :=
  s.modOcs fun o => { o with plans := o.plans.map fun p => if p.num == num then f p else p }

/-- DEMAND_READ: the snapshot goes to a region (12 R394). -/
def demandRead (path : Path) (cmd : Word) (handle : Word) (ok : Bool) (m : Stores × Sys) : Stores × Sys :=
  let s1 := m.2.accept .ocs path cmd []
  match s1.region path handle 32768 with
  | .error e => (m.1, s1.failed .ocs path e)
  | .ok b =>
    let data := (List.range 4096).flatMap fun i => toBe 8 (getD s1.ocs.snapshot i 0)
    match regionWrite path b data ok (m.1, s1) with
    | .error _ => (m.1, s1.failedDma .ocs path b.dAddr)
    | .ok t => (t.1, t.2.done .ocs path [(0, s1.ocs.snap)])

/-- A write of CMD of the circuit command object (12 R394). -/
def ocsCmd (path : Path) (cmd : Word) (dma : Dma) (m : Stores × Sys) : Except Word (Stores × Sys) :=
  let s := m.2
  let sl := s.slot .ocs path
  if sl.busy then .error tblBusy
  else if fld cmd 23 0 ≠ 0 then .error mgtReserved
  else
    match fld cmd 31 24 with
    | 1 => .ok (m.1, planSubmit path cmd (sl.arg 0) (sl.arg 1).toNat m.1 dma s)
    | 2 =>
      match s.livePlan (sl.arg 0) with
      | some p =>
        if p.st = .held ∨ p.st = .pending then
          .ok (m.1, ((s.accept .ocs path cmd []).modPlan p.num fun x => { x with st := .cancelled }).done .ocs path [])
        else .error ocsState
      | none => .error ocsState
    | 3 => .ok (demandRead path cmd (sl.arg 0) (dma != .failed) m)
    | _ => .error mgtReserved

/-- A circuit command of a row. -/
def ocsReq (path : Path) (op : Nat) (args : List (Nat × Word)) (dma : Dma) (m : Stores × Sys) : Stores × Sys :=
  requestM path 0x2042 0 0 (fun t => ocsCmd path (BitVec.ofNat 32 (op * 2 ^ 24)) dma (t.1, t.2.setArgs .ocs path args)) m

/-- PLAN_SUBMIT (R385). -/
def execPlanSubmit (path : Path) (handle length : Word) (host : Dma) (s : State) : Host.Outcome State Fault Refusal :=
  .next (s.onMach (ocsReq path 1 [(0, handle), (1, length)] host))

/-- PLAN_CANCEL (R393). -/
def execPlanCancel (path : Path) (planId : Word) (s : State) : Host.Outcome State Fault Refusal :=
  .next (s.onMach (ocsReq path 2 [(0, planId)] .failed))

/-- DEMAND_READ (R394). -/
def execDemandRead (path : Path) (handle : Word) (hostOk : Bool) (s : State) : Host.Outcome State Fault Refusal :=
  .next (s.onMach (ocsReq path 3 [(0, handle)] (if hostOk then .data [] else .failed)))

/-! ## The change sequence (12 R387-R392) -/

/-- A fault of a plan: its PLANID is in the detail of the log record (20 Table 20-10). -/
def Sys.planFault (p : Plan) (code : Word) (port : Nat) (s : Sys) : Sys :=
  (s.modPlan p.num fun p => { p with cause := if p.cause = 0 then code else p.cause }).fault code
    (if port = 0 then 20 else port / 64) port false [0, 0, p.id]

/-- A plan is MISSED: nothing changes. -/
def Sys.planMissed (p : Plan) (s : Sys) : Sys :=
  (s.planFault p faultOcsMissed 0).modPlan p.num fun x => { x with st := .missed }

/-- The time-valid flag has become set: check 4 is made for every HELD plan, from now (12 R385). -/
def Sys.plansValid (s : Sys) : Sys :=
  s.ocs.plans.foldl
    (fun t p =>
      if p.st = .held then
        let q := { p with wsExt := t.nextTime p.ws }
        if t.drainInTime q then t.modPlan p.num fun _ => { q with st := .pending } else t.planMissed p
      else t)
    s

/-- Drain at D. -/
def Sys.runDrain (p : Plan) (s : Sys) : Sys :=
  if p.st ≠ .pending ∨ s.fwd.epoch = p.epoch ∨ s.verState p.epoch ≠ 1 then s.planMissed p
  else
    let t := p.entries.foldl
      (fun t e =>
        let q := e.port.toNat
        ((t.leaveUp q).modPort q fun x => { x with st := .draining, drain := none, warm := none, planned := true }).hwLost q
          false)
      s
    (t.modFwd fun f => { f with epoch := p.epoch }).modPlan p.num fun x => { x with st := .draining, tdrain := t.now }

/-- Move at WS. -/
def Sys.runMove (p : Plan) (s : Sys) : Sys :=
  let t := p.entries.foldl
    (fun t e =>
      let q := e.port.toNat
      let c : Cabling := getD t.nv.cabling q {}
      let u := t.modNv fun n =>
        { n with
          dir := put n.dir q e.dir
          cabling := put n.cabling q
            { c with
              dtype := e.peer.dtype, plane := e.peer.plane, group := e.peer.group, index := e.peer.index
              pport := e.peer.pport, egei := if e.peer.dtype = 3 then c.egei else 0 } }
      (u.jrnl.jrnl).modPort q fun x =>
        { x with
          st := .training, dark := true, trained := false, active := 0, warm := none, retryAt := none, attempts := 0
          mismatches := 0, peerSeen := false })
    s
  t.modPlan p.num fun x => { x with st := .moving }

/-- Rejoin at WE: entries without a direction are complete, the others train. -/
def Sys.runRejoin (p : Plan) (s : Sys) : Sys :=
  let t := p.entries.foldl
    (fun t e => if e.dir = 2 then t else t.modPort e.port.toNat fun x => { x with dark := false }) s
  t.modPlan p.num fun x =>
    { x with st := .rejoining, entries := x.entries.map fun e => { e with complete := e.dir == 2 } }

/-- Reflip at R: to the other version when it is ACTIVE, else the epoch stays and the plan has FAILED. -/
def Sys.runReflip (p : Plan) (s : Sys) : Sys :=
  if s.verState (!p.epoch) = 1 then
    ((s.modFwd fun f => { f with epoch := !p.epoch }).modPlan p.num fun x =>
        { x with reflipRun := true, treflip := s.now }).planSettle
  else
    (s.modPlan p.num fun x => { x with kept := true, treflip := s.now, st := .failed }).planFault p faultOcsReflip 0

/-- Limit at WE + REJOIN: every entry that is neither complete nor Up is FAILED. -/
def Sys.runLimit (p : Plan) (s : Sys) : Sys :=
  let late := p.entries.filter fun e => !e.complete && (s.port e.port.toNat).st != .up
  let t := s.modPlan p.num fun x =>
    { x with
      limitRun := true
      st := if late.isEmpty then x.st else .failed
      entries := x.entries.map fun e =>
        { e with failed := !e.complete && (s.port e.port.toNat).st != .up } }
  late.foldl (fun u e => u.planFault p faultOcsLate e.port.toNat) t

/-- A step of the sequence, when the plan has come to it: the time of the step and what it does. A FAILED plan still runs
the steps after its rejoin (log 25). -/
def Plan.stepAt (p : Plan) (k : Nat) : Option Word64 :=
  match k, p.st with
  | 0, .pending | 0, .held => some p.drainAt
  | 1, .draining => some p.wsExt
  | 2, .moving => some p.endAt
  | 3, .rejoining | 3, .failed => if p.reflipRun || p.kept then none else some p.reflipAt
  | 4, .rejoining | 4, .failed => if p.limitRun then none else some p.limitAt
  | _, _ => none

/-- What step `k` does. -/
def Sys.runStep (k : Nat) (p : Plan) (s : Sys) : Sys :=
  match k with
  | 0 => s.runDrain p
  | 1 => s.runMove p
  | 2 => s.runRejoin p
  | 3 => s.runReflip p
  | _ => s.runLimit p

/-- The plan of an ID, the oldest, that a step may still act on. -/
def Sys.planOf (id : Word) (k : Nat) (s : Sys) : Option Plan :=
  s.ocs.plans.find? fun p => p.id == id && (p.stepAt k).isSome

/-- Step `k` of a plan, at its time. -/
def Sys.planStep (k : Nat) (id : Word) (s : Sys) : Sys :=
  match s.planOf id k with
  | none => s
  | some p =>
    match p.stepAt k with
    | some at' => ((s.toExt at').runStep k p).settle
    | none => s

/-- The steps whose times have passed: how long ago, the step and the plan. -/
def Sys.overdueSteps (s : Sys) : List (Nat × Nat × Plan) :=
  s.ocs.plans.flatMap fun p =>
    (List.range 5).filterMap fun k =>
      match p.stepAt k with
      | some t => if serialGe64 s.clk.ext t then some ((s.clk.ext - t).toNat, k, p) else none
      | none => none

/-- The step that was due first; of several at one time, the first plan's. -/
def firstStep : List (Nat × Nat × Plan) → Option (Nat × Nat × Plan)
  | [] => none
  | e :: r => some (r.foldl (fun a b => if a.1 < b.1 then b else a) e)

/-- Overdue steps run in the order of their times, whatever plan each is of. -/
def Sys.overdueLoop : Nat → Sys → Sys
  | 0, s => s
  | n + 1, s =>
    match firstStep s.overdueSteps with
    | some (_, k, p) => Sys.overdueLoop n (s.runStep k p).settle
    | none => s

/-- Every step whose time has passed runs at once, in order (12 R387, R393). -/
def Sys.planOverdue (s : Sys) : Sys := if s.clk.valid then s.overdueLoop (5 * s.ocs.plans.length) else s

/-- PLAN_DRAIN (R387). -/
def execPlanDrain (planId : Word) (s : State) : Host.Outcome State Fault Refusal := .next (s.onSys (Sys.planStep 0 planId))

/-- PLAN_MOVE (R387). -/
def execPlanMove (planId : Word) (s : State) : Host.Outcome State Fault Refusal := .next (s.onSys (Sys.planStep 1 planId))

/-- PLAN_REJOIN (R387). -/
def execPlanRejoin (planId : Word) (s : State) : Host.Outcome State Fault Refusal := .next (s.onSys (Sys.planStep 2 planId))

/-- PLAN_REFLIP (R387). -/
def execPlanReflip (planId : Word) (s : State) : Host.Outcome State Fault Refusal := .next (s.onSys (Sys.planStep 3 planId))

/-- PLAN_LIMIT (R387). -/
def execPlanLimit (planId : Word) (s : State) : Host.Outcome State Fault Refusal := .next (s.onSys (Sys.planStep 4 planId))

/-! ## Objects 0x2040 and 0x2041 (12 R377, R380) -/

/-- A write of the demand settings (12 Table 12-1). -/
def Sys.writeDemand (sub : Nat) (v : Word) (s : Sys) : Except Word Sys :=
  match sub with
  | 0 => if 3 ≤ v.toNat ∧ v.toNat ≤ 10 then s.rws fun n => { n with demExp := v.toNat } else .error mgtRange
  | 1 => s.rws fun n => { n with demDest := v }
  | 2 =>
    if 7 < v.toNat then .error mgtReserved
    else if v = 7 then .error mgtRange
    else s.rws fun n => { n with demTc := BitVec.ofNat 3 v.toNat }
  | 3 | 4 => .error mgtReadonly
  | _ => .error mgtNosub

/-- A write of a port's demand bucket. -/
def Sys.writeBucket (p : Nat) (v : Byte) (s : Sys) : Except Word Sys :=
  if 63 < v.toNat then .error mgtRange else s.rws fun n => { n with demandBucket := put n.demandBucket p (BitVec.ofNat 6 v.toNat) }

end Sys2Proof.Machine
end

