-- ==== Sys2Proof/Machine/Memory.lean ====
section
/-! DEFINITION. HBM and on-package SRAM: interleave, allocation, errors, sparing, bank rotation and the loss of a stack
(14). -/

namespace Sys2Proof.Machine

/-! ## Address space (14 R431-R434) -/

/-- hbm_map: stack and offset of an address (14 R431). -/
def hbmMap (live : List Nat) (addr : Nat) : Nat × Nat :=
  let u := addr / 256
  let n := live.length
  let g := u / n
  (nth live ((u % n + (mix32 (BitVec.ofNat 32 g)).toNat) % n) 0, g * 256 + addr % 256)

/-- Sizes in GiB of the regions of Table 14-2 under an allocation: contexts, tables and graphs, escape store, spill buffer,
broadcast cache, parity vault, metadata and sparing, unallocated. -/
def regionSizes (alloc : Nat) : List Nat :=
  match alloc with
  | 0 => [1, 7, 16, 64, 192, 432, 8, 0]
  | 1 => [1, 7, 64, 64, 192, 384, 8, 0]
  | 2 => [1, 7, 16, 256, 96, 336, 8, 0]
  | 3 => [1, 7, 16, 0, 0, 0, 8, 688]
  | _ => [1, 7, 16, 0, 0, 0, 8, 652]

/-- Region of an address: its place in a list of sizes in GiB. -/
def regionAt : List Nat → Nat → Nat → Nat
  | [], i, _ => i
  | g :: r, i, a => if a < g * 2 ^ 30 then i else regionAt r (i + 1) (a - g * 2 ^ 30)

/-- The address exists with the stacks in service. -/
def Sys.hbmHas (addr : Nat) (s : Sys) : Bool := decide (addr < s.liveStacks.length * 36 * 2 ^ 30)

/-- Bytes of the allocated regions. -/
def Sys.allocated (s : Sys) : Nat := sum ((regionSizes s.mem.alloc).take 7) * 2 ^ 30

/-! ## Stacks and rows (14 R437-R441) -/

/-- A stack put through `f`. -/
def Sys.modStack (k : Nat) (f : Stack → Stack) (s : Sys) : Sys := s.modMem fun m => { m with stack := modify m.stack k {} f }

/-- A stack. -/
def Sys.stack (k : Nat) (s : Sys) : Stack := getD s.mem.stack k {}

/-- A row of 1 KiB is spared, and its remapping enters the journal; with a full table it is not, which is reported once
(14 R440, R441). -/
def Sys.spareRow (k row : Nat) (addr : Nat) (s : Sys) : Sys :=
  let rows := getD s.nv.remap k []
  if rows.contains row then s
  else if rows.length < 8192 then
    ((s.modNv fun n => { n with remap := put n.remap k (rows ++ [row]) }).jrnl).log Config.memErrorCode 0x05 k 0 2
      (BitVec.ofNat 64 addr) [BitVec.ofNat 32 (regionAt (regionSizes s.mem.alloc) 0 addr * 2 ^ 24 + k * 2 ^ 16)]
  else if (s.stack k).spareReported then s
  else (s.modStack k fun x => { x with spareReported := true }).faultUnit faultHbmSpare k []

/-- A corrected error, of a patrol read or of a service's read (`hbmCorrected`), is counted, and the row that yields SPARETHR of
them in one patrol period is spared (14 R440). -/
def Sys.correctable (addr : Nat) (s : Sys) : Sys :=
  let m := hbmMap s.liveStacks addr
  let row := m.2 / 1024
  let t := s.modStack m.1 fun x => { x with ce := s.bump x.ce, rowCe := modify x.rowCe row 0 (· + 1) }
  if t.mem.cfg.spareThr ≤ getD (t.stack m.1).rowCe row 0 then t.spareRow m.1 row addr else t

/-! ## Dropping what an error takes -/

/-- Items of family 0x9011 for contexts and packets that an error took, at port 0 (log 13). -/
abbrev itemFlowLost : Nat := 40
abbrev itemPacketLost : Nat := 41

/-- A flow context is freed by an error and counted (14 Table 14-4). -/
def Sys.loseFlow (i : Nat) (s : Sys) : Sys :=
  if (get? s.flows.ctx i).isNone then s else (s.freeFlow i).tally itemFlowLost 0

/-- Descriptors of a packet leave the queues of a port, and its commit is taken back. -/
def Sys.unqueue (port id : Nat) (s : Sys) : Sys :=
  let e := s.eg port
  let c := e.committed.toList.filter fun d => d.id == id
  let all := c ++ (e.queue.flatMap fun x => x.2).filter fun d => d.id == id
  let t := all.foldl (fun t d => t.leaveRing port d) s
  let u := t.modEg port fun e =>
    { e with
      queue := e.queue.map fun x => (x.1, x.2.filter fun d => d.id != id)
      committed := if c.isEmpty then e.committed else none }
  match u.pktRec id with
  | some r => all.foldl (fun u d => u.freeCopy port d r.cells) u
  | none => u

/-- The buffered packet that a transfer carries. -/
def Use.packet : Use → Option Nat
  | .pull _ id => some id
  | .service id => some id
  | .spread id _ _ => some id
  | .copy _ id _ => some id
  | _ => none

/-- A buffered packet is lost: it is dropped and counted, and what of it is on the wire ends with the PCS error terminator
(14 R443). -/
def Sys.losePacket (id : Nat) (s : Sys) : Sys :=
  match s.pktRec id with
  | none => s
  | some r =>
    let onWire := (s.sw.eg.filter fun e => e.2.tx.any fun d => d.id == id).length
    let t := s.sw.eg.foldl (fun t e => t.unqueue e.1 id) s
    let keep (l : List Delivery) : List Delivery := l.filter fun d => d.id != id
    let u := (t.keepTransit fun x => x.use.packet != some id).modSw fun w =>
      { w with svc := keep w.svc, replWait := w.replWait.filter fun x => x.id != id }
    let v := (u.modFlows fun f => { f with missq := f.missq.map fun e => (e.1, keep e.2) }).modColl fun k =>
      { k with waiting := k.waiting.map fun e => (e.1, keep e.2) }
    let w := (v.tally itemPacketLost (match r.ingress with | some p => p.toNat | none => 0)).event r.die 0x05
      (match r.ingress with | some p => p.toNat | none => 0) 1
    let x := w.modSw fun y => { y with pkt := put y.pkt id { r with copies := max onWire 1, crcOk := false } }
    if onWire = 0 then x.release id else x

/-- A tile that had completed is open again: L goes back to it when it had passed it, and its result is gone. -/
def Ctx.reopen (x : Ctx) (tile : Nat) : Ctx :=
  if tile < x.low then
    { x with
      low := tile, ahead := (List.range (x.low - tile - 1)).map (fun k => tile + 1 + k) ++ x.ahead
      results := del x.results tile, done := x.done - 1 }
  else if x.ahead.contains tile then
    { x with ahead := x.ahead.filter fun i => i != tile, results := del x.results tile, done := x.done - 1 }
  else x

/-- A stripe's tile, which its index numbers, is reset and asked for again, where a running update node works on it (10 R341). -/
def Sys.resetStripe (q stripe : Nat) (s : Sys) : Sys :=
  s.coll.ctx.foldl
    (fun t e =>
      match e.2.parity with
      | some p =>
        if e.2.st = .active ∧ p.qslot = q ∧ !p.rebuild ∧ p.first ≤ stripe ∧ stripe < p.first + p.count then
          (t.modCtx e.1 fun x => x.reopen stripe).resetTile e.1 stripe 0
        else t
      | none => t)
    s

/-- An uncorrectable error in a bank of a stripe (10 Table 10-4). -/
def Sys.stripeError (q stripe : Nat) (shadow : Bool) (s : Sys) : Sys :=
  match s.quire q with
  | none => s
  | some x =>
    if shadow then
      if x.staged.contains stripe then
        (s.modQuire q fun x => { x with staged := x.staged.filter fun i => i != stripe, shadow := del x.shadow stripe }).resetStripe
          q stripe
      else s
    else
      let t := s.modQuire q fun x => { x with bad := insertNat stripe x.bad }
      match x.rebuild with
      | some r => (t.failNode r.gid r.node vaultBadstripe).settle
      | none => t

/-- What the module does to the item that an uncorrectable unit holds (14 Table 14-4). -/
def Sys.itemLost (item : HbmItem) (s : Sys) : Sys :=
  match item with
  | .flow i => s.loseFlow i
  | .graphState gid =>
    match s.graph gid with
    | some { st := .running, .. } => (s.breakGraph gid .failed graphHwfault 0).settle
    | _ => s
  | .header c slot => s.modCtx c fun x => { x with header := del x.header slot }
  | .staging core sgei cookie =>
    s.modGraphs fun g => { g with stagings := g.stagings.filter fun x => !x.is core sgei cookie }
  | .escape c tile =>
    match s.ctx c with
    | some x => if x.st = .active ∧ 0 < (x.tile tile).records then s.resetTile c tile 3 else s
    | none => s
  | .spill ids =>
    ids.foldl
      (fun t id =>
        match t.pktRec id with
        | some { pool := .spill, .. } => t.losePacket id
        | _ => t)
      s
  | .object jtag obj =>
    match s.bcObj jtag obj with
    | some o =>
      if (o.st = .active ∨ o.st = .complete) ∧ !o.segs.isEmpty then
        (s.failObj jtag obj bcHwfault).faultUnit faultBcFailed (16 + jtag.toNat % 4)
          [0, 0, obj, BitVec.ofNat 32 (jtag.toNat * 65536)]
      else s
    | none => s
  | .stripe q stripe shadow => s.stripeError q stripe shadow
  | .wheel _ => s.wrote item
  | .free => s

/-- An uncorrectable unit: counted, poisoned, logged, its row spared and its item handled (14 R437, R438, R440). -/
def Sys.uncorrectable (addr : Nat) (item : HbmItem) (s : Sys) : Sys :=
  if !s.hbmHas addr then s
  else
    let m := hbmMap s.liveStacks addr
    let t := s.modStack m.1 fun x =>
      { x with ue := if x.ue = 0xFFFFFFFFFFFFFFFF then x.ue else x.ue + 1, cycleUe := x.cycleUe + 1 }
    let u := (t.count 0x9050 m.1 0 1).modMem fun y => { y with poisoned := put y.poisoned (addr / 256) item }
    let v := u.log Config.memErrorCode 0x05 m.1 0 2 (BitVec.ofNat 64 addr)
      [BitVec.ofNat 32 (regionAt (regionSizes s.mem.alloc) 0 addr * 2 ^ 24 + m.1 * 2 ^ 16)]
    ((v.spareRow m.1 (m.2 / 1024) addr).itemLost item)

/-- HBM_UNCORRECTABLE (R438). -/
def execHbmUncorrectable (address : BitVec 48) (item : HbmItem) (s : State) : Host.Outcome State Fault Refusal :=
  .next (s.onSys (Sys.uncorrectable address.toNat item))

/-- Units of the allocated regions. -/
def Sys.units (s : Sys) : Nat := s.allocated / 256

/-- A pass that has read every unit waits for the end of the patrol period, SCRUBHRS after its start; then the next one starts, and
the correctable errors of each row are counted from 0 (14 R439, R440). -/
def Sys.patrolPeriod (s : Sys) : Sys :=
  if s.mem.patrolNext < s.units then s
  else
    let due := s.mem.patrolStart + s.mem.cfg.scrubHrs * 3600000000000
    let t := (s.toMono due).modMem fun m => { m with patrolNext := 0, patrolStart := due }
    t.liveStacks.foldl (fun t k => t.modStack k fun x => { x with rowCe := [] }) t

/-- The read of the last allocated unit ends the pass of every stack. -/
def Sys.patrolEnd (s : Sys) : Sys :=
  if s.mem.patrolNext = s.units then
    s.liveStacks.foldl (fun t k => t.modStack k fun x => { x with patrol := x.patrol + 1 }) s
  else s

/-- The patrol reads the units from where it stands up to the one at `addr`, in the order of their addresses (log 132). It finds
`r` there and nothing before it, but each poisoned unit reports its error again (14 R437, R439). A unit that the pass has read
already is not read again. -/
def Sys.patrol (addr : Nat) (r : ScrubResult) (item : HbmItem) (s0 : Sys) : Sys :=
  if s0.allocated ≤ addr then s0
  else
    let s := s0.patrolPeriod
    let u := addr / 256
    if u < s.mem.patrolNext then s
    else
      let bad := s.mem.poisoned.filter fun e => decide (s.mem.patrolNext ≤ e.1) && decide (e.1 ≤ u)
      let t := bad.foldl (fun t e => t.uncorrectable (e.1 * 256) e.2) (s.modMem fun m => { m with patrolNext := u + 1 })
      (if bad.any fun e => e.1 == u then t
        else
          match r with
          | .clean => t
          | .corrected => t.correctable addr
          | .uncorrectable => t.uncorrectable addr item).patrolEnd

/-- PATROL_SCRUB_READ (R439). -/
def execPatrolScrubRead (address : BitVec 48) (result : ScrubResult) (item : HbmItem) (s : State) :
    Host.Outcome State Fault Refusal :=
  .next (s.onSys (Sys.patrol address.toNat result item))

/-! ## SRAM (14 R443-R445) -/

/-- An uncorrectable SRAM word is counted for its unit and logged. -/
def Sys.sramError (unit : Nat) (s : Sys) : Sys :=
  (s.count 0x9050 unit 1 1).log Config.memErrorCode 0x05 unit 0 0 0 [BitVec.ofNat 32 (0xFF * 2 ^ 16 + unit * 2 ^ 8)]

/-- What the module does about an uncorrectable SRAM word. A damaged table item is loaded again from another die within 10 µs, and
resolves nothing until then (14 R443; log 132). -/
def Sys.sramLost (item : SramItem) (s : Sys) : Sys :=
  match item with
  | .packet id =>
    match s.pktRec id with
    | some r => (s.sramError r.die).losePacket id
    | none => s
  | .tile c tile =>
    let t := s.sramError (16 + c % 4)
    if (s.ctx c).any fun x => x.st == .active && (get? x.tiles tile).isSome then t.resetTile c tile 0 else t
  | .tableItem d i =>
    (s.sramError d.toNat).modMem fun m =>
      { m with
        damaged := (m.damaged.filter fun e => decide (s.clk.mono < e.2.2)) ++ [(d.toNat, i, s.clk.mono + 10000)] }
  | .flow i =>
    match get? s.flows.ctx i with
    | some f => (s.sramError (16 + f.home)).loseFlow i
    | none => s

/-- SRAM_UNCORRECTABLE (R443). -/
def execSramUncorrectable (item : SramItem) (s : State) : Host.Outcome State Fault Refusal :=
  .next (s.onSys (Sys.sramLost item))

/-- Key, unit and number of banks of a pool. -/
def poolKey : SramPool → Nat × Nat × Nat
  | .buffer d => (d.toNat, d.toNat, 64)
  | .vat c v => (16 + 8 * c.toNat + v.toNat, 16 + c.toNat, 48)

/-- The longest time between the tests of two banks that lets each bank have its test once in every ROTHRS hours. -/
def Sys.bankPeriod (n : Nat) (s : Sys) : Nat := s.mem.cfg.rotHrs * 3600000000000 / (n + 1)

/-- A pool tests its next bank, no later than ROTHRS asks (14 R444; log 177): one that passes becomes the spare, one that fails
leaves the pool without one. -/
def Sys.rotate (pool : SramPool) (passed : Bool) (s : Sys) : Sys :=
  let (key, unit, n) := poolKey pool
  if !s.mem.cfg.rotate || s.mem.noSpare.contains key then s
  else
    let b := getD s.mem.nextBank key 0
    let t := s.toMono (getD s.mem.rotated key 0 + s.bankPeriod n)
    let u := t.modMem fun m => { m with rotated := put m.rotated key t.clk.mono }
    if passed then
      u.modMem fun m =>
        { m with nextBank := put m.nextBank key ((b + 1) % (n + 1)), spareBank := put m.spareBank key b }
    else (u.modMem fun m => { m with noSpare := insertNat key m.noSpare }).faultUnit faultSramBank unit []

/-- SRAM_BANK_ROTATE (R444). -/
def execSramBankRotate (pool : SramPool) (passed : Bool) (s : State) : Host.Outcome State Fault Refusal :=
  .next (s.onSys (Sys.rotate pool passed))

/-! ## Loss of a stack (14 R447-R449, 01 R34) -/

/-- Every context is aborted, every graph, object and Quire slot fails (07 R253, 08 R293, 09 R326, 10 R348). -/
def Sys.stopServices (s : Sys) : Sys :=
  let s1 := s.coll.ctx.foldl (fun t e => t.abortCtx e.1 collHwfault Config.noSlot.toNat 0 Config.noTile.toNat) s
  s1.failGraphs.failObjs.loseVault

/-- Every spilled packet is dropped and counted. -/
def Sys.dropSpill (s : Sys) : Sys :=
  s.sw.pkt.foldl (fun t e => if e.2.pool = .spill then t.losePacket e.1 else t) s

/-- Every flow context is FREE; packets that waited for one are dropped and counted. -/
def Sys.freeFlows (s : Sys) : Sys :=
  let waiting := s.flows.missq
  let used := s.flows.ctx.map fun e => e.1
  let t := (used.foldl (fun t i => t.freeFlow i) s |>.modFlows fun f => { f with cached := [], missq := [] }).modBc fun b =>
    { b with
      objs := b.objs.map fun o => { o with inflow := none, receivers := o.receivers.map fun r => { r with flow := none } } }
  waiting.foldl (fun u e => e.2.foldl (fun v d => (v.dropDelivered e.1 flowUnknown false d).consume d) u) t

/-- A stack is lost: HBM services stop, the loss is recorded, and the remapping starts. `report`: with its own notice. -/
def Sys.loseStack (k : Nat) (cause : BitVec 8) (report : Bool) (s : Sys) : Sys :=
  if (get? s.nv.stackLost k).isSome then s
  else
    let t := (s.modNv fun n =>
      { n with stackLost := put n.stackLost k cause, spill := { n.spill with enable := false } }).jrnl.jrnl
    let u := (t.modMem fun m =>
      { m with alloc := 255, remapping := true, poisoned := [], patrolNext := 0, patrolStart := s.clk.mono }).modSw fun w =>
      { w with spillCfg := { w.spillCfg with enable := false } }
    let v := u.stopServices.dropSpill.freeFlows
    if report then v.faultUnit faultHbmLost k [cause.setWidth 32] else v

/-- STACK_LOSS (R448). -/
def execStackLoss (stack : Nat) (cause : BitVec 8) (s : State) : Host.Outcome State Fault Refusal :=
  if stack < 20 then .next (s.onSys (Sys.loseStack stack cause true)) else .fault .noUnit

/-- The remapping over the remaining stacks is complete. -/
def Sys.remapped (s : Sys) : Sys := s.modMem fun m => { m with remapping := false }

/-- STACK_REMAP_COMPLETE (R448). -/
def execStackRemapComplete (s : State) : Host.Outcome State Fault Refusal := .next (s.onSys Sys.remapped)

/-! ## Settings (14 R450) -/

/-- A write of object 0x5001; it takes effect at the next control cycle. -/
def Sys.writeMemCfg (sub : Nat) (v : Word) (s : Sys) : Except Word Sys :=
  let n := v.toNat
  let set (f : MemCfg → MemCfg) : Except Word Sys := s.rws fun p => { p with mem := f p.mem }
  match sub with
  | 0 => if 1 ≤ n ∧ n ≤ 168 then set fun m => { m with scrubHrs := n } else .error memRange
  | 1 => if 1 ≤ n ∧ n ≤ 15 then set fun m => { m with spareThr := n } else .error memRange
  | 2 => if n ≤ 1 then set fun m => { m with rotate := v == 1 } else .error mgtReserved
  | 3 => if 1 ≤ n ∧ n ≤ 168 then set fun m => { m with rotHrs := n } else .error memRange
  | 4 => if n ≤ 1 then set fun m => { m with startTest := v == 1 } else .error mgtReserved
  | _ => .error mgtNosub

end Sys2Proof.Machine
end

