-- ==== Sys2Proof/Machine/Felt.lean ====
section
/-! DEFINITION. The Felt: what arrives on its links, route fences, width records, lane repair, link states and tests (15). -/

namespace Sys2Proof.Machine

/-! ## Route fences (15 R460, R462) -/

/-- Dies that no route of Tables 15-4 and 15-5 reaches from the active Collier's die: they are isolated, unless they are in partial
reset (15 R460, 21 R612). -/
def Sys.isolated (s : Sys) : List Nat :=
  (List.range 20).filter fun d =>
    (feltRoute s.linkOk (16 + s.collierCore) d).isNone && !s.boot.lostDies.contains d && (get? s.boot.dieResets d).isNone

/-- Every ordered pair of dies. -/
def diePairs : List (Nat × Nat) := (List.range 20).flatMap fun a => (List.range 20).map fun b => (a, b)

/-- What a route fence and its return carry: the source and the destination die. -/
def fenceBytes (a b : Nat) : List Byte := toBe 1 a ++ toBe 1 b

/-- A change of the links that are in service: the pairs of dies whose route changes send a fence over the old route and hold what
follows it; a route that runs over a link in `lost` is lost, and holds nothing (15 R462). -/
def Sys.reroute (lost : List Nat) (f : Sys → Sys) (s : Sys) : Sys :=
  if s.boot.mode ≠ .ready then f s
  else
    let old := s.linkOk
    let new := (f s).linkOk
    let changed (p : Nat × Nat) : Bool :=
      match feltRoute old p.1 p.2, feltRoute new p.1 p.2 with
      | some x, some y => x != y && !x.any fun l => lost.contains l
      | _, _ => false
    let out (p : Nat × Nat) : Bool := s.felt.fences.any fun e => e.1 == p.1 && e.2.1 == p.2
    let pairs := diePairs.filter fun p => p.1 != p.2 && !out p && changed p
    (f (pairs.foldl (fun t p => t.feltHop .fence p.1 p.2 none (fenceBytes p.1 p.2) none) s)).modFelt fun t =>
      { t with fences := t.fences ++ pairs.map fun p => (p.1, p.2, (feltRoute old p.1 p.2).getD []) }

/-- A fence comes back from its destination, or its route is lost: the hold ends, and what was held goes on in its order. -/
def Sys.endFence (a b : Nat) (s : Sys) : Sys :=
  if s.felt.fences.any fun e => e.1 == a && e.2.1 == b then
    (s.modFelt fun t => { t with fences := t.fences.filter fun e => !(e.1 == a && e.2.1 == b) }).releasePair a b s.felt.held.length
  else s

/-- ROUTE_FENCE_RETURN (R462). -/
def execRouteFenceReturn (source dest : Nat) (s : State) : Host.Outcome State Fault Refusal :=
  if source < 20 ∧ dest < 20 then .next (s.onSys (Sys.endFence source dest)) else .fault .noUnit

/-! ## Flits that arrive (15 R455-R458) -/

/-- The senders of every link go on as far as they can; a transfer that leaves a buffer may let one before it go, over the six
stages of a route (15 R461). -/
def Sys.pumpAll (s : Sys) : Sys :=
  (List.range 6).foldl (fun t _ => (List.range 38).foldl (fun t l => (t.pump l true).pump l false) t) s

/-- The sender of a direction sends its unacknowledged flits again, over the lane modules in service; they are counted (15 R457,
R471). -/
def Sys.resend (l : Nat) (far : Bool) (s : Sys) : Sys :=
  let flits := ((s.link l).dir far).retry
  let t := flits.foldl
    (fun t x =>
      let m := nextMod (t.modsOn l) ((t.link l).dir far).rr
      (t.modDir l far fun d =>
        { d with rr := m, retry := d.retry.map fun y => if y.seq = x.seq then { y with lmod := m } else y }).putFlit l far m x.seq
          x.ftype x.payload)
    s
  t.modLink l fun x => { x with retry := if s.cnt.frozen then x.retry else x.retry + BitVec.ofNat 64 flits.length }

/-- ACKSEQ and NAK reach the sender of a direction: acknowledged flits leave its retry buffer, and a NAK sends the rest again. -/
def Sys.feltAck (l : Nat) (far : Bool) (h : FlitHead) (s : Sys) : Sys :=
  let t := s.modDir l far fun d =>
    { d with retry := d.retry.filter fun x => !seqLe x.seq h.ackSeq, sent := d.sent.filter fun x => !seqLe x.1 h.ackSeq }
  if h.nak then t.resend l far else t

/-- A lane module is paused, and the flits that it held go out again on the others (15 R458). -/
def Sys.pauseModule (l m : Nat) (s : Sys) : Sys :=
  if (s.link l).paused.contains m then s
  else
    [true, false].foldl
      (fun t far => if ((t.link l).dir far).retry.any fun x => x.lmod == m then t.resend l far else t)
      (s.modLink l fun x => { x with paused := insertNat m x.paused })

/-- A whole transfer is at a die, with the ring header of the hop when that was on the ring. One for another die takes the next
hop of its route and gives up its buffer as it leaves; one for this die leaves the Felt, and a route fence is returned to its
source over control traffic (15 R461, R462). -/
def Sys.feltArrive (l : Nat) (far : Bool) (ftype : Nat) (ring b : List Byte) (s : Sys) : Sys :=
  let u := dirTo l far
  let dst := beAt b 0 1
  let stage := beAt b 2 1
  let body := b.drop 8
  let buf : Option (Nat × Bool × Nat) := if ftype = 4 then none else some (l, far, stage)
  let kind : Traffic := if ftype = 1 then .control else if ftype = 2 then .packet else if ftype = 3 then .memory else .fence
  if dst ≠ u then s.feltHop kind u dst (some { stage, exit := beAt ring 0 1, up := beAt ring 1 1 == 1 }) body buf
  else
    let t := s.freeBuf buf
    if ftype = 4 then t.feltSend .control u (beAt body 0 1) body else t

/-- A flit taken in order: its transfer bytes join those of the unfinished transfer of its type, which is whole at the length that
its header gives (15 R455, R456). -/
def Sys.takeFlit (l : Nat) (far : Bool) (f : List Byte) (s : Sys) : Sys :=
  let k := (FlitHead.of f).ftype
  if 4 < k then s
  else
    let got := getD ((s.link l).dir far).parts k [] ++ (if l < 16 then bytesAt f 8 112 else bytesAt f 0 120)
    let n := 8 + beAt got 4 4
    if got.length < n then s.modDir l far fun d => { d with parts := put d.parts k got }
    else
      (s.modDir l far fun d => { d with parts := del d.parts k }).feltArrive l far k (if l < 16 then bytesAt f 0 8 else []) (got.take n)

/-- The flit expected next, and those that came early and follow it, are taken in SEQ order. -/
def Sys.takeRun (l : Nat) (far : Bool) : Nat → List Byte → Sys → Sys
  | 0, _, s => s
  | n + 1, f, s =>
    let t := (s.modDir l far fun d =>
      { d with rxNext := d.rxNext + 1, nak := false, early := d.early.filter fun e => e.1 != d.rxNext }).takeFlit l far f
    let d := (t.link l).dir far
    match d.early.find? fun e => e.1 == d.rxNext with
    | some e => t.takeRun l far n e.2
    | none => t

/-- A bad flit or a gap: what follows it is discarded, and a NAK with the last good SEQ goes back, again for a bad one among the
flits sent again (15 R457). -/
def Sys.returnNak (l : Nat) (far : Bool) (s : Sys) : Sys :=
  (s.modDir l far fun d => { d with nak := true, early := [] }).putIdle l (!far)

/-- A flit arrives at an end of a link: `far` when it is the far end. A bad CRC, or a gap, discards it and returns a NAK; eight bad
ones in a row pause the lane module. A flit may come early on another module, but no module brings a later flit before an earlier
one of its own: a flit that is a whole round or more ahead shows a gap (15 R456-R458). -/
def Sys.flitReceive (l : Nat) (far : Bool) (lmod : Nat) (f : List Byte) (s : Sys) : Sys :=
  if !s.linkLive l then s
  else
    let h := FlitHead.of f
    let key := 2 * lmod + b2n far
    if !h.ok then
      let n := getD (s.link l).crcFails key 0 + 1
      let t := ((s.modLink l fun x => { x with crcFails := put x.crcFails key n }).count 0x9050 (dirTo l far) 2 1).returnNak l far
      if 8 ≤ n then t.pauseModule l lmod else t
    else
      let t := (s.modLink l fun x => { x with crcFails := del x.crcFails key }).feltAck l (!far) h
      let d := (t.link l).dir far
      let ahead := (h.seq - d.rxNext).toNat
      if h.ftype = 0 ∨ 2048 ≤ ahead then t.pumpAll
      else if ahead = 0 then (t.takeRun l far 256 f).pumpAll
      else if d.nak then t.pumpAll
      else if ahead < (t.modsOn l).length then
        (t.modDir l far fun d => { d with early := (d.early.filter fun e => e.1 != h.seq) ++ [(h.seq, f)] }).pumpAll
      else (t.returnNak l far).pumpAll

/-- FELT_FLIT_RECEIVE (R457). -/
def execFeltFlitReceive (link : Nat) (far : Bool) (lmod : Nat) (flit : List Byte) (s : State) :
    Host.Outcome State Fault Refusal :=
  if link < 38 then .next (s.onSys (Sys.flitReceive link far lmod flit)) else .fault .noUnit

/-- A NAK arrives at an end of a link, whose sender resends. -/
def Sys.nakReceive (l : Nat) (far : Bool) (f : List Byte) (s : Sys) : Sys :=
  let h := FlitHead.of f
  if s.linkLive l && h.ok && h.nak then (s.feltAck l (!far) h).pumpAll else s

/-- FELT_NAK_RECEIVE (R457). -/
def execFeltNakReceive (link : Nat) (far : Bool) (flit : List Byte) (s : State) : Host.Outcome State Fault Refusal :=
  if link < 38 then .next (s.onSys (Sys.nakReceive link far flit)) else .fault .noUnit

/-! ## Width records (15 R463, R464) -/

/-- REPAIR of a module none of whose spares is used. -/
def noRepair : List Nat := [0x7F, 0x7F, 0x7F, 0x7F]

/-- REPAIR of a module in a record. -/
def FeltRec.lanes (r : FeltRec) (m : Nat) : List Nat := getD r.repair m noRepair

/-- Spares of a record in use. -/
def FeltRec.spares (r : FeltRec) : Nat := sum (r.repair.map fun e => (e.2.filter fun x => x != 0x7F).length)

/-- A failed lane takes the lowest spare that is free; a failed spare, 64-67, takes itself, and the lane that it carried another.
With no spare free there is no repair (15 R463, R466; which spare is log 134). -/
def steerLane (r : List Nat) (lane : Nat) : Option (List Nat) :=
  let free (r : List Nat) (x : Nat) : Option (List Nat) :=
    (r.findIdx? fun y => y == 0x7F).map fun i => r.set i x
  if r.contains lane then some r
  else if lane < 64 then free r lane
  else
    let i := lane - 64
    let was := nth r i 0x7F
    if was = 0x7F then some (r.set i lane) else free (r.set i lane) was

/-- The union of two REPAIR words, none when it exceeds 4 lanes. -/
def unionLanes (a b : List Nat) : Option (List Nat) :=
  b.foldl (fun r x => if x = 0x7F then r else r.bind fun y => steerLane y x) (some a)

/-- A record of a link from a mask and the REPAIR of each of its modules. -/
def recOf (gen : BitVec 16) (mods : List (Nat × List Nat)) : FeltRec :=
  { gen, mask := BitVec.ofNat 32 (sum (mods.map fun e => 2 ^ e.1)), repair := mods.filter fun e => e.2 != noRepair }

/-- A record in bytes: it must have its length, its link, its NMOD and its CRC. -/
def FeltRec.of (l : Nat) (b : List Byte) : Option FeltRec :=
  let n := linkMods l
  let len := 8 * (n + 1)
  let w := beAt b 0 8
  if b.length ≠ len + 4 ∨ wordAt b len ≠ crc32c (bytesAt b 0 len) ∨ bits w 47 42 ≠ l ∨ bits w 41 37 + 1 ≠ n then none
  else
    some
      { gen := bv 16 w 48, mask := bv 32 w 0
        repair := ((List.range n).map fun m =>
          (m, (List.range 4).map fun i => bits (beAt b (8 * (m + 1)) 8) (7 * i + 6) (7 * i))).filter fun e => e.2 != noRepair }

/-- The bytes of a record of a link, its CRC-32C after it (15 Table 15-6). -/
def FeltRec.bytes (l : Nat) (r : FeltRec) : List Byte :=
  let n := linkMods l
  let b := toBe 8 (r.gen.toNat * 2 ^ 48 + l * 2 ^ 42 + (n - 1) * 2 ^ 37 + r.mask.toNat) ++
    (List.range n).flatMap fun m => toBe 8 (sum ((List.range 4).map fun i => nth (r.lanes m) i 0x7F * 2 ^ (7 * i)))
  b ++ toBe 4 (crc32c b).toNat

/-- What training finds at one end: of the modules not cleared, those whose clock works and whose failed lanes the spares carry,
with the spares that the end's record had in use unless the reset is full (15 R463, R467). -/
def trainedRec (l : Nat) (fresh : Bool) (old : FeltRec) (cleared : List Nat) (found : List (Nat × List Nat)) : FeltRec :=
  recOf old.gen
    ((List.range (linkMods l)).filterMap fun m =>
      match found.find? fun e => e.1 == m with
      | some e =>
        if cleared.contains m then none
        else (unionLanes (if fresh then noRepair else old.lanes m) e.2).map fun r => (m, r)
      | none => none)

/-- The agreed record of two records: the AND of the masks, the union of the lanes with those in use already, GEN the higher plus 1
(15 R464, R467). -/
def agreeRecs (l : Nat) (cleared : List Nat) (kept a b : FeltRec) : FeltRec :=
  recOf ((if a.gen.toNat < b.gen.toNat then b.gen else a.gen) + 1)
    ((List.range (linkMods l)).filterMap fun m =>
      if a.mask.getLsbD m && b.mask.getLsbD m && !cleared.contains m then
        (((unionLanes (kept.lanes m) (a.lanes m)).bind fun r => unionLanes r (b.lanes m)).map fun r => (m, r))
      else none)

/-- The agreed record of the two records of a link's ends as they stand. The first since a full reset is agreed afresh: nothing
is kept of its modules and spares (15 R465, R467). -/
def Sys.agreeOf (l : Nat) (a b : FeltRec) (s : Sys) : FeltRec :=
  if (s.link l).fresh then agreeRecs l [] {} a b else agreeRecs l (s.link l).cleared (s.agreed l) a b

/-- An end of a link sends a record on the sideband: PROPOSE, or CONFIRM (15 R454, R464). -/
def Sys.sayRecord (l : Nat) (far : Bool) (r : FeltRec) (s : Sys) : Sys := s.emit (.sideband l far (r.bytes l))

/-- Both ends of a link send a link report on the sideband: its STATE and CAUSE, a CRC-32C after them (15 R454; its layout is log
135). -/
def Sys.sayState (l : Nat) (s : Sys) : Sys :=
  let x := s.link l
  let st : Nat := match x.st with | .down => 0 | .training => 1 | .agreeing => 2 | .full => 3 | .reduced => 4
  let b := toBe 1 st ++ toBe 4 x.cause.toNat
  let r := b ++ toBe 4 (crc32c b).toNat
  (s.emit (.sideband l false r)).emit (.sideband l true r)

/-- Modules of a link that a mask leaves out. -/
def clearedBy (l : Nat) (mask : BitVec 32) : List Nat := (List.range (linkMods l)).filter fun m => !mask.getLsbD m

/-- A fault of a link: its MODMASK and its number stand in the log record (15 R453; the place of the number is log 27). -/
def Sys.feltFault (l : Nat) (code : Word) (s : Sys) : Sys :=
  (s.modLink l fun x => { x with cause := code }).faultUnit code (linkEnds l).1 [0, (s.agreed l).mask, BitVec.ofNat 32 l]

/-- A record is agreed: both ends and the journal hold it, and modules newly left out are reported (15 R464, R466). -/
def Sys.setAgreed (l : Nat) (r : FeltRec) (s : Sys) : Sys :=
  let new := (clearedBy l r.mask).filter fun m => !(s.link l).cleared.contains m
  let t := ((s.modNv fun n =>
    { n with feltNear := put n.feltNear l r, feltFar := put n.feltFar l r, feltAgreed := put n.feltAgreed l r }).jrnl).modLink l
      fun x => { x with cleared := new.foldl (fun c m => insertNat m c) x.cleared }
  new.foldl (fun u _ => u.feltFault l faultFeltModule) t

/-- A link whose ends hold the same record enters service; routes that change are fenced, memory transfers that no route took go
on, and every FELT_RETRAIN of it ends. -/
def Sys.enterService (l : Nat) (r : FeltRec) (s : Sys) : Sys :=
  let t := (s.setAgreed l r).reroute [] fun t => t.modLink l fun x =>
    { x with
      st := if r.mask = fullMask l then .full else .reduced
      propNear := none, propFar := none, confNear := none, confFar := none, agreeStart := none, retryAt := none
      reported := false, paused := [], crcFails := [], retrain := [], fresh := false
      recentred := (List.range (linkMods l)).map fun m => (m, s.clk.mono) }
  let u := (t.sayState l).pumpAll.releaseAll
  (s.link l).retrain.foldl (fun u p => u.done .felt p [(0, r.gen.setWidth 32)]) u

/-- A direction of a link that is down: its receiver reports its last in-order SEQ over control traffic, and its sender sends every
later transfer again, whole, on the routes that are left (15 R466). -/
def Sys.resendDown (l : Nat) (far : Bool) (d : FeltDir) (s : Sys) : Sys :=
  let a := dirFrom l far
  let last := d.rxNext - 1
  let later := ((d.sent.filter fun e => !seqLe e.1 last).map fun e => e.2) ++ d.queue
  later.foldl
    (fun t x => if x.kind = .fence then t else t.feltHop x.kind a x.dst none x.whole x.buf)
    (s.feltSend .control (dirTo l far) a (toBe 1 l ++ toBe 2 last.toNat))

/-- Links leave service at once: their commands fail, holds on routes over them end, and later transfers go again on other
routes (15 R462, R466). `retry`: they train again in one second. -/
def Sys.takeDown (ls : List Nat) (retry : Bool) (s : Sys) : Sys :=
  let t := s.reroute ls fun t => ls.foldl
    (fun t l => t.modLink l fun x =>
      { x with
        st := .down, propNear := none, propFar := none, confNear := none, confFar := none, agreeStart := none
        retryAt := if retry then some (s.clk.mono + 1000000000) else none
        paused := [], crcFails := [], test := none, retrain := [], toFar := {}, toNear := {} })
    t
  let paths := ls.flatMap fun l => ((s.link l).test.map FeltTest.path).toList ++ (s.link l).retrain
  let u := paths.foldl (fun a p => a.failed .felt p Config.feltLostCode) t
  let v := (u.felt.fences.filter fun e => e.2.2.any fun l => ls.contains l).foldl (fun a e => a.endFence e.1 e.2.1) u
  ls.foldl
    (fun a l => ((a.sayState l).resendDown l true (s.link l).toFar).resendDown l false (s.link l).toNear) v

/-- A link is declared down, and its next training is one second away. A failure to agree is reported once, a loss in service
each time (15 R465, R466; 20 R598). -/
def Sys.linkDown (l : Nat) (again : Bool) (s : Sys) : Sys :=
  let t := s.takeDown [l] true
  if again && (s.link l).reported then t
  else (t.modLink l fun x => { x with reported := true }).feltFault l faultFeltLink

/-- The ends of a link agree on a record for one module of it, which both propose with what was found, and the others carry the
traffic meanwhile (15 R464, R466). -/
def Sys.agreeModule (l : Nat) (r : FeltRec) (s : Sys) : Sys :=
  let p := { r with gen := (s.agreed l).gen }
  ((((s.sayRecord l false p).sayRecord l true p).sayRecord l false r).sayRecord l true r).setAgreed l r

/-- A lane module leaves the agreed mask; with none left the link is down (15 R466). -/
def Sys.clearModule (l m : Nat) (s : Sys) : Sys :=
  let r := s.agreed l
  if !r.mask.getLsbD m then s
  else
    let mask := r.mask &&& ~~~(BitVec.ofNat 32 (2 ^ m))
    let t := ((s.pauseModule l m).agreeModule l { gen := r.gen + 1, mask, repair := del r.repair m }).modLink l fun x =>
      { x with
        paused := x.paused.filter fun i => i != m
        st := if x.st = .full then .reduced else x.st }
    if mask = 0 ∧ t.linkUp l then t.linkDown l false else t

/-- A data lane of a module fails a lane check: a free spare takes it, which is reported, else the module is cleared (15 R466, 01
R34). -/
def Sys.repairLane (l m lane : Nat) (s : Sys) : Sys :=
  let r := s.agreed l
  if !r.mask.getLsbD m then s
  else
    match steerLane (r.lanes m) lane with
    | none => s.clearModule l m
    | some lanes =>
      if lanes = r.lanes m then s
      else
        (((s.pauseModule l m).agreeModule l { r with gen := r.gen + 1, repair := put r.repair m lanes }).modLink l fun x =>
          { x with paused := x.paused.filter fun i => i != m }).feltFault l Config.feltRepairCode

/-- Result of a lane check of a module: a dead clock clears it, failed lanes are repaired, else it goes on (15 R458). -/
def Sys.laneCheck (l m : Nat) (clockLost : Bool) (failed : List Nat) (s : Sys) : Sys :=
  let t := s.modLink l fun x => { x with crcFails := x.crcFails.filter fun e => e.1 / 2 != m }
  if clockLost || 4 < failed.length then t.clearModule l m
  else
    ((failed.foldl (fun u lane => if lane < 68 then u.repairLane l m lane else u) t).modLink l fun x =>
      { x with paused := x.paused.filter fun i => i != m }).pumpAll

/-! ## Agreement (15 R464, R465) -/

/-- An end proposes: `far` when it is the far end. The link is quiesced from the first PROPOSE on; with both records each end
computes the agreed record and confirms it. -/
def Sys.propose (l : Nat) (far : Bool) (b : List Byte) (s : Sys) : Sys :=
  match FeltRec.of l b with
  | none => s
  | some r =>
    let t := (s.modNv fun n =>
      if far then { n with feltFar := put n.feltFar l r } else { n with feltNear := put n.feltNear l r }).jrnl
    let u := t.reroute [] fun t => t.modLink l fun x =>
      { x with
        st := .agreeing, propNear := if far then x.propNear else some r, propFar := if far then some r else x.propFar
        agreeStart := some (x.agreeStart.getD s.clk.mono), retryAt := none }
    match (u.link l).propNear, (u.link l).propFar with
    | some a, some b => (u.sayRecord l false (u.agreeOf l a b)).sayRecord l true (u.agreeOf l a b)
    | _, _ => u

/-- FELT_PROPOSE (R464). -/
def execFeltPropose (link : Nat) (far : Bool) (record : List Byte) (s : State) : Host.Outcome State Fault Refusal :=
  if link < 38 then .next (s.onSys (Sys.propose link far record)) else .fault .noUnit

/-- The ends start again from PROPOSE with the records that they hold. -/
def Sys.proposeAgain (l : Nat) (s : Sys) : Sys :=
  ((s.modLink l fun x => { x with propNear := none, propFar := none, confNear := none, confFar := none }).sayRecord l false
    (getD s.nv.feltNear l {})).sayRecord l true (getD s.nv.feltFar l {})

/-- An end confirms. Two that match the agreed record put the link into service; others start again. -/
def Sys.confirm (l : Nat) (far : Bool) (b : List Byte) (s : Sys) : Sys :=
  match FeltRec.of l b, (s.link l).propNear, (s.link l).propFar with
  | some r, some x, some y =>
    if (s.link l).st ≠ .agreeing then s
    else
      let want := s.agreeOf l x y
      let t := s.modLink l fun x => if far then { x with confFar := some r } else { x with confNear := some r }
      match (t.link l).confNear, (t.link l).confFar with
      | some a, some b =>
        if a ≠ b ∨ a ≠ want then t.proposeAgain l
        else if a.mask = 0 then t.linkDown l true
        else t.enterService l a
      | _, _ => t
  | _, _, _ => s

/-- 200 µs after the first PROPOSE the ends have not agreed: the link is down. -/
def Sys.agreeTimeout (l : Nat) (s : Sys) : Sys :=
  match (s.link l).agreeStart with
  | some t => if (s.link l).st = .agreeing then (s.toMono (t + 200000)).linkDown l true else s
  | none => s

/-- A link trains: each end records what it found, both propose and confirm, and the link enters service; an empty agreed mask
leaves it down (15 R463, R464). -/
def Sys.trainLink (l : Nat) (near far : List (Nat × List Nat)) (s : Sys) : Sys :=
  let fresh := (s.link l).fresh
  let c := if fresh then [] else (s.link l).cleared
  let a := trainedRec l fresh (getD s.nv.feltNear l {}) c near
  let b := trainedRec l fresh (getD s.nv.feltFar l {}) c far
  let r := s.agreeOf l a b
  let t := (((s.modNv fun n => { n with feltNear := put n.feltNear l a, feltFar := put n.feltFar l b }).jrnl).sayRecord l false
    a).sayRecord l true b
  if r.mask = 0 then t.linkDown l true else ((t.sayRecord l false r).sayRecord l true r).enterService l r

/-- A link that is down trains again once every second. -/
def Sys.retrainRetry (l : Nat) (near far : List (Nat × List Nat)) (s : Sys) : Sys :=
  match (s.link l).st, (s.link l).retryAt with
  | .down, some t =>
    let e := linkEnds l
    if s.boot.lostDies.contains e.1 || s.boot.lostDies.contains e.2 then s else (s.toMono t).trainLink l near far
  | _, _ => s

/-- FELT_RETRAIN_RETRY (R465). -/
def execFeltRetrainRetry (link : Nat) (near far : List (Nat × List Nat)) (s : State) : Host.Outcome State Fault Refusal :=
  if link < 38 then .next (s.onSys (Sys.retrainRetry link near far)) else .fault .noUnit

/-- A link is quiesced for training while it works: it finishes what it has taken, and its traffic is rerouted behind fences. -/
def Sys.quiesce (l : Nat) (s : Sys) : Sys :=
  (s.reroute [] fun t => t.modLink l fun x => { x with st := .training, retryAt := none, agreeStart := none }).sayState l

/-! ## Calibration and tests (15 R468-R470) -/

/-- A lane module recentres its sampling phase, one second after it did so last. -/
def Sys.recentre (l m : Nat) (s : Sys) : Sys :=
  if s.linkUp l && (s.agreed l).mask.getLsbD m then
    let t := s.toMono (getD (s.link l).recentred m 0 + 1000000000)
    t.modLink l fun x => { x with recentred := put x.recentred m t.clk.mono }
  else s

/-- FELT_RECENTRE (R468). -/
def execFeltRecentre (link : Nat) (lmod : Nat) (s : State) : Host.Outcome State Fault Refusal :=
  if link < 38 then .next (s.onSys (Sys.recentre link lmod)) else .fault .noUnit

/-- A write of CMD of the Felt command object. -/
def feltCmd (path : Path) (cmd : Word) (s : Sys) : Except Word Sys :=
  let sl := s.slot .felt path
  let l := fld (sl.arg 0) 5 0
  let x := s.link l
  let busy := x.test.isSome || !x.retrain.isEmpty || x.st == .agreeing
  let go := s.accept .felt path cmd []
  if sl.busy then .error tblBusy
  else if fld cmd 23 0 ≠ 0 then .error mgtReserved
  else
    match fld cmd 31 24 with
    | 1 =>
      let m := fld (sl.arg 1) 4 0
      let us := (sl.arg 2).toNat
      let mask := (s.agreed l).mask
      if 37 < l ∨ linkMods l ≤ m ∨ us < 4 ∨ 100000 < us then .error mgtRange
      else if busy ∨ !s.linkUp l ∨ !mask.getLsbD m then .error feltState
      else if mask = BitVec.ofNat 32 (2 ^ m) then .error feltLast
      else
        .ok ((go.modLink l fun x =>
          { x with test := some { path, lmod := m, start := s.clk.mono, duration := us * 1000 } }).pauseModule l m)
    | 2 =>
      if 37 < l then .error mgtRange
      else .ok ((go.quiesce l).modLink l fun x => { x with retrain := x.retrain ++ [path] })
    | _ => .error mgtReserved

/-- A Felt command of a row. -/
def feltReq (path : Path) (op : Nat) (args : List (Nat × Word)) (s : Sys) : Sys :=
  request path 0x2051 0 0 (fun t => feltCmd path (BitVec.ofNat 32 (op * 2 ^ 24)) (t.setArgs .felt path args)) s

/-- FELT_MODTEST (R469). -/
def execFeltModtest (path : Path) (link lmod duration : Word) (s : State) : Host.Outcome State Fault Refusal :=
  .next (s.onSys (feltReq path 1 [(0, link), (1, lmod), (2, duration)]))

/-- FELT_RETRAIN (R469). -/
def execFeltRetrain (path : Path) (link : Word) (s : State) : Host.Outcome State Fault Refusal :=
  .next (s.onSys (feltReq path 2 [(0, link)]))

/-- The test of a module ends: lanes 0-63 are data, 64-67 spares and 68 the clock; what failed is handled by R466. -/
def Sys.modtestEnd (l : Nat) (failed : List Nat) (s : Sys) : Sys :=
  match (s.link l).test with
  | none => s
  | some x =>
    let mask (lo hi : Nat) : Word :=
      BitVec.ofNat 32 (sum (((List.range 69).filter fun i => lo ≤ i && i < hi && failed.contains i).map fun i => 2 ^ (i - lo)))
    let t := (s.toMono (x.start + x.duration)).modLink l fun x => { x with test := none }
    (t.laneCheck l x.lmod (failed.contains 68) (failed.filter fun i => i < 68)).done .felt x.path
      [(0, mask 0 32), (1, mask 64 69)]

end Sys2Proof.Machine
end

