-- ==== Sys2Proof/Machine/Counters.lean ====
section
/-! DEFINITION. Counter control, snapshots, packet samples, bandwidth windows and the error log as commands read them (20). -/

namespace Sys2Proof.Machine

/-! ## Cycle counters (20 R583, R585) -/

/-- Tenths of a clock per ns of a unit's clock: 1.8 GHz, the Vat clock of the operating point, or the Collier's. -/
def Sys.clockRate (unit : Nat) (s : Sys) : Nat :=
  if unit < 16 then 18
  else if unit < 20 then (match nth s.hearth.opPoint (unit - 16) 0 with | 0 => 16 | 1 => 12 | _ => 4)
  else Config.collierTenths

/-- The bank of a unit. -/
def Sys.unitCtr (unit : Nat) (s : Sys) : UnitCtr := getD s.cnt.unit unit {}

/-- CYCLE of a unit in tenths of a clock. -/
def Sys.cycleTenths (unit : Nat) (s : Sys) : Nat :=
  let u := s.unitCtr unit
  u.tenths + (if s.cnt.frozen then 0 else s.clockRate unit * (s.clk.mono - u.mark))

/-- A unit's bank with CYCLE counted up to now. -/
def Sys.syncUnit (unit : Nat) (s : Sys) : Sys :=
  let n := s.cycleTenths unit
  s.modCnt fun c => { c with unit := modify c.unit unit {} fun u => { u with tenths := n, mark := s.clk.mono } }

/-- Every unit counts up to now. -/
def Sys.syncUnits (s : Sys) : Sys := (List.range 21).foldl (fun t u => t.syncUnit u) s

/-! ## Freeze, snapshot and clear (20 R588-R592) -/

/-- The counters are frozen, or count again. -/
def Sys.setFrozen (b : Bool) (s : Sys) : Sys := s.syncUnits.modCnt fun c => { c with frozen := b }

/-- Every counter is copied to its snapshot view. -/
def Sys.snapshot (s : Sys) : Sys :=
  let t := s.syncUnits
  t.modCnt fun c =>
    { c with
      fixedSnap := c.fixed, unitSnap := c.unit, snapNum := c.snapNum + 1, snapTime := t.now, snapFree := !t.clk.valid }

/-- Every ordinary counter is 0. RESETS tells partial resets and stays (log 29). -/
def Sys.clearCounters (s : Sys) : Sys :=
  let t := s.modCnt fun c =>
    { c with
      fixed := c.fixed.filter fun e => saturates (e.1 / 2 ^ 48)
      unit := (List.range 21).map fun i => (i, { getD c.unit i {} with tenths := 0, mark := s.clk.mono, pc := [], owed := [] })
      overwritten := 0, lostRec := 0 }
  let u := (t.modTab fun x => { x with full0 := 0, full1 := 0 }).modColl fun x =>
    { x with
      added := [], escapes := [], tileResets := [], saturated := []
      ctx := x.ctx.map fun e => (e.1, { e.2 with dup := 0, resent := 0, reset := 0 }) }
  let v := ((u.modFlows fun f => { f with misses := [] }).modSw fun w => { w with spillDry := 0 }).modHearth fun h =>
    { h with dips := 0 }
  ((v.modMem fun m => { m with stack := m.stack.map fun e => (e.1, { e.2 with ce := 0 }) }).modFelt fun f =>
    { f with link := f.link.map fun e => (e.1, { e.2 with retry := 0 }) }).modMg fun m => { m with goIgnored := 0 }

/-- Every saturating counter is 0; the clear is logged. -/
def Sys.clearSaturating (path : Path) (s : Sys) : Sys :=
  let t := s.modCnt fun c => { c with fixed := c.fixed.filter fun e => !saturates (e.1 / 2 ^ 48) }
  (t.modMem fun m => { m with stack := m.stack.map fun e => (e.1, { e.2 with ue := 0 }) }).log Config.clearCode 0x06 20 0 0 0
    [BitVec.ofNat 32 (pathNum path * 2 ^ 24)]

/-- One counter action. -/
def Sys.counterAct (a : CtrAction) (s : Sys) : Sys :=
  match a with
  | .freeze => s.setFrozen true
  | .unfreeze => s.setFrozen false
  | .snapshot => s.snapshot
  | .clear => s.clearCounters
  | .snapFreeze => s.snapshot.setFrozen true
  | .clearSat p => s.clearSaturating p

/-- The first boundary of 1,024 ns at or after `t`. -/
def boundaryAt (t : Word64) : Word64 := BitVec.ofNat 64 ((t.toNat + 1023) / 1024 * 1024)

/-- The first boundary of 1,024 ns at least 2 µs from now. -/
def Sys.boundarySoon (s : Sys) : Word64 := boundaryAt (s.clk.ext + 2000)

/-- A write of CTRL. -/
def Sys.writeCtrl (path : Path) (v : Word) (s : Sys) : Except Word Sys :=
  let queue (a : CtrAction) : Except Word Sys :=
    .ok (s.modCnt fun c => { c with actions := c.actions ++ [(a, s.boundarySoon)] })
  match v.toNat with
  | 1 => queue .freeze
  | 2 => queue .unfreeze
  | 3 => queue .snapshot
  | 4 => queue .clear
  | 5 => if path == .pcie || (s.sessionOpen path && s.rights path == 3) then queue (.clearSat path) else .error secRights
  | _ => .error mgtReserved

/-- A write of object 0x9000 (20 Table 20-5). -/
def Sys.writeCounterCtl (path : Path) (sub : Nat) (v : Word) (s : Sys) : Except Word Sys :=
  match sub with
  | 0 => s.writeCtrl path v
  | 1 => .ok (s.modCnt fun c => { c with atTime := v })
  | 2 =>
    if 3 < v.toNat then .error mgtReserved
    else
      .ok (s.modCnt fun c =>
        { c with atAct := BitVec.ofNat 2 v.toNat, armed := v != 0, atExt := s.extOf c.atTime })
  | 3 | 4 | 5 => .error mgtReadonly
  | _ => .error mgtNosub

/-- A write to CTRL or ATACT as a command. -/
def counterReq (path : Path) (sub : Nat) (v : Word) (s : Sys) : Sys :=
  request path 0x9000 0 sub (Sys.writeCounterCtl path sub v) s

/-- COUNTER_FREEZE (R589). -/
def execCounterFreeze (path : Path) (s : State) : Host.Outcome State Fault Refusal := .next (s.onSys (counterReq path 0 1))

/-- COUNTER_UNFREEZE (R589). -/
def execCounterUnfreeze (path : Path) (s : State) : Host.Outcome State Fault Refusal := .next (s.onSys (counterReq path 0 2))

/-- COUNTER_SNAPSHOT (R590). -/
def execCounterSnapshot (path : Path) (s : State) : Host.Outcome State Fault Refusal := .next (s.onSys (counterReq path 0 3))

/-- COUNTER_CLEAR (R590). -/
def execCounterClear (path : Path) (s : State) : Host.Outcome State Fault Refusal := .next (s.onSys (counterReq path 0 4))

/-- COUNTER_CLEAR_SATURATING (R591). -/
def execCounterClearSaturating (path : Path) (s : State) : Host.Outcome State Fault Refusal :=
  .next (s.onSys (counterReq path 0 5))

/-- ATACT (R592). -/
def execAtact (path : Path) (value : Word) (s : State) : Host.Outcome State Fault Refusal :=
  .next (s.onSys (counterReq path 2 value))

/-- The action that ATACT stands for. -/
def armedAction (a : BitVec 2) : CtrAction := if a = 1 then .freeze else if a = 2 then .snapshot else .snapFreeze

/-- The armed action runs at its boundary and is disarmed. -/
def Sys.runArmed (at' : Word64) (s : Sys) : Sys :=
  ((s.toExt at').modCnt fun c => { c with armed := false }).counterAct (armedAction s.cnt.atAct)

/-- The oldest action of CTRL runs at its boundary. -/
def Sys.runQueued (a : CtrAction × Word64) (s : Sys) : Sys :=
  ((s.toExt a.2).modCnt fun c => { c with actions := c.actions.drop 1 }).counterAct a.1

/-- The action that reaches its boundary first takes effect. An armed action is held while the time-valid flag is clear. Which
of two runs first at one boundary is a free value (log 29). -/
def Sys.counterApply (s : Sys) : Sys :=
  let b := boundaryAt s.cnt.atExt
  match s.cnt.actions.head?, s.cnt.armed && s.clk.valid with
  | none, true => s.runArmed b
  | some a, false => s.runQueued a
  | some a, true =>
    if a.2 = b then
      let (n, t) := s.draw
      if (Config.freeWord n).getLsbD 0 then t.runArmed b else t.runQueued a
    else if serialGe64 a.2 b then s.runArmed b
    else s.runQueued a
  | none, false => s

/-- COUNTER_ACTION_APPLY (R589). -/
def execCounterActionApply (s : State) : Host.Outcome State Fault Refusal := .next (s.onSys Sys.counterApply)

/-- The time-valid flag has become set: an armed action that is past runs at the next boundary (R592). -/
def Sys.countersValid (s : Sys) : Sys :=
  s.modCnt fun c =>
    let e := s.extOf c.atTime
    { c with atExt := if serialGe64 s.clk.ext e then s.clk.ext else e }

/-! ## Programmable counters (20 R584-R586) -/

/-- Table 20-4 gives the event for the unit's kind. -/
def eventOk (unit event : Nat) : Bool :=
  event == 0 ||
    (if unit < 16 then 1 ≤ event && event ≤ 0x0D
     else if unit < 20 then 0x20 ≤ event && event ≤ 0x27
     else 0x40 ≤ event && event ≤ 0x43)

/-- Packet events. -/
def packetEvent (event : Nat) : Bool := [0x01, 0x03, 0x05, 0x08, 0x09, 0x0D].contains event

/-- A configuration word that the module accepts for a unit. -/
def cfgCheck (unit : Nat) (v : Word) : Option Word :=
  let e := fld v 23 16
  if fld v 28 24 ≠ 0 ∨ fld v 14 10 ≠ 0 then some mgtReserved
  else if !eventOk unit e ∨ (fld v 29 29 = 1 ∧ !packetEvent e) ∨ (fld v 15 15 = 1 ∧ (16 ≤ unit ∨ fld v 9 0 / 64 ≠ unit)) then
    some mgtRange
  else none

/-- A write of object 0x9001, block = unit. -/
def Sys.writeUnit (unit sub : Nat) (v : Word) (s : Sys) : Except Word Sys :=
  let n := if unit = 20 then 4 else 8
  let set (f : UnitCtr → UnitCtr) : Except Word Sys := .ok (s.modCnt fun c => { c with unit := modify c.unit unit {} f })
  if 20 < unit then .error mgtNoblock
  else if sub = 0 ∨ sub = 0x20 then .error mgtReadonly
  else if 1 ≤ sub ∧ sub < 1 + n then set fun u => { u with pc := put u.pc (sub - 1) v }
  else if 0x10 ≤ sub ∧ sub < 0x10 + n then
    match cfgCheck unit v with
    | some e => .error e
    | none => set fun u => { u with cfg := put u.cfg (sub - 0x10) v }
  else if 0x18 ≤ sub ∧ sub < 0x18 + n then set fun u => { u with reload := put u.reload (sub - 0x18) v }
  else .error mgtNosub

/-! ## Packet samples (20 R593, R594) -/

/-- The base header as received, with SKID in place of HCRC bits [6:0]. -/
def withSkid (h : List Byte) (skid : Nat) : List Byte :=
  bytesAt h 0 31 ++ [BitVec.ofNat 8 (beAt h 31 1 / 128 * 128 + skid)]

/-- A record enters the sample buffer; in a full one it replaces the oldest. -/
def Sys.addSample (r : Sample) (s : Sys) : Sys :=
  let full := 256 ≤ s.cnt.samples.length
  let t := s.modCnt fun c =>
    { c with
      samples := (if full then c.samples.drop 1 else c.samples) ++ [r], sampleNext := c.sampleNext + 1
      overwritten := if full && !c.frozen then c.overwritten + 1 else c.overwritten }
  if s.nv.sampVec = 0 then t else t.msix s.nv.sampVec

/-- A counter with SAMPLE overflows and captures a packet. When no overflow that it counted awaits its sample, this is the
overflow: the counter reloads. -/
def Sys.sample (unit ctr port : Nat) (header : List Byte) (s : Sys) : Sys :=
  let u := s.unitCtr unit
  let c := getD u.cfg ctr 0
  if 20 < unit ∨ (unit = 20 ∧ 4 ≤ ctr) ∨ fld c 31 31 = 0 ∨ fld c 29 29 = 0 ∨ s.cnt.frozen then s
  else
    let t := s.modCnt fun x =>
      { x with
        unit := modify x.unit unit {} fun u =>
          if u.owed.contains ctr then { u with owed := u.owed.filter fun i => i != ctr }
          else { u with pc := put u.pc ctr (getD u.reload ctr 0) } }
    let (n, v) := t.draw
    v.addSample
      { num := v.cnt.sampleNext, time := v.now, unit := BitVec.ofNat 8 unit, port := BitVec.ofNat 10 port
        event := BitVec.ofNat 8 (fld c 23 16), ctr := BitVec.ofNat 3 ctr, header := withSkid header (Config.sampleSkid n % 65) }

/-- COUNTER_OVERFLOW_SAMPLE (R593). -/
def execCounterOverflowSample (unit : BitVec 8) (ctr : BitVec 3) (port : Port) (header : List Byte) (s : State) :
    Host.Outcome State Fault Refusal :=
  .next (s.onSys (Sys.sample unit.toNat ctr.toNat port.toNat header))

/-- The 48 bytes of a sample record (20 Table 20-6). -/
def Sample.bytes (r : Sample) : List Byte :=
  toBe 8 r.num.toNat ++ toBe 4 r.time.toNat ++
    toBe 4 (r.unit.toNat * 2 ^ 24 + r.port.toNat * 2 ^ 14 + r.event.toNat * 2 ^ 6 + r.ctr.toNat * 2 ^ 3) ++ bytesAt r.header 0 32

/-- The 64 bytes of a log record (20 Table 20-9). -/
def LogRec.bytes (r : LogRec) : List Byte :=
  toBe 8 r.num.toNat ++ toBe 8 r.time.toNat ++ toBe 4 r.code.toNat ++
    toBe 4 (r.type.toNat * 2 ^ 24 + r.unit.toNat * 2 ^ 16 + r.port.toNat * 2 ^ 6 + r.akind.toNat * 2 ^ 2) ++
    toBe 8 r.addr.toNat ++ (detail8 r.detail).flatMap fun w => toBe 4 w.toNat

/-- A read of the record numbered SEQ, which advances SEQ. -/
def readRecord (path : Path) (index seqSub : Nat) (find : Nat → Option (List Byte)) (s : Sys) : Except Word (List Byte × Sys) :=
  let q := s.selOf path index seqSub
  match find q.toNat with
  | some b => .ok (b, s.setSel path index seqSub (q + 1))
  | none => .error mgtRange

/-- A read of RECORD of object 0x9080. -/
def Sys.readSample (path : Path) (s : Sys) : Except Word (List Byte × Sys) :=
  readRecord path 0x9080 3 (fun n => (s.cnt.samples.find? fun r => r.num.toNat == n).map Sample.bytes) s

/-- SAMPLE_RECORD_READ (R594). -/
def execSampleRecordRead (path : Path) (s : State) : Host.Outcome State Fault Refusal :=
  .next (s.onSys (requestR path 0x9080 0 4 (Sys.readSample path)))

/-- A read of RECORD of object 0xF000. -/
def Sys.readLog (path : Path) (s : Sys) : Except Word (List Byte × Sys) :=
  readRecord path 0xF000 0 (fun n => (s.nv.log.find? fun r => r.num.toNat == n).map LogRec.bytes) s

/-- ERROR_LOG_READ (R603). -/
def execErrorLogRead (path : Path) (s : State) : Host.Outcome State Fault Refusal :=
  .next (s.onSys (requestR path 0xF000 0 3 (Sys.readLog path)))

/-- A write of object 0x9080. -/
def Sys.writeSampleCtl (path : Path) (sub : Nat) (v : Word) (s : Sys) : Except Word Sys :=
  match sub with
  | 0 => if v.toNat = 0 ∨ (4 ≤ v.toNat ∧ v.toNat ≤ 63) then s.rws fun n => { n with sampVec := v.toNat } else .error mgtRange
  | 3 => .ok (s.setSel path 0x9080 3 v)
  | 1 | 2 | 4 | 5 => .error mgtReadonly
  | _ => .error mgtNosub

/-! ## Bandwidth (20 R595, R596) -/

/-- A bandwidth window closes on every port. -/
def Sys.windowClose (s : Sys) : Sys :=
  let k := 17 + s.cnt.wexp
  let t := s.toExt (s.dueOnce k s.clk.firstWindow s.clk.lastWindow s.clk.ranWindow)
  let bw (d : Nat) : Nat := d * 1000 / 2 ^ k % 2 ^ 32
  let u := t.modPorts fun q =>
    { q with
      port := q.port.map fun e => (e.1, { e.2 with rxBw := bw e.2.rxBytes, txBw := bw e.2.txBytes, rxBytes := 0, txBytes := 0 }) }
  (u.modCnt fun c =>
    { c with
      wend := t.now, wflags := BitVec.ofNat 2 (b2n t.clk.stepInWindow + 2 * b2n (!t.clk.valid)), wexp := t.nv.wexp }).modClk
    fun c =>
      { c with
        stepInWindow := false, firstWindow := t.runOf k c.firstWindow c.lastWindow
        ranWindow := t.ranOf k c.firstWindow c.lastWindow c.ranWindow, lastWindow := t.floorTo k }

/-- BANDWIDTH_WINDOW_CLOSE (R595). -/
def execBandwidthWindowClose (s : State) : Host.Outcome State Fault Refusal := .next (s.onSys Sys.windowClose)

end Sys2Proof.Machine
end

