-- ==== Sys2Proof/Machine/Time.lean ====
section
/-! DEFINITION. Fabric time: sources, the servo, steps, holdover, and the capture and pulse pins (16). -/

namespace Sys2Proof.Machine

/-! ## Qualification (16 R477, R480, R481, R489) -/

/-- A measured offset, local minus source, of a kind and port waits for the servo. -/
def Sys.measure (kind port : Nat) (off : Int) (s : Sys) : Sys :=
  s.modClk fun c => { c with meas := put c.meas (kind * 1024 + port) off }

/-- A TIME ordered set from a port: bytes 2 and 4-7 hold the flags and the time (02 Table 02-12). -/
def Sys.timeReceive (p : Nat) (b : List Byte) (s : Sys) : Sys :=
  if !s.timeOn then s
  else
    let q := s.port p
    let flags := beAt b 2 1
    let x := getD s.clk.links p {}
    if bit flags 7 && !bit flags 6 && q.st == .up then
      let off := ((s.now - wordAt b 4).toInt - q.delay - getD s.nv.asym p 0)
      ((s.modClk fun c =>
          { c with links := put c.links p { good := x.good + 1, qualified := x.qualified || 4 ≤ x.good + 1, last := c.mono } }).measure
        3 p (BitVec.ofInt 32 off).toInt).sourceChange
    else (s.modClk fun c => { c with links := put c.links p { last := c.mono } }).sourceChange

/-- TIME_OS_RECEIVE (R477). -/
def execTimeOsReceive (port : Port) (bytes : List Byte) (s : State) : Host.Outcome State Fault Refusal :=
  .next (s.onSys (Sys.osReceive port.toNat 2 bytes (Sys.timeReceive port.toNat bytes)))

/-- 65,536 ns have passed on a port without a TIME. -/
def Sys.timeTimeout (p : Nat) (s : Sys) : Sys :=
  match get? s.clk.links p with
  | some x => ((s.toMono (x.last + 65536)).modClk fun c => { c with links := del c.links p }).sourceChange
  | none => s

/-- TIME_OS_TIMEOUT (R477). -/
def execTimeOsTimeout (port : Port) (s : State) : Host.Outcome State Fault Refusal :=
  .next (s.onSys (Sys.timeTimeout port.toNat))

/-- The PTP clock of a management port. -/
def Clock.ptp (c : Clock) (portB : Bool) : PtpSrc := if portB then c.ptpB else c.ptpA

/-- The PTP clock of a management port is set. -/
def Clock.setPtp (portB : Bool) (x : PtpSrc) (c : Clock) : Clock := if portB then { c with ptpB := x } else { c with ptpA := x }

/-- `a` is a better master than `b`: of one grandmaster the nearer, else by the attributes in their order (16 R477; IEEE 1588). -/
def betterMaster (a b : PtpAnnounce) : Bool :=
  let less : List (Nat × Nat) → Bool := fun l => match l.find? fun e => e.1 != e.2 with | some e => decide (e.1 < e.2) | none => false
  if a.grandmaster = b.grandmaster then less [(a.steps, b.steps), (a.sender, b.sender)]
  else
    less
      [(a.priority1, b.priority1), (a.clockClass, b.clockClass), (a.accuracy, b.accuracy), (a.variance, b.variance),
       (a.priority2, b.priority2), (a.grandmaster, b.grandmaster)]

/-- The sender that the best master clock algorithm chooses among those heard (16 R477; log 179). -/
def PtpSrc.master (x : PtpSrc) : Option Nat :=
  match x.masters with
  | [] => none
  | a :: r => some (r.foldl (fun m b => if betterMaster b m then b else m) a).sender

/-- An Announce of a sender replaces its last one. Another master than before starts afresh. -/
def PtpSrc.hear (a : PtpAnnounce) (x : PtpSrc) : PtpSrc :=
  let y := { x with masters := (x.masters.filter fun m => m.sender != a.sender) ++ [a] }
  if y.master = x.master then y else { y with good := 0, qualified := false, logInterval := 0, sync := none, req := none }

/-- The master's time of departure of a Sync is known: a Delay_Req asks for the delay. -/
def Sys.askDelay (portB : Bool) (x : PtpSrc) (s : Sys) : Sys :=
  (s.modClk fun c => c.setPtp portB { x with req := some (x.reqSeq, c.ext), reqSeq := x.reqSeq + 1 }).emit (.delayReq portB x.reqSeq)

/-- The clock of a management port hears a message of its transport and domain (16 R477, R481). t1 and t2 are the departure and
the arrival of a Sync, t3 and t4 those of a Delay_Req; a correction field is taken from the time of arrival. A Sync before the
answer to the last one breaks the run of complete exchanges. -/
def Sys.ptpBody (portB : Bool) (sender : Nat) (m : PtpBody) (s : Sys) : Sys :=
  let x := s.clk.ptp portB
  let set (y : PtpSrc) : Sys := s.modClk fun c => c.setPtp portB y
  let mine := x.master == some sender
  match m with
  | .announce a => (set (x.hear { a with sender })).sourceChange
  | .sync seq two origin corr interval =>
    if !mine || interval < -7 || 0 < interval then s
    else
      let y := { x with
        good := if x.sync.isSome then 0 else x.good, logInterval := interval, req := none
        sync := some (seq, s.clk.ext - BitVec.ofInt 64 corr, if two then none else some origin) }
      if two then set y else s.askDelay portB y
  | .followUp seq origin corr =>
    match x.sync with
    | some (q, t2, none) =>
      if mine && q == seq then
        s.askDelay portB { x with sync := some (q, t2 - BitVec.ofInt 64 corr, some origin) }
      else s
    | _ => s
  | .delayResp seq received corr asked =>
    match x.sync, x.req with
    | some (_, t2, some t1), some (q, t3) =>
      if mine && asked && q == seq then
        let t4 := received - BitVec.ofInt 64 corr
        ((set
            { x with
              good := x.good + 1, qualified := x.qualified || 4 ≤ x.good + 1, last := s.clk.mono, sync := none
              req := none }).measure (1 + b2n portB) 0 (((t2 - t1).toInt - (t4 - t3).toInt) / 2)).sourceChange
      else s
    | _, _ => s

/-- A PTP message on a management port: of the transport and the domain that are set (16 R481, R491). -/
def Sys.ptpMessage (portB : Bool) (m : PtpMsg) (s : Sys) : Sys :=
  if s.timeOn && m.ieee8023 == s.clk.cfg.ptpXport && m.domain == s.clk.cfg.ptpDomain.setWidth 8 then s.ptpBody portB m.sender m.body
  else s

/-- PTP_MESSAGE_RECEIVE (R481). -/
def execPtpMessageReceive (portB : Bool) (m : PtpMsg) (s : State) : Host.Outcome State Fault Refusal :=
  .next (s.onSys (Sys.ptpMessage portB m))

/-- Three Sync intervals have passed without a complete exchange; the master that has fallen silent is no longer chosen until it
announces itself again (log 179). -/
def Sys.ptpTimeout (portB : Bool) (s : Sys) : Sys :=
  let x := s.clk.ptp portB
  if x.good = 0 ∧ !x.qualified then s
  else
    ((s.toMono (x.last + 3 * (1000000000 / 2 ^ (-x.logInterval).toNat))).modClk fun c =>
      c.setPtp portB
        { x with
          good := 0, qualified := false, logInterval := 0, sync := none, req := none
          masters := x.masters.filter fun a => x.master != some a.sender }).sourceChange

/-- PTP_SOURCE_TIMEOUT (R477). -/
def execPtpSourceTimeout (portB : Bool) (s : State) : Host.Outcome State Fault Refusal :=
  .next (s.onSys (Sys.ptpTimeout portB))

/-- Distance of a capture from the nearest multiple of 10^9 ns. -/
def ppsOffset (capture : Word64) : Int :=
  let r := capture.toNat % 1000000000
  if r < 500000000 ∨ (r = 500000000 ∧ Config.ppsTie) then r else (r : Int) - 1000000000

/-- A rising edge on PPS_IN is captured; four of them 10^9 ns ± 1 µs apart qualify the source. Edges before the high half of the
extended time has been set by PTP or SETTIME do not count (16 R477). -/
def Sys.ppsEdge (s : Sys) : Sys :=
  if s.boot.mode ≠ .ready ∧ s.boot.mode ≠ .kindling then s
  else
    let cap := s.clk.ext - BitVec.ofNat 64 s.clk.cfg.ppsInDly
    let good :=
      match s.clk.ppsLast with
      | some t =>
        let d := s.clk.mono - t
        if 999999000 ≤ d ∧ d ≤ 1000001000 ∧ s.clk.ppsGood ≠ 0 then s.clk.ppsGood + 1 else 1
      | none => 1
    let t := s.modClk fun c => { c with ppsCapture := cap, ppsCount := c.ppsCount + 1, ppsLast := some c.mono }
    if !s.timeOn || !s.clk.highSet then t
    else
      ((t.modClk fun c => { c with ppsGood := good, ppsQualified := c.ppsQualified || 4 ≤ good }).measure 4 0
        (ppsOffset cap)).sourceChange

/-- PPS_IN_EDGE (R489). -/
def execPpsInEdge (s : State) : Host.Outcome State Fault Refusal := .next (s.onSys Sys.ppsEdge)

/-- 1.5 s have passed without an edge on PPS_IN. -/
def Sys.ppsTimeout (s : Sys) : Sys :=
  match s.clk.ppsLast with
  | some t =>
    ((s.toMono (t + 1500000000)).modClk fun c => { c with ppsGood := 0, ppsQualified := false, ppsLast := none }).sourceChange
  | none => s

/-- PPS_TIMEOUT (R477). -/
def execPpsTimeout (s : State) : Host.Outcome State Fault Refusal := .next (s.onSys Sys.ppsTimeout)

/-! ## The servo (16 R482) -/

/-- The count has run at its rate correction for one control cycle. The model moves it at the end of the cycle (log 28). -/
def Sys.slew (s : Sys) : Sys :=
  s.modClk fun c =>
    let n := c.rate * 131072 + c.slewRest
    { c with ext := c.ext + BitVec.ofInt 64 (n / 1000000000), slewRest := n % 1000000000 }

/-- The time unit on CD0 tells every other die in Felt control traffic (16 R483, 01 R31; the message's form is log 141). -/
def Sys.tellDies (bytes : List Byte) (s : Sys) : Sys :=
  (List.range 20).foldl (fun t d => if t.boot.lostDies.contains d then t else t.sendControl 16 d bytes) s

/-- The time unit sends the time and its rate to the copies of the dies (01 R31). -/
def Sys.sendTime (s : Sys) : Sys :=
  if s.timeOn then s.tellDies (toBe 8 s.clk.ext.toNat ++ toBe 4 (twos 32 s.clk.rate)) else s

/-- The time unit names a step: its boundary and its size. -/
def Sys.nameStep (st : Step) (s : Sys) : Sys :=
  (s.modClk fun c => { c with step := some st }).tellDies (toBe 8 st.boundary.toNat ++ toBe 8 (twos 64 st.delta))

/-- The rate that the servo takes: at most 50 ppm from the nominal one, and never one that adds to the offset (16 R482; log 28). -/
def slewTo (off old : Int) : Int :=
  let r := max (-50000) (min 50000 (Config.servoRate off old))
  if 0 < off then min 0 r else if off < 0 then max 0 r else r

/-- A correction of a measured offset: the first one, and one beyond STEPTHR, is a step. -/
def Sys.correct (off : Int) (s : Sys) : Sys :=
  let high := s.clk.kind == 1 || s.clk.kind == 2
  let t := s.modClk fun c => { c with offset := off }
  if !s.clk.corrected ∨ (s.clk.cfg.stepThr : Int) < off.natAbs then
    if s.clk.step.isSome then t
    else t.nameStep { boundary := s.boundarySoon, delta := -off, first := !s.clk.corrected, high }
  else t.modClk fun c => { c with rate := slewTo off c.rate, highSet := c.highSet || high }

/-- A signal on REF10M_IN is present or not; it is in use where REFSEL is 1, and a holdover takes its rate (16 R487). -/
def Sys.reference (present : Bool) (s : Sys) : Sys :=
  s.modClk fun c =>
    let d := { c with refPresent := present, refInUse := present && c.cfg.refSel }
    if c.holdover then { d with rate := d.holdRate } else d

/-- The time unit's part of a control cycle: the settings written take effect, the source is chosen, and the servo corrects on
this cycle's measurements (16 R476, R482, R485, R491). -/
def Sys.timeCycle (s : Sys) : Sys :=
  let t := ((s.slew.modClk fun c => { c with cfg := s.nv.time }).reference s.clk.refPresent).chooseSource
  let k := t.clk.kind.toNat
  let u :=
    if k = 0 then t
    else if k = 5 then t.modClk fun c => { c with rate := meanRate c.rates }
    else
      let v := match get? t.clk.meas (k * 1024 + t.clk.srcPort.toNat) with
        | some off => t.correct off
        | none => t
      v.modClk fun c => { c with rates := (c.rate :: c.rates).take 64 }
  (u.modClk fun c => { c with meas := [] }).sendTime

/-! ## Steps (16 R483, R484, R488) -/

/-- The first multiple of 10^9 ns plus PPSOFF after `t`. -/
def nextPps (off : Int) (t : Word64) : Word64 :=
  BitVec.ofInt 64 (((t.toNat - off) / 1000000000 + 1) * 1000000000 + off)

/-- The last due time of PPS_OUT up to now. -/
def Sys.ppsHere (s : Sys) : Word64 := nextPps s.clk.cfg.ppsOff (s.clk.ext - 1000000000)

/-- The time-valid flag has become set: PPS_OUT rises first at the next due time (16 R490). -/
def Sys.ppsValid (s : Sys) : Sys := s.modClk fun c => { c with firstPps := s.ppsHere, lastPps := s.ppsHere }

/-- A step at the boundary that the time unit named; the first one sets the time-valid flag, and E of each held gate list is
computed then (11 R371). Timed events take the new time; after a step back the next refill comes at the next boundary that the
time reaches (11 R361). -/
def Sys.stepApply (s : Sys) : Sys :=
  match s.clk.step with
  | none => s
  | some st =>
    let t := (s.toExt st.boundary).modClk fun c =>
      { c with
        ext := c.ext + BitVec.ofInt 64 st.delta, steps := c.steps + 1, valid := true, corrected := true, stepInWindow := true
        step := none, meas := [], highSet := c.highSet || st.high
        ptpA := { c.ptpA with sync := none, req := none }, ptpB := { c.ptpB with sync := none, req := none } }
    let d := twos 64 st.delta
    let detail : List Word := [0, 0, 0, 0, BitVec.ofNat 32 (d / 2 ^ 32), BitVec.ofNat 32 d]
    let u :=
      if t.clk.cfg.stepThr < st.delta.natAbs ∧ !st.first then t.faultUnit faultTimeStep 16 detail
      else t.log faultTimeStep 0x03 16 0 0 0 detail
    let v := if st.delta < 0 then u.modClk fun c => { c with lastRefill := u.floorTo 10 } else u
    (if s.clk.valid then v.gatesStep else v.ppsValid.gatesValid.plansValid.countersValid).planOverdue.settle

/-- TIME_STEP_APPLY (R483). -/
def execTimeStepApply (s : State) : Host.Outcome State Fault Refusal := .next (s.onSys Sys.stepApply)

/-- HOLDLIM has passed in holdover: it is reported once (16 R485). -/
def Sys.holdLimit (s : Sys) : Sys :=
  if s.clk.holdover && !s.clk.holdReported then
    ((s.toMono (s.clk.holdStart + s.clk.cfg.holdLim * 1000000000)).modClk fun c => { c with holdReported := true }).faultUnit
      faultTimeHoldover 16 []
  else s

/-- HOLDOVER_LIMIT (R485). -/
def execHoldoverLimit (s : State) : Host.Outcome State Fault Refusal := .next (s.onSys Sys.holdLimit)

/-! ## Pins (16 R487, R490) -/

/-- PPS_OUT rises at its due time, or falls 10 µs after it rose; it is low while the time-valid flag is clear. -/
def Sys.ppsOutEdge (s : Sys) : Sys :=
  if s.clk.ppsOut then
    ((s.toMono (s.clk.ppsRise + 10000)).modClk fun c => { c with ppsOut := false }).emit (.ppsOut false)
  else if s.clk.valid then
    let c := s.clk
    let t := s.toExt (s.dueOf (nextPps c.cfg.ppsOff) c.firstPps c.lastPps c.ranPps)
    let here := t.ppsHere
    let goes := here == c.lastPps + 1000000000
    (t.modClk fun c =>
      { c with
        ppsOut := true, ppsRise := c.mono, firstPps := if goes then c.firstPps else here, lastPps := here
        ranPps := if goes then c.ranPps else (c.firstPps, c.lastPps) :: c.ranPps }).emit (.ppsOut true)
  else s

/-- PPS_OUT_EDGE (R490). -/
def execPpsOutEdge (s : State) : Host.Outcome State Fault Refusal := .next (s.onSys Sys.ppsOutEdge)

/-- A signal appears on REF10M_IN or fails; a failure of the reference in use is logged (16 R487). -/
def Sys.refDetect (present : Bool) (s : Sys) : Sys :=
  let t := s.reference present
  if s.clk.refInUse && !present then t.log Config.refLostCode 0x03 16 0 0 0 [] else t

/-- REF10M_DETECT (R625). -/
def execRef10mDetect (present : Bool) (s : State) : Host.Outcome State Fault Refusal :=
  .next (s.onSys (Sys.refDetect present))

/-! ## Objects (16 R491-R493) -/

/-- A write of SETTIME_LO: the dictionary source qualifies and is in use, and the time is stepped to SETTIME. -/
def Sys.setTime (lo : Word) (s : Sys) : Except Word Sys :=
  if !(prioList s.clk.cfg.srcPrio).contains 5 ∨ s.earlierQualified ∨ !s.timeOn then .error mgtState
  else
    let t := (s.modClk fun c => { c with dictQualified := true }).chooseSource
    let b := t.boundarySoon
    .ok (t.nameStep { boundary := b, delta := ((t.clk.setHi ++ lo) - b).toInt, first := !t.clk.corrected, high := true })

/-- A write of object 0x7001 (16 Table 16-3). -/
def Sys.writeTime (sub : Nat) (v : Word) (s : Sys) : Except Word Sys :=
  let n := v.toNat
  let set (ok : Bool) (err : Word) (f : TimeCfg → TimeCfg) : Except Word Sys :=
    if ok then s.rws fun p => { p with time := f p.time } else .error err
  match sub with
  | 0 =>
    set (decide (n < 65536) && [fld v 15 12, fld v 11 8, fld v 7 4, fld v 3 0].all (· ≤ 5)) mgtReserved fun t =>
      { t with srcPrio := BitVec.ofNat 16 n }
  | 1 => set (100 ≤ n && n ≤ 100000) timeRange fun t => { t with stepThr := n }
  | 2 => set (1 ≤ n && n ≤ 3600) timeRange fun t => { t with holdLim := n }
  | 3 => set (n ≤ 127) timeRange fun t => { t with ptpDomain := BitVec.ofNat 7 n }
  | 4 => set (n ≤ 1) mgtReserved fun t => { t with ptpXport := v == 1 }
  | 5 => set (-500000000 ≤ v.toInt && v.toInt ≤ 499999999) timeRange fun t => { t with ppsOff := v.toInt }
  | 6 => set (n ≤ 1000000) timeRange fun t => { t with ppsInDly := n }
  | 7 => set (n ≤ 1) mgtReserved fun t => { t with refSel := v == 1 }
  | 8 => .ok (s.modClk fun c => { c with setHi := v })
  | 9 => s.setTime v
  | _ => .error mgtNosub

/-- SETTIME_LO (R491). -/
def execSettimeLo (path : Path) (value : Word) (s : State) : Host.Outcome State Fault Refusal :=
  .next (s.onSys (request path 0x7001 0 9 (Sys.writeTime 9 value)))

/-- A write of object 0x7002 on the selected port. -/
def Sys.writePortTime (path : Path) (sub : Nat) (v : Word) (s : Sys) : Except Word Sys :=
  let p := (s.selOf path 0x7002 0).toNat % 1024
  match sub with
  | 0 => if 1023 < v.toNat then .error mgtReserved else .ok (s.setSel path 0x7002 0 v)
  | 1 =>
    if 1 < v.toNat then .error mgtReserved
    else (s.rws fun n => { n with tsrc := put n.tsrc p (v == 1) }).map Sys.sourceChange
  | 2 =>
    if -1000 ≤ v.toInt ∧ v.toInt ≤ 1000 then s.rws fun n => { n with asym := put n.asym p v.toInt } else .error mgtRange
  | 3 => .error mgtReadonly
  | _ => .error mgtNosub

/-- A read of EXTHI latches EXTLO in the path's view. -/
def Sys.readExtHi (path : Path) (s : Sys) : List Byte × Sys :=
  (toBe 4 (s.clk.ext.toNat / 2 ^ 32), s.modClk fun c => { c with extLo := put c.extLo (pathNum path) s.now })

/-- EXTHI_READ (R492). -/
def execExthiRead (path : Path) (s : State) : Host.Outcome State Fault Refusal :=
  .next (s.onSys (requestR path 0x7000 0 1 fun t => .ok (t.readExtHi path)))

end Sys2Proof.Machine
end

