-- ==== Sys2Proof/Machine/Hearth.lean ====
section
/-! DEFINITION. The Hearth: budget, limits, sensors, the control cycle and the profiles (17), and the flush of the journal (18
R555). -/

namespace Sys2Proof.Machine

/-! ## Journal flush (18 R555, R558) -/

/-- Bytes of a journal half. -/
def journalHalf : Nat := 33554432

/-- The journal fails: reported once (18 R558). -/
def Sys.journalFail (s : Sys) : Sys :=
  if s.jr.failed then s else (s.modJr fun j => { j with failed := true }).faultUnit faultJournal 20 []

/-- A half of the journal: B or A. -/
def Journal.half (b : Bool) (j : Journal) : Half := if b then j.halfB else j.halfA

/-- A half of the journal is written. -/
def Journal.setHalf (b : Bool) (h : Half) (j : Journal) : Journal := if b then { j with halfB := h } else { j with halfA := h }

/-- The records of a half that a replay takes: up to the first one whose CRC fails (18 R556). -/
def Half.good (h : Half) : List JrnlRec := h.recs.takeWhile JrnlRec.crcOk

/-- The half that Kindling replays: the valid one with the higher epoch (18 R556). -/
def Journal.newer (j : Journal) : Bool := j.halfB.valid && (!j.halfA.valid || j.halfA.epoch.toNat < j.halfB.epoch.toNat)

/-- What a replay of the journal restores: what its last good record left. -/
def Journal.replay (j : Journal) : Persist :=
  let h := j.half j.newer
  if h.valid then (match h.good.getLast? with | some r => r.content | none => {}) else {}

/-- The records in the buffer are written to the active half (18 R555). A half that is full, or fails to program, fails the
journal. -/
def Sys.flush (ok : Bool) (s : Sys) : Sys :=
  if s.jr.failed then s
  else if !ok ∨ journalHalf < s.jr.used + s.jr.buffered then s.journalFail
  else
    s.modJr fun j =>
      let h := j.half j.onB
      { j.setHalf j.onB { h with recs := h.recs ++ j.buf } with
        buf := [], used := j.used + j.buffered, buffered := 0, lastFlush := s.now }

/-! ## Sensors (17 R509, R511) -/

/-- A sensor of the module. -/
def sensorOk : Sensor → Bool
  | .die u => u < 20
  | .stack k => k < 20
  | _ => true

/-- Unit of a sensor in a report. -/
def sensorUnit : Sensor → Nat
  | .die u => u
  | .stack k => k
  | _ => 20

/-- A sensor's reading in 1/256 °C, or in 0.01 L/min for the flow; a failed one reads as R511 states. A failed port-die sensor
has no zero point and gives no reading (log 122). -/
def Sys.reading (x : Sensor) (s : Sys) : Option Int :=
  if s.hearth.sensorFailed.contains x then
    match x with
    | .die u => if u < 16 then none else some 26880
    | .stack _ => some 24320
    | .inlet => some 10240
    | .flow => some 700
  else
    match x with
    | .die u => some (getD s.hearth.tj u 0)
    | .stack k => some (s.stack k).temp
    | .inlet => some s.hearth.tinlet
    | .flow => some (s.hearth.flow : Int)

/-- A reading is at or beyond its warn level (17 Table 17-6). -/
def warnOut (x : Sensor) (t : Int) : Bool :=
  match x with
  | .die u => if u < 16 then 25600 ≤ t else 24320 ≤ t
  | .stack _ => 21760 ≤ t
  | .inlet => t < 5120 || 10240 < t
  | .flow => t < 700

/-- The code of a warn report. -/
def warnCode : Sensor → Word
  | .inlet => faultCoolInlet
  | .flow => faultCoolFlow
  | _ => faultThermWarn

/-- A warn level is watched: a crossing is reported once, and again only after 10 s inside the level (17 R509). -/
def Sys.warn (x : Sensor) (s : Sys) : Sys :=
  match s.reading x with
  | none => s
  | some t =>
    let others := s.hearth.warned.filter fun e => e.1 != x
    let set (l : List (Sensor × Option Nat)) : Sys := s.modHearth fun h => { h with warned := others ++ l }
    let report : Sys := (set [(x, none)]).faultUnit (warnCode x) (sensorUnit x) []
    match s.hearth.warned.find? fun e => e.1 == x with
    | none => if warnOut x t then report else s
    | some (_, none) => if warnOut x t then s else set [(x, some s.clk.mono)]
    | some (_, some since) =>
      let old := since + 10000000000 ≤ s.clk.mono
      if warnOut x t then (if old then report else set [(x, none)]) else if old then set [] else s

/-- A sensor fails: reported once (17 R511). -/
def Sys.sensorFail (x : Sensor) (s : Sys) : Sys :=
  if s.hearth.sensorFailed.contains x then s
  else (s.modHearth fun h => { h with sensorFailed := h.sensorFailed ++ [x] }).faultUnit faultThermSensor (sensorUnit x) []

/-- SENSOR_FAIL (R511). -/
def execSensorFail (sensor : Sensor) (s : State) : Host.Outcome State Fault Refusal :=
  if sensorOk sensor then .next (s.onSys (Sys.sensorFail sensor)) else .fault .noUnit

/-- The coolant is sampled (18 R527, 17 R509). -/
def Sys.coolant (inlet outlet : BitVec 32) (flow : Word) (s : Sys) : Sys :=
  ((s.modHearth fun h => { h with tinlet := inlet.toInt, toutlet := outlet.toInt, flow := flow.toNat }).warn .inlet).warn .flow

/-- Share of 256 that a temperature leaves between its derate start and its zero point (17 R509). -/
def derate (start zero t : Int) : Nat :=
  if t ≤ start then 256 else if zero ≤ t then 0 else (256 * (zero - t) / (zero - start)).toNat

/-- Share of a core die. -/
def Sys.coreDerate (core : Nat) (s : Sys) : Nat :=
  match s.reading (.die (16 + core)) with
  | some t => derate 24320 26880 t
  | none => 256

/-- Share of the HBM, by the hottest stack in service. -/
def Sys.hbmDerate (s : Sys) : Nat :=
  s.liveStacks.foldl
    (fun d k => match s.reading (.stack k) with | some t => min d (derate 21760 24320 t) | none => d) 256

/-- Highest Vat level of an operating point (17 Table 17-3). -/
def pointTop (p : Nat) : Nat := match p with | 0 => 256 | 1 => 192 | _ => 64

/-- A core die moves between its operating points: C1 from 95 °C on, back after 8 cycles below 90 °C, C2 in Economy. -/
def Sys.movePoint (core : Nat) (s : Sys) : Sys :=
  let p := nth s.hearth.opPoint core 0
  let n := nth s.hearth.coolCycles core 0
  let t := (s.reading (.die (16 + core))).getD 0
  let cool := if t < 23040 then n + 1 else 0
  let q := if s.hearth.inForce = 3 then 2 else if 24320 ≤ t then 1 else if p = 1 ∧ cool < 8 then 1 else 0
  (s.syncUnit (16 + core)).modHearth fun h =>
    { h with opPoint := setNth h.opPoint core q, coolCycles := setNth h.coolCycles core cool }

/-! ## Limits (17 R501-R503) -/

/-- The rack budget in force: without a facility budget the dictionary's applies (log 122). -/
def Sys.rackBudget (s : Sys) : Nat :=
  let d := s.nv.budget
  let f := min 4200 (max 2600 s.hearth.facBudget)
  min 4200
    (if s.nv.budgetSrc = 0 ∨ !s.hearth.facSeen then d
     else if s.nv.budgetSrc = 1 ∧ !s.hearth.stale then f
     else min f d)

/-- P_therm in W, rounded down. -/
def Sys.pTherm (s : Sys) : Int :=
  let f := (s.reading .flow).getD 0
  let t := (s.reading .inlet).getD 0
  (32 * min 4200 (6 * f) - 25 * max 0 (t - 10240)) / 32

/-- L and the limit that is in force: 0 rack budget, 1 module maximum, 2 thermal. -/
def Sys.limitOf (s : Sys) : Int × Nat :=
  let rack : Int := s.rackBudget
  let th := s.pTherm
  let first (a b : Int × Nat) : Int × Nat :=
    if a.1 < b.1 ∨ (a.1 = b.1 ∧ Config.limitTie a.2 b.2) then a else b
  first (first (rack, 0) (4200, 1)) (th, 2)

/-! ## Grants (17 R504-R508) -/

/-- A class takes its demand from what remains. -/
def takeTokens (n want : Nat) : Nat × Nat := (min n want, n - min n want)

/-- Tokens split by weight among classes: no class takes more than it needs, and what it leaves goes to the others. -/
def splitTokens : Nat → Nat → List (Nat × Nat) → List Nat
  | 0, _, l => l.map fun _ => 0
  | fuel + 1, n, l =>
    let total := sum (l.map fun e => if e.2 = 0 then 0 else e.1)
    if total = 0 then l.map fun _ => 0
    else
      let part (e : Nat × Nat) : Nat := min e.2 (n * e.1 / total)
      let got := l.map part
      let more := splitTokens fuel (n - sum got) (l.map fun e => (e.1, e.2 - part e))
      List.zipWith (· + ·) got more

/-- What a cycle grants: Vat levels, and tokens for spill read-back, escapes, flow contexts, spill writes, broadcast, and parity
and rebuild. -/
structure Grants where
  levels : List Nat
  tokens : List Nat

/-- Every HBM token that the trained rate and the stacks in service carry in one cycle (14 R430). -/
def Sys.tokenCap (s : Sys) : Nat :=
  let live := s.liveStacks
  let rate := live.foldl (fun m k => min m (s.stack k).rate) 80
  81920 * rate * live.length / 1600

/-- hbm_split: the order of Table 17-5. -/
def hbmSplit (p : Profile) (n : Nat) (demand : List Nat) : List Nat :=
  let r := takeTokens n (nth demand 0 0)
  let e := takeTokens r.2 (nth demand 1 0)
  let f := takeTokens e.2 (nth demand 2 0)
  [r.1, e.1, f.1] ++
    splitTokens 4 f.2 [(p.wspill, nth demand 3 0), (p.wbc, nth demand 4 0), (p.wpar, nth demand 5 0)]

/-- Vat levels for `v` W: what the dies ask for where it suffices, else a division that the spec leaves open. -/
def vatLevels (v : Nat) (want : List Nat) : List Nat :=
  let fits (l : List Nat) : Bool := sum l * 470 ≤ v * 1024 && (List.range 4).all fun i => nth l i 0 ≤ nth want i 0
  let c := (List.range 4).map fun i => nth (Config.vatLevels v want) i 0
  if sum want * 470 / 1024 ≤ v then want
  else if fits c then c
  else want.map fun w => w * (v * 1024 / 470) / sum want

/-- Bytes that a Vat level of a core die takes in one control cycle: 1/256 of 8 Vats at 512 B and 1.6 GHz. -/
abbrev levelBytes : Nat := 3355443

/-- Parts of `n` that `m` are needed for. -/
def parts (n m : Nat) : Nat := (m + n - 1) / n

/-- A core die's Vat demand: what waits for its Vats, and the operand's part (17 R504; log 180). -/
def Sys.vatDemand (m : CycleInput) (core : Nat) (s : Sys) : Nat :=
  let mine := (s.sw.svc.filter fun d => d.core == core && d.svc == 1 && d.pkt.kind == 2) ++ getD s.coll.waiting core []
  min 256 (nth m.vatDemand core 0 + parts levelBytes (sum (mine.map fun d => d.pkt.payload.length)))

/-- Bytes that wait for HBM tokens in each class of Table 17-5 below the floor: spilled packets; escape records of waiting
contributions; contexts of the miss queues; cells above LOW of pools that spill; segments to load, to send and received; tiles of
vault nodes ready for staging (17 R504; log 180). -/
def Sys.hbmBacklog (s : Sys) : List Nat :=
  let above (e : Port × PortSt) (k : Nat) : Nat :=
    nth e.2.used k 0 - s.sw.spillCfg.low * allot (s.pcfg e.1.toNat).width k / 100
  let spills (e : Nat × PortSt) : Nat :=
    let p := (BitVec.ofNat 10 e.1, e.2)
    (if e.2.spillUp then above p 0 else 0) + (if e.2.spillTurned then above p 1 else 0)
  let segs := (s.sw.svc ++ s.flows.missq.flatMap fun e => e.2).filter fun d => d.svc == 2 && d.pkt.kind == 4
  let tiles (e : Nat × Ctx) : Nat :=
    match e.2.parity with
    | some _ =>
      ((List.range e.2.desc.w.toNat).filter fun k => !(e.2.tile (e.2.low + k)).waiting && e.2.ready (e.2.low + k)).length
    | none => 0
  [s.sw.spillHeld, sum (s.coll.waiting.map fun e => sum (e.2.map fun d => escapeBytes * d.pkt.payload.length)),
   512 * sum (s.flows.missq.map fun e => e.2.length), if s.spillOn then 64 * sum (s.ports.port.map spills) else 0,
   sum (s.bc.loads.map fun j => j.data.length) + 4096 * ((s.bc.objs.filter fun o => (s.bcNext o).isSome).length + segs.length),
   8192 * sum (s.coll.ctx.map tiles)]

/-- The HBM demands in tokens: what waits, and the operand's part. -/
def Sys.hbmDemand (m : CycleInput) (s : Sys) : List Nat :=
  (List.range 6).map fun i => nth m.hbmDemand i 0 + parts 65536 (nth s.hbmBacklog i 0)

/-- hearth_cycle: `extra` is the excess of the last cycle in W at the rails (17 R504). -/
def Sys.hearthGrants (lim : Int) (m : CycleInput) (extra : Nat) (warm : Bool) (s : Sys) : Grants :=
  let r0 : Int := (lim * 9).tdiv 10 - m.fwd - 340 - ((extra * 5 / 4 : Nat) : Int)
  let r1 := (if warm then (r0 * 3).tdiv 5 else r0) - 3
  let want := (List.range 4).map fun d =>
    min (s.vatDemand m d) (pointTop (nth s.hearth.opPoint d 0)) * s.coreDerate d / 256
  let full := sum want * 470 / 1024
  let first := s.hearth.cur.vfirst = 1
  let v1 := min full r1.toNat
  let r2 := if first then r1 - v1 else r1
  let hbm := r2.toNat * s.hbmDerate / 256
  let n := min (hbm * 1000000 / 12451) (s.tokenCap - 256)
  let v := if first then v1 else min full (r2 - hbm).toNat
  { levels := vatLevels v want, tokens := hbmSplit s.hearth.cur n (s.hbmDemand m) }

/-- PWR_FAIL_EARLY is asserted, or MATE_N is high, which acts as its assertion (17 R497, 22 R636). -/
def Sys.powerWarned (s : Sys) : Bool := s.boot.pfe || s.boot.mateHigh

/-- No grant: PWR_FAIL_EARLY, or nothing that grants (17 R497). -/
def noGrants : Grants := { levels := [0, 0, 0, 0], tokens := [0, 0, 0, 0, 0, 0] }

/-- Graph units of a core die (17 R506). -/
def Sys.unitsFor (level demand : Nat) (s : Sys) : Nat :=
  if level = demand then s.hearth.cur.units else s.hearth.cur.units * level / 256

/-- HBM bytes of a token (17 R505). -/
abbrev tokenBytes : Nat := 65536

/-- The escape floor of 64 tokens on each core die, which every control cycle grants, whatever else it grants (17 Table 17-5). -/
def Sys.grantFloor (s : Sys) : Sys :=
  s.modHearth fun h => { h with tokFloor := List.replicate 4 (64 * tokenBytes) }

/-- The grants come into force, and what waited for tokens goes on. -/
def Sys.grant (g : Grants) (none' : Bool) (m : CycleInput) (s : Sys) : Sys :=
  let tok (i : Nat) : Nat := nth g.tokens i 0 * tokenBytes
  let t := s.modHearth fun h =>
    { h with
      vatLevel := g.levels, hbmTok := 256 + sum g.tokens, tokRead := tok 0, tokEsc := tok 1, tokFlow := tok 2, tokSpill := tok 3
      tokBc := tok 4, tokPar := tok 5
      noGrant := [], lastGrant := s.clk.mono }
  let u := t.modGraphs fun x =>
    { x with
      units := (List.range 4).map fun c =>
        (c, if none' then 0 else s.unitsFor (nth g.levels c 0) (s.vatDemand m c)) }
  let v := (List.range 4).foldl
    (fun a c => if nth g.levels c 0 < s.vatDemand m c then a.event (16 + c) 0x26 0 1 else a) u
  (v.shareBc (tok 4 / 4)).loadsRun.stageAll.spillAll

/-! ## The control cycle (17 R504, 01 R28) -/

/-- The profile's parameters in force are taken again; its shaper parameters go to every port (17 R516, 11 R365). -/
def Sys.applyProfile (s : Sys) : Sys :=
  let p := nth s.nv.profiles s.hearth.inForce {}
  let all : Sparse Sched := if p.sched = {} then [] else (List.range 1024).map fun i => (i, p.sched)
  ((s.modHearth fun h => { h with cur := p, change := false }).modNv fun n => { n with sched := all }).jrnl

/-- What the Collier measured in the last cycle (17 R500, 18 R527). -/
def Sys.takeReadings (m : CycleInput) (s : Sys) : Sys :=
  let table {α : Type} (l : List α) : Sparse α := (List.range (min 20 l.length)).zip l
  (s.modHearth fun h =>
    { h with
      pin := m.pin, vin := m.vin, iin := m.iin, fwd := m.fwd, tj := table m.tj
      prail := table (m.rails.map fun r => r.1), vrail := table (m.rails.map fun r => r.2) }).modMem fun x =>
    { x with
      stack := (List.range 20).foldl
        (fun t k => match m.thbm[k]? with | some v => modify t k {} fun y => { y with temp := v } | none => t) x.stack }

/-- Intervals that run when a write of the drain bound takes effect end after the greater of the old and the new bound (03 R81):
RETIRING versions, CLOSING flows, contexts and objects, resend deadlines, flow IDs at rest, ended graphs, draining ports. -/
def Sys.stretch (us : Nat) (s : Sys) : Sys :=
  if us ≤ s.fwd.drainUs then s
  else
    let d := us * 1000
    let go (i : Option Interval) : Option Interval := i.map (Interval.stretch d)
    let flow (f : Flow) : Flow :=
      { f with
        closing := go f.closing, sent := f.sent.map fun e => (e.1, e.2.1, e.2.2.stretch (2 * d))
        resent := f.resent.map fun e => (e.1, e.2.stretch d) }
    let t := s.modFwd fun f => { f with retire0 := go f.retire0, retire1 := go f.retire1 }
    let u := t.modFlows fun f =>
      { f with
        ctx := f.ctx.map fun e => (e.1, flow e.2)
        resting := f.resting.map fun e => (e.1, e.2.1, e.2.2.stretch (s.nv.flowIdle * 1000 + d)) }
    let v := u.modColl fun k => { k with ctx := k.ctx.map fun e => (e.1, { e.2 with closing := go e.2.closing }) }
    let w := v.modBc fun b => { b with objs := b.objs.map fun o => { o with closing := go o.closing } }
    let x := w.modGraphs fun g => { g with graph := g.graph.map fun e => (e.1, { e.2 with ended := go e.2.ended }) }
    x.modPorts fun p =>
      { p with port := p.port.map fun e => (e.1, if e.2.st = .draining then { e.2 with drainUs := max e.2.drainUs us } else e.2) }

/-- Log limits of a new control cycle, and the settings that wait for one (18 R550, 20 R600; 03 R81, 05 R168, 14 R450); a cycle in
which the spill lacked tokens is counted (05 R173). -/
def Sys.newCycle (s : Sys) : Sys :=
  ((((((s.stretch s.nv.drainBound).modCnt fun c => { c with cycleLogs := 0, reqLogged := [] }).modFwd fun f =>
      { f with logged := [], drainUs := s.nv.drainBound }).modSw fun w =>
        { w with
          spillCfg := s.nv.spill, spillShort := false
          spillDry := if w.spillShort then s.bump w.spillDry else w.spillDry }).modMem fun m =>
        { m with cfg := s.nv.mem }).modClk fun c =>
          { c with
            cycle := c.cycle + 1, firstCycle := s.runOf 17 c.firstCycle c.lastCycle
            ranCycle := s.ranOf 17 c.firstCycle c.lastCycle c.ranCycle, lastCycle := s.floorTo 17 })

/-- Stacks that returned more than 64 uncorrectable units in the cycle are lost (14 R447). -/
def Sys.stackCheck (s : Sys) : Sys :=
  let bad := s.liveStacks.filter fun k => 64 < (s.stack k).cycleUe
  let t := s.modMem fun m => { m with stack := m.stack.map fun e => (e.1, { e.2 with cycleUe := 0 }) }
  bad.foldl (fun u k => u.loseStack k 3 true) t

/-- FLAGS of object 0x6001 (17 Table 17-11); `starved`: a unit had no grant under 01 R30. -/
def Sys.hearthFlags (starved : Bool) (s : Sys) : Word :=
  let h := s.hearth
  BitVec.ofNat 32
    (h.limitBy + 4 * b2n (s.boot.warm && s.clk.mono < s.boot.readyAt + 30000000000) + 8 * b2n h.stale + 16 * b2n h.freeCycle +
      32 * b2n starved + 64 * b2n s.powerWarned)

/-- Object 0x6001 as this control cycle leaves it (17 R520). -/
def Sys.keepStatus (starved : Bool) (s : Sys) : Sys :=
  let h := s.hearth
  let w (n : Nat) : Word := BitVec.ofNat 32 n
  let levels := sum ((List.range 4).map fun i => min 255 (nth h.vatLevel i 0) * 2 ^ (8 * i))
  s.modHearth fun x =>
    { x with
      status :=
        [BitVec.ofInt 32 h.limit, s.hearthFlags starved, w h.pin, w h.vin, w h.iin, w levels, w h.hbmTok, w h.facBudget,
          BitVec.ofInt 32 h.ptherm] }

/-- Tokens that remain at the end of a cycle lapse (17 R505). -/
def Sys.lapse (s : Sys) : Sys :=
  s.modHearth fun h =>
    { h with tokRead := 0, tokEsc := 0, tokFlow := 0, tokSpill := 0, tokBc := 0, tokPar := 0, tokTag := [], hbmTok := 256 }

/-- The grants of the next cycle (17 R504). Without a Collier there are none, and unspent tokens and graph units lapse (17 R505, 08
R280). -/
def Sys.hearthCycle (m : CycleInput) (s : Sys) : Sys :=
  let starved := !s.hearth.noGrant.isEmpty
  let (lim, by') := s.limitOf
  let extra := if !s.hearth.limited then 0 else ((m.pin : Int) - s.hearth.limit).toNat * 9 / 10
  let warm := s.boot.warm && s.clk.mono < s.boot.readyAt + 30000000000
  let t := s.modHearth fun h =>
    { h with limit := lim, limited := true, limitBy := by', ptherm := s.pTherm, freeCycle := !s.clk.valid, excess := extra }
  let t := t.grantFloor
  if s.boot.bothLost then (t.lapse.modGraphs fun g => { g with units := [] }).keepStatus starved
  else if s.powerWarned then (t.grant noGrants true m).keepStatus starved
  else (t.grant (t.hearthGrants lim m extra warm) false m).keepStatus starved

/-- An event that only the dies see is counted on its unit (20 R586). -/
def Sys.fineEvent (e : FineEvent) (n : Nat) (s : Sys) : Sys :=
  match e with
  | .slot p => s.event (p.toNat / 64) 0x06 p.toNat n
  | .creditClock p => s.event (p.toNat / 64) 0x07 p.toNat n
  | .corrected p => s.event (p.toNat / 64) 0x0B p.toNat n
  | .vatClock c => s.event (16 + c.toNat) 0x23 0 n
  | .sramCorrected u => s.count 0 u.toNat 0 n
  | .hbmCorrected a => (List.range n).foldl (fun t _ => t.correctable a.toNat) s

/-- What the Collier and the dies measured in the last cycle is taken. -/
def Sys.takeCycle (m : CycleInput) (s : Sys) : Sys := m.fine.foldl (fun a e => a.fineEvent e.1 e.2) (s.takeReadings m)

/-- A control cycle at its boundary. Grants are computed in READY only. -/
def Sys.controlCycle (m : CycleInput) (s : Sys) : Sys :=
  if s.boot.mode = .off ∨ s.boot.mode = .held then s
  else
    let t := ((s.toExt (s.dueOnce 17 s.clk.firstCycle s.clk.lastCycle s.clk.ranCycle)).newCycle).timeCycle
    let u := t.takeCycle m
    if u.boot.mode ≠ .ready then u
    else
      let v := (List.range 4).foldl (fun a c => a.movePoint c) (u.stackCheck)
      let w := (List.range 20).foldl (fun a i => (a.warn (.die i)).warn (.stack i)) v
      let x := (if w.hearth.change then w.applyProfile else w).hearthCycle m
      (x.takeCodewords m.codewords).fenceCtxs.pruneFenced.settle

/-- CONTROL_CYCLE (R504). -/
def execControlCycle (m : CycleInput) (s : State) : Host.Outcome State Fault Refusal := .next (s.onSys (Sys.controlCycle m))

/-- A die has received no new grant for 8 control cycles: it grants zero (01 R30). -/
def Sys.grantTimeout (u : Nat) (s : Sys) : Sys :=
  if s.boot.mode ≠ .ready then s
  else
    let t := (s.toMono (s.hearth.lastGrant + 1048576)).modHearth fun h => { h with noGrant := insertNat u h.noGrant }
    if u < 16 then t
    else
      (t.modHearth fun h =>
        { h with vatLevel := setNth h.vatLevel (u - 16) 0, tokTag := h.tokTag.filter fun e => e.1 / 65536 != u - 16 }).modGraphs
          fun g => { g with units := put g.units (u - 16) 0 }

/-- GRANT_TIMEOUT (R30). -/
def execGrantTimeout (unit : Nat) (s : State) : Host.Outcome State Fault Refusal :=
  if unit < 20 then .next (s.onSys (Sys.grantTimeout unit)) else .fault .noUnit

/-- 30 s after Kindling completed, the warm-up ends (17 R507). -/
def Sys.warmupEnd (s : Sys) : Sys :=
  if s.boot.warm then (s.toMono (s.boot.readyAt + 30000000000)).modBoot fun b => { b with warm := false } else s

/-- WARMUP_END (R507). -/
def execWarmupEnd (s : State) : Host.Outcome State Fault Refusal := .next (s.onSys Sys.warmupEnd)

/-! ## Power events (17 R495) -/

/-- A dip that has ended in time is counted and logged (the record's code is a free value, log 22). -/
def Sys.countDip (s : Sys) : Sys :=
  if s.boot.dip then
    ((s.modBoot fun b => { b with dip := false }).modHearth fun h => { h with dips := s.bump h.dips }).log Config.dipCode 0x03 20 0 0 0 []
  else s

/-! ## The facility segment (17 R501, R502; 18 R537, R541, R542, R648) -/

/-- The module's coordinates as COORD [31:12] gives them, 0 while VALID is clear. -/
def Sys.coord (s : Sys) : Nat :=
  if s.nv.coordValid then s.nv.plane.toNat * 2 ^ 16 + s.nv.group.toNat * 2 ^ 8 + s.nv.index.toNat else 0

/-- A BUDGET message that is accepted sets the facility budget. -/
def Sys.takeBudget (watts seq : Word) (s : Sys) : Sys :=
  let t := (s.modHearth fun h =>
    { h with facBudget := watts.toNat, facSeen := true, stale := false, facLast := s.clk.mono }).modMg fun m =>
      { m with budgetSeq := some seq }
  if watts.toNat < 2600 then t.faultUnit faultPwrBudget 20 [] else t

/-- The Collier hears the facility segment: from the end of the ROM phase on, in Kindling and READY (21 R606, Table 21-6). -/
def Sys.facilityOn (s : Sys) : Bool :=
  !s.boot.bothLost && (s.boot.mode == .ready || (s.boot.mode == .kindling && 2 ≤ s.boot.phase.toNat))

/-- A BUDGET message of the power shelf. -/
def Sys.budgetMsg (b : List Byte) (s : Sys) : Sys :=
  let tag : BitVec 16 := BitVec.ofNat 16 (beAt b 2 2)
  if b.length < 28 ∨ beAt b 0 1 ≠ 0x10 ∨ beAt b 12 4 ≠ 12 ∨ beAt b 8 4 ≠ 0 then
    ((s.reqError .facility mgtFormat 0 0 (beAt b 0 1)).respond .facility false tag (BitVec.ofNat 64 (beAt b 4 4)) 0 mgtFormat []).event
      20 0x43 0 1
  else
    let d := b.drop 16
    let seq := wordAt d 8
    let mine := beAt d 0 4 % 2 == 1 || beAt d 0 4 / 4096 == s.coord
    let fresh := match s.mg.budgetSeq with | some q => serialAfter seq q | none => true
    if mine && fresh then s.takeBudget (wordAt d 4) seq else s.count 0x9070 4 0 1

/-- A frame of the power shelf on the facility segment: an Ethernet II frame of EtherType 0x88B5, padded to the minimum length,
whose source is the one that answers go to (18 R541, R542). -/
def Sys.budgetFrame (f : List Byte) (s : Sys) : Sys :=
  if !s.facilityOn || f.length < 60 || beAt f 12 2 != 0x88B5 then s
  else (s.modMg fun m => { m with facPeer := BitVec.ofNat 48 (beAt f 6 6) }).budgetMsg (f.drop 14)

/-- BUDGET (R542). -/
def execBudget (frame : List Byte) (s : State) : Host.Outcome State Fault Refusal := .next (s.onSys (Sys.budgetFrame frame))

/-- No budget message has come for 10 s: reported once (17 R501). -/
def Sys.budgetStale (s : Sys) : Sys :=
  if s.hearth.stale ∨ s.boot.mode ≠ .ready then s
  else ((s.toMono (s.hearth.facLast + 10000000000)).modHearth fun h => { h with stale := true }).faultUnit faultPwrBudget 20 []

/-- BUDGET_STALE (R501). -/
def execBudgetStale (s : State) : Host.Outcome State Fault Refusal := .next (s.onSys Sys.budgetStale)

/-- The nine words of FACSTATUS, as objects 0x6001 and 0x6002 report them (18 Table 18-8). -/
def Sys.facWords (s : Sys) : List Word :=
  let h := s.hearth
  let r (k : Nat) : Word := nth h.status k 0
  [BitVec.ofNat 32 (s.coord * 4096), r 2, r 3, r 4, BitVec.ofInt 32 h.tinlet, BitVec.ofInt 32 h.toutlet, BitVec.ofNat 32 h.flow,
    r 0, r 1]

/-- FACSTATUS is broadcast once per second: a dictionary message of type 0x11 with 36 bytes of data (18 R537, R541). -/
def Sys.facStatus (s : Sys) : Sys :=
  if s.boot.mode = .ready ∧ !s.boot.bothLost then
    s.emit (.message .facility (facFrame 0xFFFFFFFFFFFF (dictMsg 0x11 0 0 0 0 (s.facWords.flatMap fun w => toBe 4 w.toNat))))
  else s

/-- FACSTATUS (R542). -/
def execFacstatus (s : State) : Host.Outcome State Fault Refusal := .next (s.onSys Sys.facStatus)

/-- A write of object 0x6000 (17 R502, R519). -/
def Sys.writeHearth (sub : Nat) (v : Word) (s : Sys) : Except Word Sys :=
  match sub with
  | 0 =>
    if v.toNat < 2600 then .error pwrBudget
    else if 65535 < v.toNat then .error pwrRange
    else s.rws fun n => { n with budget := v.toNat }
  | 1 =>
    if 3 < v.toNat then .error pwrRange
    else if v = 3 then .error mgtReserved
    else s.rws fun n => { n with budgetSrc := v.toNat }
  | _ => .error mgtNosub

/-! ## Profiles (17 R514-R516, R522) -/

/-- The profile that SELECT names. -/
def Sys.selected (s : Sys) : Nat := if s.nv.select = 255 then s.boot.pins.toNat else s.nv.select

/-- A write of SELECT: another stored profile waits for the next full reset, since the four differ in their allocations. -/
def Sys.writeSelect (v : Word) (s : Sys) : Except Word Sys :=
  if 3 < v.toNat ∧ v ≠ 255 then .error profRange
  else
    (s.rws fun n => { n with select := v.toNat }).map fun t =>
      t.modHearth fun h => { h with pendingProfile := if t.selected = h.inForce then 255 else t.selected }

/-- A parameter of the profile that a path has selected; one of the profile in force takes effect at the next cycle. -/
def Sys.setProfile (path : Path) (index : Nat) (f : Profile → Profile) (s : Sys) : Except Word Sys :=
  let p := (s.selOf path index 0).toNat % 4
  (s.rws fun n => { n with profiles := modNth n.profiles p f }).map fun t =>
    if p = t.hearth.inForce then t.modHearth fun h => { h with change := true } else t

/-- A write of object 0xA000, 0xA001 or 0xA002. -/
def Sys.writeProfile (path : Path) (index sub : Nat) (v : Word) (s : Sys) : Except Word Sys :=
  let n := v.toNat
  let set (ok : Bool) (f : Profile → Profile) : Except Word Sys := if ok then s.setProfile path index f else .error profRange
  if index = 0xA000 then
    if sub = 0 then s.writeSelect v else if sub ≤ 3 then .error mgtReadonly else .error mgtNosub
  else if sub = 0 then (if 3 < n then .error profRange else .ok (s.setSel path index 0 v))
  else if index = 0xA001 then
    match sub with
    | 1 => set (n ≤ 1) fun p => { p with vfirst := n }
    | 2 => set (1 ≤ n && n ≤ 15) fun p => { p with wspill := n }
    | 3 => set (1 ≤ n && n ≤ 15) fun p => { p with wbc := n }
    | 4 => set (1 ≤ n && n ≤ 15) fun p => { p with wpar := n }
    | 5 => set (n ≤ 64) fun p => { p with units := n }
    | _ => .error mgtNosub
  else if 1 ≤ sub ∧ sub ≤ 6 then
    set (4160 ≤ n && n ≤ 1048576) fun p => { p with sched := { p.sched with quantum := setNth p.sched.quantum (sub - 1) n } }
  else if 0x10 ≤ sub ∧ sub ≤ 0x16 then
    set (n ≤ 1024 && (sub != 0x16 || 1 ≤ n)) fun p =>
      { p with sched := { p.sched with rate := setNth p.sched.rate (sub - 0x10) n } }
  else if 0x20 ≤ sub ∧ sub ≤ 0x26 then
    set (4160 ≤ n && n ≤ 4194304) fun p => { p with sched := { p.sched with burst := setNth p.sched.burst (sub - 0x20) n } }
  else .error mgtNosub

/-- PROFILE_SELECT_WRITE (R516): a write of an object of the profiles. -/
def execProfileSelectWrite (path : Path) (index : BitVec 16) (sub : BitVec 8) (value : Word) (s : State) :
    Host.Outcome State Fault Refusal :=
  .next (s.onSys (request path index.toNat 0 sub.toNat fun t =>
    if 0xA000 ≤ index.toNat ∧ index.toNat ≤ 0xA002 then t.writeProfile path index.toNat sub.toNat value else .error mgtNoobj))

end Sys2Proof.Machine
end

