-- ==== Sys2Proof/Machine/Mgmt.lean ====
section
/-! DEFINITION. The Collier's failover and the journal's commands (18 R523-R526, R554-R559). -/

namespace Sys2Proof.Machine

/-! ## Sessions and selectors (18 R529; 19 R576) -/

/-- The session of a path ends: its selectors return to their reset values. -/
def Sys.endSession (path : Path) (s : Sys) : Sys :=
  s.modMg fun m =>
    { m with sessions := del m.sessions (pathNum path), sel := m.sel.filter fun e => e.1 / 2 ^ 24 != pathNum path }

/-! ## Failover (18 R524-R526) -/

/-- A Collier pair runs: the Collier firmware has started, and both pairs are not lost. -/
def Sys.collierOn (s : Sys) : Bool :=
  !s.boot.bothLost &&
    match s.boot.mode with
    | .ready | .shutdown | .thermal => true
    | .kindling => s.boot.phase != 1
    | _ => false

/-- The active pair is lost and no standby is there: no path is answered and nothing is granted (R526). -/
def Sys.losePairs (s : Sys) : Sys :=
  let t := s.modBoot fun b => { b with bothLost := true, standby := 2, pair0Failed := true, pair2Failed := true }
  (t.faultUnit faultCollierFailover 20 []).modHearth fun h => { h with vatLevel := [0, 0, 0, 0] }

/-- A packet waits for a service of the Collier. -/
def Delivery.ofCollier (d : Delivery) : Bool := d.svc == 0 || d.svc == 5 || d.svc == 6

/-- An in-band request that has not been answered (18 R540). -/
def Delivery.isRequest (d : Delivery) : Bool := d.svc == 0 && d.pkt.kind == 9

/-- What belongs to the services of the Collier moves to the core die of the new active pair: the packets that wait for them, and
the flow contexts of in-band dictionary traffic, which its cache does not hold yet (05 R177). In-band requests that have not been
answered are dropped: they receive no response (18 R525). -/
def Sys.moveServices (s0 : Sys) : Sys :=
  let asked := (s0.sw.svc ++ s0.flows.missq.flatMap fun e => e.2).filter Delivery.isRequest
  let dropped (t : Sys) (d : Delivery) : Sys := (t.keepTransit fun x => x.use != .service d.id).consume d
  let s := asked.foldl dropped
    ((s0.modSw fun w => { w with svc := w.svc.filter fun d => !d.isRequest }).modFlows fun f =>
      { f with missq := f.missq.map fun e => (e.1, e.2.filter fun d => !d.isRequest) })
  let core := s.collierCore
  let waiting := s.flows.missq.flatMap fun e => (e.2.filter Delivery.ofCollier).map fun d => { d with core }
  let mine := (s.flows.ctx.filter fun e => e.2.svc == 0).map fun e => e.1
  (s.modSw fun w => { w with svc := w.svc.map fun d => if d.ofCollier then { d with core } else d }).modFlows fun f =>
    { f with
      ctx := f.ctx.map fun e => (e.1, if e.2.svc = 0 then { e.2 with obj := BitVec.ofNat 32 core } else e.2)
      cached := f.cached.map fun e => (e.1, e.2.filter fun i => !mine.contains i)
      missq := modify (f.missq.map fun e => (e.1, e.2.filter fun d => !d.ofCollier)) core [] (· ++ waiting) }

/-- The standby takes over (R525). Causes in the order of R524: 0 lockstep, 1 heartbeat, 2 loss of the die, 3 a write. A pair that
has failed stays out of service; after a write the other pair synchronises again. -/
def Sys.failover (cause : Nat) (s : Sys) : Sys :=
  if !s.collierOn then s
  else if s.boot.standby = 2 then (if cause = 3 then s else s.losePairs)
  else
    let real := cause != 3
    let t := s.modBoot fun b =>
      { b with
        cd2Active := !b.cd2Active, standby := if real then 2 else 1
        pair0Failed := b.pair0Failed || (real && !b.cd2Active), pair2Failed := b.pair2Failed || (real && b.cd2Active) }
    let u := (t.modNv fun n => { n with failovers := n.failovers + 1, fcause := BitVec.ofNat 2 cause }).jrnl
    let v := ((u.endSession .eth).endSession .inband).moveServices
    (if real then v.faultUnit faultCollierFailover 20 [] else v).planOverdue

/-- COLLIER_FAILOVER (R525). -/
def execCollierFailover (cause : BitVec 2) (s : State) : Host.Outcome State Fault Refusal :=
  .next (s.onSys (Sys.failover cause.toNat))

/-- A write of FAILOVER in object 0x1030 is accepted while the standby is ready. -/
def Sys.failoverAllowed (v : Word) (s : Sys) : Except Word Sys :=
  if v ≠ 1 then .error mgtRange else if s.boot.standby ≠ 0 then .error mgtState else .ok s

/-- FAILOVER (R524). -/
def execFailover (path : Path) (value : Word) (s : State) : Host.Outcome State Fault Refusal :=
  .next (s.onSys (requestThen path 0x1030 0 3 (Sys.failoverAllowed value) (Sys.failover 3)))

/-- HEARTBEAT_TIMEOUT (R524). -/
def execHeartbeatTimeout (s : State) : Host.Outcome State Fault Refusal := .next (s.onSys (Sys.failover 1))

/-- The standby pair is lost (R526). -/
def Sys.loseStandby (s : Sys) : Sys :=
  if !s.collierOn || s.boot.standby == 2 then s
  else
    (s.modBoot fun b =>
      { b with
        standby := 2, pair0Failed := b.pair0Failed || b.cd2Active, pair2Failed := b.pair2Failed || !b.cd2Active }).faultUnit
      faultCollierStandby 20 []

/-- STANDBY_LOSS (R526). -/
def execStandbyLoss (s : State) : Host.Outcome State Fault Refusal := .next (s.onSys Sys.loseStandby)

/-- The standby has synchronised (21 R609). -/
def Sys.standbyReady (s : Sys) : Sys :=
  if s.collierOn && s.boot.standby == 1 then s.modBoot fun b => { b with standby := 0 } else s

/-- STANDBY_READY (R609). -/
def execStandbyReady (s : State) : Host.Outcome State Fault Refusal := .next (s.onSys Sys.standbyReady)

/-! ## Journal (18 R555-R559) -/

/-- JOURNAL_FLUSH (R555). -/
def execJournalFlush (ok : Bool) (s : State) : Host.Outcome State Fault Refusal :=
  .next (s.onSys fun t => if t.collierOn then t.flush ok else t)

/-- Log records beyond the newest 65,536. -/
def Persist.logExcess (n : Persist) : Nat := if n.log.length ≤ 65536 then 0 else n.log.length - 65536

/-- A half 75% full is compacted: the other half takes a snapshot, which holds what the buffered records hold and the newest 65,536
log records, and becomes valid under the next epoch; the old half is erased (18 R557). A compaction that PWR_FAIL_EARLY meets is
abandoned. The bytes of the snapshot are a free value (log 5). -/
def Sys.compact (ok : Bool) (s : Sys) : Sys :=
  if s.jr.used < 25165824 ∨ s.jr.failed ∨ s.powerWarned ∨ !s.collierOn then s
  else if !ok then s.journalFail
  else
    let extra := s.nv.logExcess
    let t := s.modNv fun n =>
      { n with log := n.log.drop extra, dropped := n.dropped + BitVec.ofNat 32 extra, epoch := n.epoch + 1 }
    let (n, u) := t.draw
    let bytes := (Config.freeWord n).toNat % (journalHalf + 1)
    u.modJr fun j =>
      let h : Half := { valid := true, epoch := u.nv.epoch, recs := [{ seq := j.seq, bytes, content := u.nv }] }
      { (j.setHalf j.onB {}).setHalf (!j.onB) h with
        onB := !j.onB, seq := j.seq + 1, buf := [], buffered := 0, used := bytes, lastFlush := s.now }

/-- JOURNAL_COMPACT (R557). -/
def execJournalCompact (ok : Bool) (s : State) : Host.Outcome State Fault Refusal := .next (s.onSys (Sys.compact ok))

/-- Every port is DISABLED or in MAINTENANCE. -/
def Sys.portsQuiet (s : Sys) : Bool := s.ports.port.all fun e => e.2.st == .disabled || e.2.st == .maintenance

/-- A write of object 0x1041: FLUSH at sub-index 0, CLEAR at 1 (their numbers: log 31). -/
def Sys.writeJournal (sub : Nat) (v : Word) (s : Sys) : Except Word Sys :=
  match sub with
  | 0 =>
    if v ≠ 1 then .error mgtRange
    else
      let t := s.flush true
      if t.jr.failed then .error mgtJournal else .ok t
  | 1 =>
    if v ≠ 1 then .error mgtRange
    else if !s.portsQuiet then .error mgtState
    else .ok ((s.modNv fun n => { n with clearArmed := true }).jrnl)
  | _ => .error mgtNosub

/-- JOURNAL_CLEAR (R559). -/
def execJournalClear (path : Path) (value : Word) (s : State) : Host.Outcome State Fault Refusal :=
  .next (s.onSys (request path 0x1041 0 1 (Sys.writeJournal 1 value)))

end Sys2Proof.Machine
end

