-- ==== Sys2Proof/Machine/Loss.lean ====
section
/-! DEFINITION. The loss of a die, and the Felt commands that can isolate one (01 R34, 15 R460, R464-R470). -/

namespace Sys2Proof.Machine

/-! ## What a port die held (21 R612) -/

/-- The packet lies in the buffer of port die `d`. -/
def PktRec.onDie (d : Nat) (r : PktRec) : Bool :=
  match r.pool with
  | .ingress p _ => p.toNat / 64 == d
  | .originated e => e == d
  | .spillReturn e => e == d
  | .spill => false

/-- Copies of a packet for some ports are dropped and counted. -/
def Sys.dropCopies (id : Nat) (ports : List Nat) (s : Sys) : Sys :=
  match s.pktRec id with
  | none => s
  | some r =>
    ports.foldl
      (fun v _ => (v.dropCount (match r.ingress with | some p => p.toNat | none => 0) r.die fwdPortlost false r.pkt).release id) s

/-- Multicast copies that wait for room on the die are dropped and counted; unicast packets behind them are repicked or dropped. -/
def Sys.dropWaiting (d : Nat) (s : Sys) : Sys :=
  let mine := s.sw.replWait.filter fun x => x.die == d
  let t := s.modSw fun w => { w with replWait := w.replWait.filter fun x => x.die != d }
  mine.foldl
    (fun u x =>
      match x.unicast, u.pktRec x.id with
      | some spray, some r =>
        u.repickOne (x.ports.headD 0) { id := x.id, len := r.pkt.len, tc := r.pkt.tc, vc := r.pkt.vc, spray }
      | _, _ => u.dropCopies x.id x.ports)
    t

/-- A transfer starts again from its source. -/
def Sys.crossAgain (x : Crossing) (s : Sys) : Sys :=
  let r := s.cross { x with legs := [] }
  if r.1 then r.2.arrive x.use else r.2

/-- A transfer from or to a die that has stopped: a multicast packet goes by another hub, copies for the die and originated
packets that cross to it are dropped and counted, and a memory transfer waits while the die is only in partial reset (21 R613).
-/
def Sys.dropCrossing (x : Crossing) (s : Sys) : Sys :=
  match x.use with
  | .copy _ id ports => s.dropCopies id ports
  | .spread id ports own => s.coreStage id ports own
  | .origin core p _ => s.dropCount 0 (4 * core) fwdPortlost false p
  | .memory _ =>
    if s.boot.lostDies.contains x.src || s.boot.lostDies.contains x.dst then s
    else s.modFelt fun f => { f with held := f.held ++ [{ x with legs := [] }] }
  | _ => s

/-- Transfers from or to a die that has stopped, by unit number, end; those that only passed through its ring slots start again. -/
def Sys.dropTransit (u : Nat) (s : Sys) : Sys :=
  let dead (x : Crossing) : Bool := x.src == u || x.dst == u
  let gone := s.inTransit.filter dead
  let rings := s.sw.ring.filter fun e => e.1 / 2 == u && u < 16
  let again := (rings.flatMap fun e => e.2.pkts ++ e.2.mems ++ e.2.waitPkt ++ e.2.waitMem).filter fun x => !dead x
  let t := (s.keepTransit fun x => !dead x).modSw fun w => { w with ring := w.ring.filter fun e => !(e.1 / 2 == u && u < 16) }
  again.foldl (fun a x => a.crossAgain x) (gone.foldl (fun a x => a.dropCrossing x) t)

/-- A DIE_BIST that runs on a die that stops fails (13 R426). -/
def Sys.endBist (d : Nat) (s : Sys) : Sys :=
  match get? s.ports.bist d with
  | some path => (s.modPorts fun q => { q with bist := del q.bist d }).failed .port path portState
  | none => s

/-- A port die stops: its tests end, what its own buffer holds is lost and counted, its ports go to TRAINING with HW 0, what other
dies hold for them is repicked or dropped, and its rings and schedulers are empty. -/
def Sys.dropDie (d : Nat) (s : Sys) : Sys :=
  let own := (s.sw.pkt.filter fun e => e.2.onDie d).map fun e => e.1
  let s := (s.diePorts d).foldl (fun a p => a.endTest p) (s.endBist d)
  let t := own.foldl (fun u id => u.losePacket id) s
  let u := (t.diePorts d).foldl
    (fun v p =>
      if (v.port p).st = .disabled then v
      else ((v.startTraining p).modPort p fun q => { q with drain := none }).hwLost p true) t
  (((u.dropWaiting d).dropTransit d).modSw fun w =>
    { w with
      eg := w.eg.filter fun e => e.1 / 64 != d
      orig := del w.orig d, transit := del w.transit d, spillRet := del w.spillRet d }).modFwd fun f =>
    { f with bucket := del f.bucket d, cache := del f.cache d, ctr := f.ctr.filter fun e => e.1 / 4 != d }

/-- The links of a die go down at once, without a report of their own (15 R466). -/
def Sys.dropLinks (u : Nat) (s : Sys) : Sys := s.takeDown (dieLinks u) false

/-- Every hold behind a fence from or to a die ends. -/
def Sys.dropFences (u : Nat) (s : Sys) : Sys :=
  (s.felt.fences.filter fun p => p.1 == u || p.2.1 == u).foldl (fun t p => t.endFence p.1 p.2.1) s

/-! ## The loss of a die (01 R34) -/

/-- The contexts homed on a core die are aborted, every graph and every object fails, and the deliveries that wait on it are
lost (01 R34, 08 R293, 09 R326). -/
def Sys.dropCore (core : Nat) (s : Sys) : Sys :=
  let s :=
    s.coll.ctx.foldl
      (fun t e => if e.1 % 4 = core then t.abortCtx e.1 collHwfault Config.noSlot.toNat 0 Config.noTile.toNat else t) s
  let svc := s.sw.svc.filter fun d => d.core == core && !(d.svc == 0 || d.svc == 5 || d.svc == 6)
  let ids := svc.map (fun d => d.id) ++ (getD s.flows.missq core []).map (fun d => d.id) ++
    (getD s.coll.waiting core []).map fun d => d.id
  ((ids.foldl (fun t id => t.losePacket id) s.failGraphs.failObjs).dropTransit (16 + core)).modColl fun k => { k with notices := del k.notices core }

/-- CD0 takes the PCIe interface and the time unit with it, and its Collier pair; CD2 its pair. -/
def Sys.loseCollierDie (u : Nat) (s : Sys) : Sys :=
  if u = 16 then
    let t := s.modBoot fun b => { b with pcieLost := true }
    (if t.boot.cd2Active then t.loseStandby else t.failover 2).sourceChange
  else if u = 18 then (if s.boot.cd2Active then s.failover 2 else s.loseStandby)
  else s

/-- A die is lost (Table 01-7), with its stack; it stays lost until a full reset. -/
def Sys.loseDie (u : Nat) (s : Sys) : Sys :=
  if s.boot.lostDies.contains u ∨ s.boot.mode = .off ∨ s.boot.mode = .held then s
  else
    let t := (s.modBoot fun b =>
      { b with lostDies := insertNat u b.lostDies, dieResets := del b.dieResets u }).dropLinks u
    let v := if u < 16 then t.dropDie u else t.dropCore (u - 16)
    ((v.loseStack u 0 false).dropFences u).faultUnit faultDieLost u [] |>.loseCollierDie u

/-- Dies that no route reaches any more are lost, one after another (15 R460). -/
def Sys.loseIsolated : Nat → Sys → Sys
  | 0, s => s
  | n + 1, s =>
    match s.isolated with
    | [] => s
    | u :: _ => (s.loseDie u).loseIsolated n

/-- DIE_LOSS (R34). -/
def execDieLoss (unit : Nat) (s : State) : Host.Outcome State Fault Refusal :=
  if unit < 20 then .next (s.onSys fun t => ((t.loseDie unit).loseIsolated 20).settle) else .fault .noUnit

/-! ## Felt commands that can take a link out of service -/

/-- A Felt event in READY, with the dies that it isolates. -/
def Sys.feltEvent (f : Sys → Sys) (s : Sys) : Sys :=
  let t := f s
  if t.boot.mode = .ready then (t.loseIsolated 20).settle else t

/-- FELT_CONFIRM (R464). -/
def execFeltConfirm (link : Nat) (far : Bool) (record : List Byte) (s : State) : Host.Outcome State Fault Refusal :=
  if link < 38 then .next (s.onSys (Sys.feltEvent (Sys.confirm link far record))) else .fault .noUnit

/-- FELT_AGREE_TIMEOUT (R465). -/
def execFeltAgreeTimeout (link : Nat) (s : State) : Host.Outcome State Fault Refusal :=
  if link < 38 then .next (s.onSys (Sys.feltEvent (Sys.agreeTimeout link))) else .fault .noUnit

/-- FELT_LINK_DOWN (R466). -/
def execFeltLinkDown (link : Nat) (s : State) : Host.Outcome State Fault Refusal :=
  if link < 38 then
    .next (s.onSys (Sys.feltEvent fun t => if t.linkUp link then t.linkDown link false else t))
  else .fault .noUnit

/-- FELT_MODULE_PAUSE (R458): a module is paused, and checked. -/
def execFeltModulePause (link : Nat) (lmod : Nat) (clockLost : Bool) (failed : List Nat) (s : State) :
    Host.Outcome State Fault Refusal :=
  if link < 38 then
    .next (s.onSys (Sys.feltEvent fun t => (t.pauseModule link lmod).laneCheck link lmod clockLost failed))
  else .fault .noUnit

/-- FELT_LANE_REPAIR (R466). -/
def execFeltLaneRepair (link : Nat) (lmod : Nat) (lane : Nat) (s : State) : Host.Outcome State Fault Refusal :=
  if link < 38 then
    .next (s.onSys (Sys.feltEvent fun t => if lane < 68 then t.repairLane link lmod lane else t))
  else .fault .noUnit

/-- FELT_MODTEST_END (R469). -/
def execFeltModtestEnd (link : Nat) (failed : List Nat) (s : State) : Host.Outcome State Fault Refusal :=
  if link < 38 then .next (s.onSys (Sys.feltEvent (Sys.modtestEnd link failed))) else .fault .noUnit

end Sys2Proof.Machine
end

