-- ==== Sys2Proof/Machine/Security.lean ====
section
/-! DEFINITION. Images, identity, attestation, sessions and the trust list (19). -/

namespace Sys2Proof.Machine

/-! ## Images (19 R561-R564, R571-R574) -/

/-- The copy of the floor record that a die with the floor key uses: the one with the higher FLOOR among those whose tags verify
(19 R563; of two with one FLOOR, copy A, log 181). -/
def Sec.floorCopy (c : Sec) : Option FloorCopy :=
  match c.floorA.ok, c.floorB.ok with
  | true, true => some (if c.floorA.floor.toNat < c.floorB.floor.toNat then c.floorB else c.floorA)
  | true, false => some c.floorA
  | false, true => some c.floorB
  | false, false => none

/-- What a die, CD0 or CD2, takes as FLOOR and REVOKED: 0 where it cannot unwrap the floor key or no copy verifies (19 R563). -/
def Sec.floorFor (cd2 : Bool) (c : Sec) : FloorCopy :=
  if (if cd2 then c.key2 else c.key0) then c.floorCopy.getD {} else {}

/-- FLOOR in force: the active Collier's die's. -/
def Sys.floorNow (s : Sys) : Word := (s.sec.floorFor s.boot.cd2Active).floor

/-- REVOKED in force. -/
def Sys.revokedNow (s : Sys) : BitVec 4 := (s.sec.floorFor s.boot.cd2Active).revoked

/-- The image in slot A (false) or B. -/
def Sys.image (b : Bool) (s : Sys) : Image := if b then s.sec.imgB else s.sec.imgA

/-- An image slot is written. -/
def Sys.setImage (b : Bool) (x : Image) (s : Sys) : Sys :=
  s.modSec fun c => if b then { c with imgB := x } else { c with imgA := x }

/-- An image that was valid when staged is valid now for a die: its root key is not revoked and its SVN is at least FLOOR
(R562). -/
def Sys.imageValid (cd2 b : Bool) (s : Sys) : Bool :=
  let x := s.image b
  let f := s.sec.floorFor cd2
  x.valid && !(f.revoked.getLsbD x.keyIdx.toNat) && f.floor.toNat ≤ x.svn.toNat

/-- The image that the ROM of a die starts: NEXT, else the other one, where it is valid (19 R564). -/
def Sys.romPick (cd2 : Bool) (s : Sys) : Option Bool :=
  if s.imageValid cd2 s.sec.next then some s.sec.next
  else if s.imageValid cd2 (!s.sec.next) then some (!s.sec.next) else none

/-- Why an image fails R562 under R572, in the order of that rule: image, signature, rollback. -/
def Sys.imageRefusal (b : List Byte) (s : Sys) : Option Word :=
  let plen := beAt b 36 4
  let payload := b.drop 4096
  let key := bytesAt b 72 1312
  let k := bits (beAt b 4 4) 23 20
  if beAt b 0 4 ≠ 0x475A494D ∨ beAt b 4 1 ≠ 1 ∨ bytesAt b 8 16 ≠ fit 16 (ascii "GZS-1024") ∨
      bytesAt b 24 4 ≠ fit 4 (ascii "A1") ∨ plen < 1 ∨ 62914560 < plen ∨ b.length ≠ 4096 + plen ∨
      bytesAt b 40 32 ≠ Config.sha3 payload then some secImage
  else if 3 < k ∨ Config.sha3 key ≠ Config.rootDigest k ∨ s.revokedNow.getLsbD k ∨
      !Config.mldsaVerify key (bytesAt b 0 1384) (bytesAt b 1384 2420) then some secSignature
  else if beAt b 32 4 < s.floorNow.toNat then some secRollback
  else none

/-- What a slot keeps of a valid image. -/
def Image.of (b : List Byte) : Image :=
  { valid := true, fwver := wordAt b 28, svn := wordAt b 32, keyIdx := BitVec.ofNat 4 (bits (beAt b 4 4) 23 20)
    revoke := BitVec.ofNat 4 (bits (beAt b 4 4) 19 16), manifest := Config.sha3 (b.take 4096), pdigest := bytesAt b 40 32
    diesDigest := Config.dieDigest (b.drop 4096) }

/-- FW_STAGE: the slot that is not running is invalid before any byte is written (R572). -/
def fwStage (path : Path) (cmd : Word) (handle : Word) (len : Nat) (st : Stores) (dma : Dma) (s : Sys) : Sys :=
  let t := (s.accept .sec path cmd (usesOf path handle)).setImage (!s.sec.running) {}
  match t.region path handle len with
  | .error e => t.failed .sec path e
  | .ok b =>
    match regionRead st path b len dma with
    | .error _ => t.failedDma .sec path b.dAddr
    | .ok bytes => t.modSec fun c => { c with stage := some { path, handle, bytes } }

/-- The stage in progress ends: the image is validated, and its slot becomes valid or stays invalid. -/
def Sys.stageEnd (s : Sys) : Sys :=
  match s.sec.stage with
  | none => s
  | some j =>
    let t := s.modSec fun c => { c with stage := none }
    match s.imageRefusal j.bytes with
    | some e => t.failedKey .sec j.path e (if j.bytes.length < 1384 then [] else Config.sha3 (bytesAt j.bytes 72 1312))
    | none =>
      let x := Image.of j.bytes
      (t.setImage (!s.sec.running) x).done .sec j.path [(0, x.fwver), (1, x.svn)]

/-- FW_STAGE_COMPLETE (R572). -/
def execFwStageComplete (s : State) : Host.Outcome State Fault Refusal := .next (s.onSys Sys.stageEnd)

/-- FW_ACTIVATE: NEXT is the named image, on trial when it is not the running one (R573). -/
def Sys.activate (b : Bool) (s : Sys) : Sys :=
  s.modSec fun c =>
    { c with next := b, trial := b != c.running, fails := if b != c.running then 0 else c.fails }

/-- FW_COMMIT: the trial ends, and the floor rises: both copies are written under the floor key, which a die that could not
unwrap it does not have (R563, R574; log 181). -/
def Sys.commitImage (s : Sys) : Sys :=
  let x := s.image s.sec.running
  let f : FloorCopy :=
    { floor := if s.floorNow.toNat < x.svn.toNat then x.svn else s.floorNow, revoked := s.revokedNow ||| x.revoke, ok := true }
  let keyed := if s.boot.cd2Active then s.sec.key2 else s.sec.key0
  s.modSec fun c =>
    { c with
      trial := false, onTrial := false, floorA := if keyed then f else c.floorA, floorB := if keyed then f else c.floorB }

/-- FW_REVERT: NEXT is the other image. -/
def Sys.revertImage (s : Sys) : Sys := s.modSec fun c => { c with next := !c.running, trial := false, onTrial := false }

/-! ## Identity and attestation (19 R566-R570) -/

/-- The die of the active pair: 0 for CD0, 2 for CD2. -/
def Sys.identityOk (s : Sys) : Bool := if s.boot.cd2Active then s.sec.id2 else s.sec.id0

/-- A measurement register. -/
def Sys.mr (i : Nat) (s : Sys) : List Byte := fit 32 (getD s.sec.mr i [])

/-- A measurement register is extended (R565). -/
def Sys.extend (i : Nat) (d : List Byte) (s : Sys) : Sys :=
  s.modSec fun c => { c with mr := put c.mr i (fit 32 (Config.sha3 (s.mr i ++ fit 32 d))) }

/-- Seeds of the identity key and of the attestation key of a die. -/
def idSeed (die : Nat) : List Byte := fit 32 (Config.sha3 (ascii "GZS-IDK" ++ Config.pufSeed die))
def Sys.akSeed (die : Nat) (s : Sys) : List Byte :=
  fit 32 (Config.sha3 (ascii "GZS-AK" ++ Config.pufSeed die ++ s.mr 0 ++ s.mr 1 ++ s.mr 2))

/-- Bytes 0-1,375 of a chain record: its type, its die, the serial number, BIND and the public key (Table 19-3). -/
def chainBody (rtype die : Nat) (bind pub : List Byte) : List Byte :=
  toBe 1 rtype ++ toBe 1 die ++ toBe 2 0 ++ fit 16 Config.serial ++ fit 32 bind ++ List.replicate 12 0 ++ fit 1312 pub

/-- The endorsement record of a die: its identity key, signed at manufacture by Ikiriwell's key (R566). -/
def endorsement (die : Nat) : List Byte :=
  let body := chainBody 1 die [] (Config.mldsaPublic (idSeed die))
  body ++ fit 2420 (Config.endorseSign body)

/-- The attestation-key record of a die, signed by its identity key (R567). -/
def Sys.akRecord (die : Nat) (s : Sys) : List Byte :=
  let body := chainBody 2 die (Config.sha3 (s.mr 0 ++ s.mr 1 ++ s.mr 2)) (Config.mldsaPublic (s.akSeed die))
  body ++ fit 2420 (Config.mldsaSign (idSeed die) body)

/-- The chain of a die: 7,592 bytes and 88 of padding (R567). A die without an identity signs no attestation-key record, whose
place reads as zeros (R568; log 181). -/
def Sys.chain (die : Nat) (s : Sys) : List Byte :=
  fit 7680 (endorsement die ++ (if (if die = 2 then s.sec.id2 else s.sec.id0) then s.akRecord die else []))

/-- The attestation report (Table 19-4). -/
def Sys.report (nonce : List Byte) (s : Sys) : List Byte :=
  let x := s.image s.sec.running
  let body := toBe 4 1 ++ fit 16 Config.serial ++ toBe 4 x.fwver.toNat ++ toBe 4 x.svn.toNat ++ toBe 4 s.floorNow.toNat ++
    toBe 4 ((s.nv.plane.toNat * 2 ^ 16 + s.nv.group.toNat * 2 ^ 8 + s.nv.index.toNat) * 2 ^ 12 + s.revokedNow.toNat * 2 ^ 8 +
      8 * b2n s.nv.coordValid + 4 * b2n s.sec.running + 2 * b2n s.sec.onTrial + b2n s.boot.cd2Active) ++
    toBe 4 (2 ^ 28 + s.hearth.inForce * 2 ^ 26) ++ toBe 8 s.clk.ext.toNat ++ fit 32 nonce ++
    (List.range 8).flatMap s.mr ++ List.replicate 32 0
  body ++ fit 2420 (Config.mldsaSign (s.akSeed (2 * b2n s.boot.cd2Active)) body)

/-- ATTEST: the report goes into the region of a handle of at least 2,816 bytes (R570). -/
def attest (path : Path) (cmd : Word) (sl : Slot) (ok : Bool) (m : Stores × Sys) : Stores × Sys :=
  let s := m.2.accept .sec path cmd []
  if !s.identityOk then (m.1, s.failed .sec path secAuth)
  else
    match s.region path (sl.arg 8) 2816 with
    | .error e => (m.1, s.failed .sec path e)
    | .ok b =>
      match regionWrite path b (s.report ((List.range 8).flatMap fun i => toBe 4 (sl.arg i).toNat)) ok (m.1, s) with
      | .error _ => (m.1, s.failedDma .sec path b.dAddr)
      | .ok t => (t.1, t.2.done .sec path [(0, 2788)])

/-- A write of CMD of the security command object (R571-R574, Table 19-6). -/
def secCmd (path : Path) (cmd : Word) (dma : Dma) (m : Stores × Sys) : Except Word (Stores × Sys) :=
  let s := m.2
  let sl := s.slot .sec path
  let op := fld cmd 31 24
  let go := s.accept .sec path cmd []
  let stageBusy := s.sec.stage.isSome
  if sl.busy then .error tblBusy
  else if fld cmd 23 0 ≠ 0 ∨ op = 0 ∨ 5 < op then .error mgtReserved
  else if path ≠ .pcie ∧ op ≠ 5 ∧ s.rights path < 3 then .error secRights
  else
    match op with
    | 1 =>
      if s.sec.onTrial ∨ stageBusy then .error mgtState
      else .ok (m.1, fwStage path cmd (sl.arg 0) (sl.arg 1).toNat m.1 dma s)
    | 2 =>
      let b := bit (sl.arg 0).toNat 0
      if stageBusy ∨ !(s.image b).valid then .error mgtState else .ok (m.1, (go.activate b).done .sec path [])
    | 3 =>
      if !s.sec.onTrial then .error mgtState
      else let t := go.commitImage; .ok (m.1, t.done .sec path [(0, t.floorNow)])
    | 4 => if !s.sec.onTrial then .error mgtState else .ok (m.1, go.revertImage.done .sec path [])
    | _ => .ok (attest path cmd sl (dma != .failed) m)

/-- A security command of a row. -/
def secReq (path : Path) (op : Nat) (args : List (Nat × Word)) (dma : Dma) (m : Stores × Sys) : Stores × Sys :=
  requestM path 0x8040 0 0 (fun t => secCmd path (BitVec.ofNat 32 (op * 2 ^ 24)) dma (t.1, t.2.setArgs .sec path args)) m

/-- FW_STAGE (R572). -/
def execFwStage (path : Path) (handle length : Word) (host : Dma) (s : State) : Host.Outcome State Fault Refusal :=
  .next (s.onMach (secReq path 1 [(0, handle), (1, length)] host))

/-- FW_ACTIVATE (R573). -/
def execFwActivate (path : Path) (image : Word) (s : State) : Host.Outcome State Fault Refusal :=
  .next (s.onMach (secReq path 2 [(0, image)] .failed))

/-- FW_COMMIT (R574). -/
def execFwCommit (path : Path) (s : State) : Host.Outcome State Fault Refusal := .next (s.onMach (secReq path 3 [] .failed))

/-- FW_REVERT (R574). -/
def execFwRevert (path : Path) (s : State) : Host.Outcome State Fault Refusal := .next (s.onMach (secReq path 4 [] .failed))

/-- ATTEST (R570). -/
def execAttest (path : Path) (nonce : List Word) (handle : Word) (hostOk : Bool) (s : State) : Host.Outcome State Fault Refusal :=
  .next (s.onMach (secReq path 5 (((List.range 8).map fun i => (i, nth nonce i 0)) ++ [(8, handle)])
    (if hostOk then .data [] else .failed)))

/-! ## Sessions (19 R575, R576) -/

/-- The session record of a path. -/
def Sys.session (path : Path) (s : Sys) : Session := getD s.mg.sessions (pathNum path) {}

/-- The session record of a path is replaced. -/
def Sys.setSession (path : Path) (x : Session) (s : Sys) : Sys :=
  s.modMg fun m => { m with sessions := put m.sessions (pathNum path) x }

/-- A key is in the trust list. -/
def Sys.trusted (h : List Byte) (s : Sys) : Bool := h.any (· != 0) && s.nv.trust.any fun e => e.2.1 == h

/-- STEP = 1: HELLO in IN is answered in OUT. -/
def Sys.hello (path : Path) (s : Sys) : Except Word Sys :=
  let b := fit 2528 (getD s.mg.secIn (pathNum path) [])
  let pub := bytesAt b 0 1312
  let h := Config.sha3 pub
  if s.sessionOpen path then .error mgtSession
  else if !s.trusted h || !s.identityOk then .error secAuth
  else
    let (n, t) := s.draw
    let (k, u) := t.draw
    let c := fit 1088 (Config.kemCipher (bytesAt b 1312 1184) n) ++ fit 32 (Config.nonce k)
    let die := 2 * b2n s.boot.cd2Active
    let h1 := Config.sha3 (b ++ c ++ s.akRecord die)
    .ok ((u.setSession path
      { st := 1, since := s.clk.mono, keyHash := h, pub, h1, secret := Config.kemSecret (bytesAt b 1312 1184) n }).modMg fun m =>
        { m with secOut := put m.secOut (pathNum path) (fit 3840 (c ++ fit 2420 (Config.mldsaSign (s.akSeed die) h1))) })

/-- STEP = 2: the requester's signature over H2 opens the session. -/
def Sys.confirmSession (path : Path) (s : Sys) : Except Word Sys :=
  let x := s.session path
  let h2 := Config.sha3 (x.h1 ++ [1])
  if x.st ≠ 1 ∨ x.since + 5000000000 < s.clk.mono then .error mgtState
  else if !Config.mldsaVerify x.pub h2 (fit 2420 (getD s.mg.secIn (pathNum path) [])) then .error secSignature
  else
    let keys := fit 64 (Config.kmac x.secret h2 512 (ascii "GZS-SESSION"))
    .ok (s.setSession path
      { x with st := 2, last := s.clk.mono, rxKey := keys.take 32, txKey := keys.drop 32, rxSeq := 0, txSeq := 0 })

/-- A write of STEP in object 0x8020. A session is ended after the response to STEP = 3. -/
def Sys.writeStep (path : Path) (v : Word) (s : Sys) : Except Word Sys :=
  if path = .pcie then .error mgtPath
  else
    match v.toNat with
    | 1 => s.hello path
    | 2 => s.confirmSession path
    | 3 => if (s.session path).st = 0 then .error mgtState else .ok s
    | _ => .error mgtRange

/-- A write of STEP of a row; in-band ones come from OWNER (18 R540). -/
def stepReq (path : Path) (v : Word) (next : Sys → Sys) (s : Sys) : Sys :=
  requestThen path 0x8020 0 0 (Sys.writeStep path v) next s

/-- SESSION_HELLO (R575): a HELLO of another GEI than OWNER is not accepted in-band. -/
def execSessionHello (path : Path) (gei : Word) (s : State) : Host.Outcome State Fault Refusal :=
  .next (s.onSys fun t => if path = .inband ∧ gei ≠ t.nv.owner then t else stepReq path 1 id t)

/-- SESSION_CONFIRM (R575). -/
def execSessionConfirm (path : Path) (s : State) : Host.Outcome State Fault Refusal := .next (s.onSys (stepReq path 2 id))

/-- SESSION_END (R576). -/
def execSessionEnd (path : Path) (s : State) : Host.Outcome State Fault Refusal :=
  .next (s.onSys (stepReq path 3 (Sys.endSession path)))

/-- 5 s have passed since HELLO was answered. -/
def Sys.helloTimeout (path : Path) (s : Sys) : Sys :=
  let x := s.session path
  if x.st = 1 then (s.toMono (x.since + 5000000000)).endSession path else s

/-- HANDSHAKE_TIMEOUT (R575). -/
def execHandshakeTimeout (path : Path) (s : State) : Host.Outcome State Fault Refusal := .next (s.onSys (Sys.helloTimeout path))

/-- 60 s have passed since the last valid message. -/
def Sys.sessionTimeout (path : Path) (s : Sys) : Sys :=
  let x := s.session path
  if x.st = 2 then (s.toMono (x.last + 60000000000)).endSession path else s

/-- SESSION_TIMEOUT (R576). -/
def execSessionTimeout (path : Path) (s : State) : Host.Outcome State Fault Refusal := .next (s.onSys (Sys.sessionTimeout path))

/-! ## Trust list (19 R577) -/

/-- Sessions whose key has left the trust list end at once. -/
def Sys.dropUntrusted (s : Sys) : Sys :=
  [Path.eth, .inband].foldl (fun t p => if t.sessionOpen p && !t.trusted (t.session p).keyHash then t.endSession p else t) s

/-- An entry of the trust list is written. -/
def Sys.setTrust (i : Nat) (f : List Byte × BitVec 2 → List Byte × BitVec 2) (s : Sys) : Except Word Sys :=
  (s.rws fun n => { n with trust := put n.trust i (f (getD n.trust i (List.replicate 32 0, 0))) }).map Sys.dropUntrusted

end Sys2Proof.Machine
end

