-- ==== Sys2Proof/Machine/Boot.lean ====
section
/-! DEFINITION. Kindling, resets, shutdowns and the pins that cause them (17 R494-R497, R510; 19 R564, R568, R573; 21; 22 R624,
R627, R635, R636). -/

namespace Sys2Proof.Machine

/-! ## The module while it is absent (21 R605, R616) -/

/-- Every die is held in reset and every transmitter squelched: what is left is flash, the units in the cages, the pins, the
sensors, and the management domain with its sessions and slots. PPS_OUT is low. -/
def Sys.dark (mode : Mode) (s : Sys) : Sys :=
  let t := if s.clk.ppsOut then s.emit (.ppsOut false) else s
  { t with
    boot := { s.boot with mode, failing := false, dip := false, stopped := false, dieResets := [], warm := false }
    clk := { ext := s.clk.ext, mono := s.clk.mono, refPresent := s.clk.refPresent, cfg := s.nv.time }
    tab := {}, fwd := { drainUs := s.nv.drainBound }
    ports :=
      { cage := s.ports.cage.map fun e => (e.1, { e.2 with lowPower := true, released := false }) }
    sw := { sched := s.nv.sched, spillCfg := s.nv.spill }
    flows := {}, coll := {}, graphs := {}, bc := {}, vault := {}
    ocs := { bucket := s.nv.demandBucket, exp := s.nv.demExp, dest := s.nv.demDest, tc := s.nv.demTc }
    mem := { stack := s.mem.stack.map fun e => (e.1, { temp := e.2.temp }), cfg := s.nv.mem }
    felt := {}
    hearth :=
      { tj := s.hearth.tj, tinlet := s.hearth.tinlet, toutlet := s.hearth.toutlet, flow := s.hearth.flow
        sensorFailed := s.hearth.sensorFailed, inForce := s.hearth.inForce }
    sec := { s.sec with stage := none }
    cnt := { wexp := s.nv.wexp } }

/-- What CLEAR leaves of the journal: remap tables, stack losses, width records, the error log, and the values that are not RWS (18
R559). -/
def Persist.cleared (n : Persist) : Persist :=
  { remap := n.remap, stackLost := n.stackLost, feltNear := n.feltNear, feltFar := n.feltFar, feltAgreed := n.feltAgreed
    log := n.log, logNext := n.logNext, epoch := n.epoch, dropped := n.dropped, failovers := n.failovers, fcause := n.fcause
    boots := n.boots }

/-- What the journal restores (18 R556, R559). -/
def Persist.restored (n : Persist) : Persist := if n.clearArmed then n.cleared else n

/-- The journal at Kindling: writing goes on after the last good record of the half that was replayed, and what only the buffer
held is lost (18 R556). -/
def Journal.reopened (j : Journal) : Journal :=
  let h := j.half j.newer
  { j.setHalf j.newer { h with recs := h.good } with
    onB := j.newer, buf := [], buffered := 0, used := sum (h.good.map JrnlRec.bytes)
    seq := match h.good.getLast? with | some r => r.seq + 1 | none => 0
    lastFlush := 0, failed := false }

/-- Kindling starts from its first phase: everything but flash, pins and cage units is at its reset value, and the settings in
force are those that the journal restores (21 R608). -/
def Sys.kindle (cause : BitVec 4) (s : Sys) : Sys :=
  let t := if s.clk.ppsOut then s.emit (.ppsOut false) else s
  let n := s.jr.replay.restored
  { out := t.out, free := s.free, mg := { era := s.mg.era + 1 }, nv := n
    jr := s.jr.reopened
    boot :=
      { mode := .kindling, phase := 1, cause, pfe := s.boot.pfe, mateHigh := s.boot.mateHigh, perst := s.boot.perst
        j2Lost := s.boot.j2Lost, lowInput := s.boot.lowInput && cause != 0 }
    clk := { refPresent := s.clk.refPresent, cfg := n.time }
    fwd := { drainUs := n.drainBound }
    ports := { cage := s.ports.cage.map fun e => (e.1, { e.2 with lowPower := true, released := false }) }
    sw := { sched := n.sched, spillCfg := n.spill }
    ocs := { bucket := n.demandBucket, exp := n.demExp, dest := n.demDest, tc := n.demTc }
    mem := { cfg := n.mem }
    hearth := { inForce := s.hearth.inForce }
    sec := { s.sec with stage := none, onTrial := false, mr := [] }
    cnt := { wexp := n.wexp } }

/-- PWR_FAIL_EARLY before READY stops Kindling until it is released (21 R619). -/
def Sys.stopKindling (s : Sys) : Sys := (s.dark .held).modBoot fun b => { b with stopped := true, phase := 1 }

/-- Kindling starts, unless PWR_FAIL_EARLY or MATE_N holds the dies in reset. -/
def Sys.startKindling (cause : BitVec 4) (s : Sys) : Sys :=
  let t := s.kindle cause
  if t.powerWarned then t.stopKindling else t

/-- A full reset (21 R605): the journal is flushed first, except at power-on, and BOOTS rises, which is in flash at once (21
R620). -/
def Sys.fullReset (cause : BitVec 4) (s : Sys) : Sys :=
  let t := if cause = 0 then s else s.flush true
  ((((t.startKindling cause).modNv fun n => { n with boots := n.boots + 1 }).jrnl).flush true)

/-- The coolant flow is at least 3 L/min (22 R635). -/
def Sys.coolantFlows (s : Sys) : Bool := match s.reading .flow with | some f => decide (300 ≤ f) | none => true

/-- A power-on that waits starts when the input is at least 41 V, the module is seated and its coolant flows, at the earliest
100 ms after MATE_N fell (22 R635). -/
def Sys.tryPowerOn (s : Sys) : Sys :=
  if s.boot.waiting && !s.boot.mateHigh && !s.boot.lowInput && s.coolantFlows then
    (s.toMono (match s.boot.mateFell with | some t => t + 100000000 | none => 0)).fullReset 0
  else s

/-- Every junction is below its derate start (17 R509, R510). -/
def Sys.cool (s : Sys) : Bool :=
  (List.range 4).all (fun c => match s.reading (.die (16 + c)) with | some t => decide (t < 24320) | none => true) &&
    s.liveStacks.all fun k => match s.reading (.stack k) with | some t => decide (t < 21760) | none => true

/-- A full reset from outside: power-on waits for an input of 41 V, for MATE_N and for the coolant, and without power only power-on starts one (22 R635); a
thermal shutdown stays while a junction is hot (17 R510). -/
def Sys.resetPin (cause : BitVec 4) (millivolts : Nat) (s : Sys) : Sys :=
  if 7 < cause.toNat ∨ (cause ≠ 0 ∧ s.boot.mode = .off) then s
  else
    let t := s.modBoot fun b => { b with resetN := false }
    if cause = 0 then ((t.dark .held).modBoot fun b => { b with waiting := true, lowInput := decide (millivolts < 41000) }).tryPowerOn
    else if t.boot.mode = .thermal && !t.cool then t
    else t.fullReset cause

/-- FULL_RESET (R605). -/
def execFullReset (cause : BitVec 4) (millivolts : Nat) (s : State) : Host.Outcome State Fault Refusal :=
  .next (s.onSys (Sys.resetPin cause millivolts))

/-- SENSOR_SAMPLE_10MS (R527): the coolant may let a power-on start. -/
def execSensorSample10ms (inlet outlet : BitVec 32) (flow : Word) (s : State) : Host.Outcome State Fault Refusal :=
  .next (s.onSys fun t => (t.coolant inlet outlet flow).tryPowerOn)

/-! ## Kindling (21 R606) -/

/-- CD0 and CD2 have both failed, or no stack trains: the module stays in its phase. -/
def Sys.noCollier (s : Sys) : Bool := s.boot.lostDies.contains 16 && s.boot.lostDies.contains 18

/-- ROM: PROF_SEL, the seeds, the floor keys and the floor record of CD0 and CD2, the image, and MR0-MR2 (17 R515; 19 R563,
R564, R566, R568). A die whose two copies of the helper data are bad has no seed, so neither an identity nor a floor key. Where
the floors of the two dies differ, CD0's choice of image comes first (log 181). -/
def Sys.romPhase (r : KindlingResult) (s : Sys) : Sys :=
  let seed0 := r.helper0.1 || r.helper0.2
  let seed2 := r.helper2.1 || r.helper2.2
  let t := (s.modBoot fun b => { b with pins := r.pins }).modSec fun c =>
    { c with
      key0 := seed0 && r.floor0, key2 := seed2 && r.floor2, id0 := seed0 && r.identity0, id2 := seed2 && r.identity2 }
  let u := if t.sec.key0 && t.sec.key2 && t.sec.floorCopy.isSome then t else t.faultUnit faultSecFloor 20 []
  let v := if t.sec.id0 then u else u.faultUnit faultSecIdentity 16 []
  let w := if t.sec.id2 then v else v.faultUnit faultSecIdentity 18 []
  match (w.romPick false).orElse fun _ => w.romPick true with
  | none => w.modBoot fun b => { b with mode := .recovery }
  | some b =>
    let x := w.image b
    ((((w.modSec fun c => { c with running := b, onTrial := c.trial && b == c.next }).extend 0 x.manifest).extend 1 x.pdigest).extend
      2 x.diesDigest).modBoot (fun b => { b with phase := 2 }) |>.powerCages

/-- The selected profile comes into force, with the operating point of its core dies; a change of profile writes its shaper
parameters for every port (17 R499, R515; 11 R365). -/
def Sys.applySelected (s : Sys) : Sys :=
  let k := s.selected
  let p := nth s.nv.profiles k {}
  let all : Sparse Sched := if p.sched = {} then [] else (List.range 1024).map fun i => (i, p.sched)
  let t := if k = s.hearth.inForce then s else (s.modNv fun n => { n with sched := all }).jrnl
  t.modHearth fun h =>
    { h with inForce := k, cur := p, pendingProfile := 255, opPoint := if k = 3 then [2, 2, 2, 2] else [0, 0, 0, 0] }

/-- JOURNAL: the firmware is loaded into every die; one that fails is lost. -/
def Sys.journalPhase (r : KindlingResult) (s : Sys) : Sys :=
  let t := (r.failedDies.filter fun u => u < 20).foldl (fun t u => t.loseDie u) s.applySelected
  if t.noCollier then t else t.modBoot fun b => { b with phase := 3 }

/-- FELT: every link of working dies trains; isolated dies are lost. -/
def Sys.feltPhase (r : KindlingResult) (s : Sys) : Sys :=
  let t := (List.range 38).foldl
    (fun t l =>
      let e := linkEnds l
      if t.boot.lostDies.contains e.1 || t.boot.lostDies.contains e.2 then t
      else
        match r.felt.find? fun x => x.1 == l with
        | some x => t.trainLink l x.2.1 x.2.2
        | none => t.linkDown l true)
    s
  let u := t.loseIsolated 20
  if u.noCollier then u else u.modBoot fun b => { b with phase := 4 }

/-- Rate of the selected profile in 0.1 Gb/s: 40 in Economy and 80 otherwise (17 Table 17-8). -/
def Sys.profileRate (s : Sys) : Nat := if s.hearth.inForce = 3 then 40 else 80

/-- Rate that a stack trains at: the profile's, 64 when it fails at 80, else 0 = failed (14 R430). -/
def trainedRate (r : KindlingResult) (k rate : Nat) : Nat :=
  let can := nth r.rates k 0
  if rate ≤ can then rate else if rate = 80 ∧ 64 ≤ can then 64 else 0

/-- MEMORY: stacks train, are tested when STARTTEST is 1, and run at the lowest rate; the allocation is set (14 R430, R432, R446,
R449). -/
def Sys.memoryPhase (r : KindlingResult) (s : Sys) : Sys :=
  let t := s.liveStacks.foldl
    (fun t k =>
      if trainedRate r k s.profileRate = 0 then t.loseStack k 1 true
      else if trainedRate r k s.profileRate = 64 then t.faultUnit faultHbmRate k []
      else t)
    s
  let u := if t.mem.cfg.startTest then
      (t.liveStacks.filter fun k => r.testFailed.contains k).foldl (fun t k => t.loseStack k 2 true) t
    else t
  let low := u.liveStacks.foldl (fun m k => min m (trainedRate r k s.profileRate)) s.profileRate
  let v := u.modMem fun m =>
    { m with
      stack := u.liveStacks.foldl (fun x k => modify x k {} fun y => { y with rate := low }) m.stack
      alloc := if u.nv.stackLost.isEmpty then u.hearth.inForce else 255
      remapping := false, patrolNext := 0, patrolStart := u.clk.mono }
  if v.liveStacks.isEmpty then v else v.modBoot fun b => { b with phase := 5 }

/-- Parameters of a profile in the order of Table 17-8. -/
def Profile.words (p : Profile) : List Nat :=
  [p.vfirst, p.wspill, p.wbc, p.wpar, p.units] ++ p.sched.quantum ++ p.sched.rate ++ p.sched.burst

/-- The eight entries of the trust list, each as its KEYHASH and a byte of RIGHTS (19 R565). -/
def Sys.trustBytes (s : Sys) : List Byte :=
  (List.range 8).flatMap fun i =>
    let e := getD s.nv.trust i ([], 0)
    fit 32 e.1 ++ [e.2.setWidth 8]

/-- SERVICES: MR3-MR5 are extended, the warm-up is armed, and the module is READY with a standby that synchronises (21 R609). -/
def Sys.servicesPhase (s : Sys) : Sys :=
  let t := ((s.extend 3 (Config.profilesDigest (s.nv.profiles.map Profile.words))).extend 4 (Config.sha3 s.trustBytes)).extend 5
    (Config.securityDigest (s.nv.trust.map fun e => (e.2.1, e.2.2.toNat)) s.nv.owner)
  let u := t.modBoot fun b =>
    { b with
      mode := .ready, phase := 6, tready := BitVec.ofNat 32 s.clk.mono, readyAt := s.clk.mono, warm := true
      standby := if b.standby = 2 then 2 else 1 }
  (u.modHearth fun h => { h with lastGrant := s.clk.mono }).sourceChange

/-- A module that stays in its phase squelches every transmitter (21 R606). -/
def Sys.squelchStuck (s : Sys) : Sys :=
  if s.boot.mode = .kindling ∧ s.boot.phase ≠ 1 ∧ s.stuck then
    s.modPorts fun q =>
      { q with
        port := q.port.map fun e =>
          (e.1, if e.2.st = .disabled ∨ e.2.st = .maintenance then { e.2 with active := 0, trained := false }
            else { e.2 with st := .training, active := 0, trained := false, warm := none, retryAt := none }) }
  else s

/-- A Kindling phase ends. -/
def Sys.phaseEnd (r : KindlingResult) (s : Sys) : Sys :=
  if s.boot.mode ≠ .kindling ∨ s.boot.bothLost then s
  else
    (match s.boot.phase.toNat with
    | 1 => s.romPhase r
    | 2 => s.journalPhase r
    | 3 => s.feltPhase r
    | 4 => s.memoryPhase r
    | 5 => s.servicesPhase
    | _ => s).squelchStuck

/-- KINDLING_PHASE_COMPLETE (R606). -/
def execKindlingPhaseComplete (r : KindlingResult) (s : State) : Host.Outcome State Fault Refusal :=
  .next (s.onSys (Sys.phaseEnd r))

/-! ## Orderly shutdown (21 R618) -/

/-- The command objects and the paths. -/
def slotObjs : List SlotObj := [.table, .coll, .graph, .bc, .vault, .port, .felt, .ocs, .sec]
def allPaths : List Path := [.pcie, .eth, .inband, .facility]

/-- Every BUSY command fails. -/
def Sys.failBusy (code : Word) (s : Sys) : Sys :=
  slotObjs.foldl
    (fun t o => allPaths.foldl (fun u p => if (u.slot o p).busy then u.failed o p code else u) t) s

/-- Every BUSY command fails, the journal is flushed, and the module is held in SHUTDOWN. -/
def Sys.shutdown (s : Sys) : Sys :=
  (((s.failBusy mgtState).flush true).dark .shutdown).modBoot fun b => { b with phase := 7 }

/-! ## Partial reset of a port die (21 R611-R613) -/

/-- The counters of a port die read 0 (20 R582). -/
def Sys.zeroDie (d : Nat) (s : Sys) : Sys :=
  let mine (k : Nat) : Bool :=
    let fam := k / 2 ^ 48
    let sel := k / 2 ^ 32 % 2 ^ 16
    if fam = 0 ∨ fam = 0x9012 ∨ fam = 0x9050 then sel == d
    else if fam = 0x9032 then sel / 2 == d
    else if fam = 0x9020 then sel / 512 == d
    else if fam = 0x9060 ∨ fam = 0x9070 then false
    else sel / 64 == d
  (s.modCnt fun c =>
    { c with
      fixed := c.fixed.filter fun e => !mine e.1
      unit := put c.unit d { mark := s.clk.mono, resets := (getD c.unit d {}).resets } }).modPorts fun q =>
    { q with
      port := q.port.map fun e => (e.1, if e.1 / 64 = d then { e.2 with c7max := 0, rxBytes := 0, txBytes := 0 } else e.2) }

/-- They read 0, and RESETS of the die rises. -/
def Sys.clearDie (d : Nat) (s : Sys) : Sys :=
  (s.zeroDie d).modCnt fun c => { c with unit := modify c.unit d {} fun u => { u with resets := u.resets + 1 } }

/-- Every port die is lost or in partial reset. -/
def Sys.noPortDie (s : Sys) : Bool := (List.range 16).all fun d => !s.dieUp d

/-- The dies are out of reset: from the JOURNAL phase of Kindling on, and in READY. -/
def Sys.diesOn (s : Sys) : Bool := s.boot.mode == .ready || (s.boot.mode == .kindling && s.boot.phase != 1)

/-- A port die enters partial reset; by itself (`own`) it reports a fault of each of its UP ports. -/
def Sys.resetDie (d : Nat) (own : Bool) (s : Sys) : Sys :=
  if !s.diesOn ∨ !s.dieUp d then s
  else
    let up := if own then (s.diePorts d).filter fun p => (s.port p).st == .up else []
    let t := up.foldl (fun t p => t.healthEvent p) (s.modBoot fun b => { b with dieResets := put b.dieResets d s.clk.mono })
    let u := (t.dropLinks d).dropDie d
    let v := up.foldl
      (fun v p =>
        v.linkReport p Config.dieResetCause.toNat faultLinkDown true
          (widthMask (s.pcfg p).width) (s.port p).active)
      u
    let w := v.clearDie d
    if w.noPortDie then w.fullReset 7 else (w.loseIsolated 20).settle

/-- The die has left reset: each of its links trains in full on what the tests `felt` find at its ends beside the records that
they kept, or is declared down; it loads its time copy, its tables are reloaded and its ports may train, and its counters read 0
(04 R130, 15 R463-R465, 16 R483, 21 R612). -/
def Sys.resetExit (d : Nat) (felt : List (Nat × List (Nat × List Nat) × List (Nat × List Nat))) (s : Sys) : Sys :=
  if (get? s.boot.dieResets d).isNone then s
  else
    let t := (s.modBoot fun b => { b with dieResets := del b.dieResets d }).zeroDie d
    let ok (u : Nat) : Bool := !t.boot.lostDies.contains u && (get? t.boot.dieResets u).isNone
    let links := (dieLinks d).filter fun l => ok (linkEnds l).1 && ok (linkEnds l).2
    let u := links.foldl
      (fun v l =>
        match felt.find? fun x => x.1 == l with
        | some x => v.trainLink l x.2.1 x.2.2
        | none => v.linkDown l true)
      t
    ((u.loseIsolated 20).sendControl 16 d (toBe 8 u.clk.ext.toNat ++ toBe 4 (twos 32 u.clk.rate))).settle

/-- DIE_RESET_EXIT (R612). -/
def execDieResetExit (die : Die) (felt : List (Nat × List (Nat × List Nat) × List (Nat × List Nat))) (s : State) :
    Host.Outcome State Fault Refusal :=
  .next (s.onSys (Sys.resetExit die.toNat felt))

/-- A die that has not left reset within 10 ms is lost, with its stack. -/
def Sys.resetOverdue (d : Nat) (s : Sys) : Sys :=
  match get? s.boot.dieResets d with
  | some t => (((s.toMono (t + 10000000)).loseDie d).loseIsolated 20).settle
  | none => s

/-- DIE_RESET_TIMEOUT (R612). -/
def execDieResetTimeout (die : Die) (s : State) : Host.Outcome State Fault Refusal :=
  .next (s.onSys (Sys.resetOverdue die.toNat))

/-- DIE_WATCHDOG_EXPIRE (R611). -/
def execDieWatchdogExpire (die : Die) (s : State) : Host.Outcome State Fault Refusal :=
  .next (s.onSys (Sys.resetDie die.toNat true))

/-! ## Object 0x1050 (21 R620) -/

/-- A write of RESET is accepted. -/
def Sys.resetAllowed (v : Word) (s : Sys) : Except Word Sys :=
  if v ≠ 1 ∧ v ≠ 2 then .error mgtRange
  else if s.boot.mode = .thermal ∧ (v = 2 ∨ !s.cool) then .error mgtState
  else .ok s

/-- What an accepted write of RESET does. -/
def Sys.doReset (v : Word) (s : Sys) : Sys :=
  if v = 2 then s.shutdown
  else s.fullReset (match s.boot.mode with | .thermal => 3 | .shutdown => 4 | _ => 2)

/-- RESET (R620). -/
def execReset (path : Path) (value : Word) (s : State) : Host.Outcome State Fault Refusal :=
  .next (s.onSys (requestThen path 0x1050 0 3 (Sys.resetAllowed value) (Sys.doReset value)))

/-- ORDERLY_SHUTDOWN (R618). -/
def execOrderlyShutdown (path : Path) (s : State) : Host.Outcome State Fault Refusal :=
  .next (s.onSys (requestThen path 0x1050 0 3 (Sys.resetAllowed 2) (Sys.doReset 2)))

/-- A write of DIERESET. Where every die is held in reset already, it is refused as during a partial reset (log 182). -/
def Sys.writeDieReset (v : Word) (s : Sys) : Except Word Sys :=
  if 15 < v.toNat then .error mgtRange
  else if !s.diesOn then .error mgtState
  else if !s.dieQuiet v.toNat then .error portNotdrained
  else if !s.boot.dieResets.isEmpty ∨ !s.dieUp v.toNat then .error mgtState
  else .ok (s.resetDie v.toNat false)

/-- DIERESET (R611). -/
def execDiereset (path : Path) (value : Word) (s : State) : Host.Outcome State Fault Refusal :=
  .next (s.onSys (request path 0x1050 0 4 (Sys.writeDieReset value)))

/-- A Collier watchdog expires after both pairs are lost: with AUTORESET a full reset, which counts against an image on trial (21
R605, 19 R573). -/
def Sys.failTrial (cause : BitVec 4) (s : Sys) : Sys :=
  let n := s.sec.fails + 1
  let t := s.modSec fun c => { c with fails := n }
  if n < 2 then t.fullReset cause
  else ((t.modSec fun c => { c with next := !c.running, trial := false }).fullReset 6).faultUnit faultSecFallback 20 []

/-- The Collier watchdog expires. -/
def Sys.collierWatchdog (s : Sys) : Sys :=
  if s.boot.bothLost && s.nv.autoReset then
    (if s.sec.onTrial then s.failTrial 5 else s.fullReset 5)
  else s

/-- COLLIER_WATCHDOG_EXPIRE (R605). -/
def execCollierWatchdogExpire (s : State) : Host.Outcome State Fault Refusal := .next (s.onSys Sys.collierWatchdog)

/-- An image on trial has not completed Kindling within 300 s: a failed trial, and at the second the other image boots (R573). -/
def Sys.trialTimeout (s : Sys) : Sys :=
  if s.sec.onTrial && s.boot.mode == .kindling then (s.toMono 300000000000).failTrial s.boot.cause else s

/-- TRIAL_TIMEOUT (R573). -/
def execTrialTimeout (s : State) : Host.Outcome State Fault Refusal := .next (s.onSys Sys.trialTimeout)

/-! ## Power (17 R494-R497, 21 R619, 22 R635, R636) -/

/-- PWR_FAIL_EARLY: notice, MSI-X vector 3, a stage in progress fails, the journal is flushed, and RWS writes are refused from then
on. Before READY it stops Kindling. -/
def Sys.pwrFail (s : Sys) : Sys :=
  if !s.collierOn then (if s.boot.mode = .kindling then s.stopKindling else s)
  else
    let t := (s.msix 3).faultUnit faultPwrEarly 20 []
    let u := match t.sec.stage with
      | some j => (t.modSec fun c => { c with stage := none }).failed .sec j.path pwrFailing
      | none => t
    let v := u.flush true
    if v.boot.mode = .kindling then v.stopKindling else v.modBoot fun b => { b with failing := true }

/-- A Kindling that PWR_FAIL_EARLY stopped starts again with the same cause, once nothing warns and the input is at least 41 V (21
R619). -/
def Sys.restart (s : Sys) : Sys :=
  if s.boot.stopped && !s.boot.lowInput && !s.powerWarned then s.startKindling s.boot.cause else s

/-- It is released: RWS writes are accepted again, and a stopped Kindling starts again. -/
def Sys.pwrRelease (s : Sys) : Sys := (s.modBoot fun b => { b with failing := false }).restart

/-- A pin that warns of a loss of power changes; when both signals assert, the module responds once (22 R636). -/
def Sys.warnPins (f : Boot → Boot) (s : Sys) : Sys :=
  let t := s.modBoot f
  if !s.powerWarned && t.powerWarned then t.pwrFail
  else if s.powerWarned && !t.powerWarned then t.pwrRelease
  else t

/-- PWR_FAIL_EARLY_ASSERT (R497). -/
def execPwrFailEarlyAssert (s : State) : Host.Outcome State Fault Refusal :=
  .next (s.onSys (Sys.warnPins fun b => { b with pfe := true }))

/-- PWR_FAIL_EARLY_RELEASE (R497). -/
def execPwrFailEarlyRelease (s : State) : Host.Outcome State Fault Refusal :=
  .next (s.onSys (Sys.warnPins fun b => { b with pfe := false }))

/-- MATE_N changes: its fall is remembered, and may let a power-on start (22 R635, R636). -/
def Sys.mate (high : Bool) (s : Sys) : Sys :=
  (s.warnPins fun b =>
    { b with
      mateHigh := high
      mateFell := if high then none else if b.mateHigh then some s.clk.mono else b.mateFell }).tryPowerOn

/-- MATE_N_CHANGE (R636). -/
def execMateNChange (high : Bool) (s : State) : Host.Outcome State Fault Refusal := .next (s.onSys (Sys.mate high))

/-- The input is lost, or its switch opens: the module stops without a flush (17 R494). -/
def Sys.inputLoss (s : Sys) : Sys := (s.dark .off).modBoot fun b => { b with waiting := false, lowInput := true }

/-- INPUT_LOSS (R494). -/
def execInputLoss (s : State) : Host.Outcome State Fault Refusal := .next (s.onSys Sys.inputLoss)

/-- The input voltage changes while the module runs: below 40 V it runs from hold-up energy, above 72 V its switch opens (17 R494,
R495). -/
def Sys.inputDip (mv : Nat) (s : Sys) : Sys :=
  if s.boot.mode = .off then s
  else if 72000 < mv then s.inputLoss
  else (s.modBoot fun b => { b with dip := b.dip || decide (mv < 40000), lowInput := decide (mv < 41000) }).restart.tryPowerOn

/-- INPUT_DIP (R495). -/
def execInputDip (millivolts : Nat) (s : State) : Host.Outcome State Fault Refusal := .next (s.onSys (Sys.inputDip millivolts))

/-- The input is back in time: the dip is counted and logged (17 R495). -/
def Sys.dipEnd (s : Sys) : Sys := (s.countDip.modBoot fun b => { b with lowInput := false }).restart.tryPowerOn

/-- DIP_END (R495). -/
def execDipEnd (s : State) : Host.Outcome State Fault Refusal := .next (s.onSys Sys.dipEnd)

/-- Class 7 packets wait at a port, or one is on its wire. -/
def Sys.class7Waits (p : Nat) (s : Sys) : Bool :=
  let e := s.eg p
  let is7 (d : Option Desc) : Bool := match d with | some x => x.tc == 7 | none => false
  !(getD e.queue 14 []).isEmpty || !(getD e.queue 15 []).isEmpty || is7 e.committed || is7 e.tx

/-- Class 7 packets of a port leave while they can. -/
def Sys.sendClass7 (p : Nat) : Nat → Sys → Sys
  | 0, s => s
  | n + 1, s => if s.class7Waits p then ((s.commitPort p).txDone p).sendClass7 p n else s

/-- The notices that wait leave at every UP port before its transmitter is squelched (17 R510). -/
def Sys.sendNotices (s : Sys) : Sys :=
  let up := s.sw.eg.filter fun e => (s.port e.1).st == .up
  up.foldl (fun t e => t.sendClass7 e.1 (3 + sum (e.2.queue.map fun q => q.2.length))) s

/-- A thermal shutdown (17 R510): its notice leaves, the journal is flushed, and every die is held in reset. -/
def Sys.thermalShutdown (s : Sys) : Sys :=
  match s.boot.mode with
  | .ready | .kindling => ((s.faultUnit faultThermTrip 20 []).sendNotices.flush true).dark .thermal
  | _ => s

/-- A sensor has been past its trip for 1 ms: a die shuts the module down, a stack is lost (17 Table 17-6). The inlet and the flow
have no trip. -/
def Sys.trip (x : Sensor) (s : Sys) : Sys :=
  match x with
  | .die _ => s.thermalShutdown
  | .stack k => if s.boot.mode = .ready ∨ s.boot.mode = .kindling then s.loseStack k 5 true else s
  | _ => s

/-- THERMAL_TRIP (R510). -/
def execThermalTrip (sensor : Sensor) (s : State) : Host.Outcome State Fault Refusal :=
  if sensorOk sensor then .next (s.onSys (Sys.trip sensor)) else .fault .noUnit

/-! ## Pins (22 R624, R627) -/

/-- RESET_N is asserted: the journal is flushed, and the module is held in reset until the release; a thermal shutdown stays one
while a junction is hot (17 R510). -/
def Sys.resetHold (s : Sys) : Sys :=
  let t := s.modBoot fun b => { b with resetN := true, stopped := false }
  if t.boot.mode = .off ∨ (t.boot.mode = .thermal ∧ !t.cool) then t else (t.flush true).dark .held

/-- RESET_N_ASSERT (R624). -/
def execResetNAssert (s : State) : Host.Outcome State Fault Refusal := .next (s.onSys Sys.resetHold)

/-- PERST_N is asserted: the PCIe mailbox returns to idle, and the MSI-X table and its enable are at their reset values until
the control host has restored them; BUSY commands of the path go on (22 R627). -/
def Sys.perstAssert (s : Sys) : Sys :=
  (s.modBoot fun b => { b with perst := true }).modMg fun m =>
    { m with
      reqIndex := 0, reqBlock := 0, reqSub := 0, reqOp := 0, reqCount := 1, mbState := 0, mbDone := 0, mbAbort := 0, mbData := []
      pba := 0, msixTab := [], msixOn := false, goIgnored := 0 }

/-- PERST_N_ASSERT (R627). -/
def execPerstNAssert (s : State) : Host.Outcome State Fault Refusal := .next (s.onSys Sys.perstAssert)

/-- PERST_N_RELEASE (R627): the link trains, and the mailbox answers again. -/
def execPerstNRelease (s : State) : Host.Outcome State Fault Refusal :=
  .next (s.onSys fun t => t.modBoot fun b => { b with perst := false })

/-! ## Indicators (22 R638) -/

/-- What an indicator shows. -/
inductive Lamp where
  | off
  | green
  | blinkGreen
  | amber
  | blinkAmber
  deriving DecidableEq, Repr

/-- The front STATUS indicator (22 Table 22-6). -/
def Sys.statusLamp (s : Sys) : Lamp :=
  match s.boot.mode with
  | .off | .held => .off
  | .kindling => .amber
  | .ready => if s.clk.valid then .green else .blinkGreen
  | .thermal | .recovery | .shutdown => .blinkAmber

/-- The unit of a cage is refused: for its power, now (13 R406, 22 R630), or by a port that it does not fit (13 R406). -/
def Sys.unitRefused (c : Nat) (s : Sys) : Bool :=
  let x := s.cage c
  match x.unit with
  | none => false
  | some u =>
    !s.boot.j2Lost && !x.off && s.boot.mode != .off &&
      ((x.lowPower && (s.ports.cageQueue.contains c || decide (s.cagePwr c < u.maxPower))) ||
        x.told.any fun p => s.configured p && !s.unitFits p u)

/-- A cage's indicator; among the ports of one cage MAINTENANCE comes before TRAINING and SEASONING, and those before UP (22 R638;
the order is log 136). -/
def Sys.cageLamp (c : Nat) (s : Sys) : Lamp :=
  let has (l : List PState) : Bool := (s.cagePorts c).any fun p => l.contains (s.port p).st
  if s.unitRefused c || has [.maintenance] then .amber
  else if has [.training, .seasoning] then .blinkGreen
  else if has [.up] then .green
  else .off

end Sys2Proof.Machine
end

