-- ==== Sys2Proof/Machine/Objects.lean ====
section
/-! DEFINITION. The object dictionary: every object, its blocks and sub-indices with their widths and access (18 R528-R532),
and what a read of each returns. -/

namespace Sys2Proof.Machine

/-! ## Objects and sub-indices -/

/-- Access of a sub-index (00 Table 00-2; RWS is written as RW is). -/
inductive Acc where
  | ro | rw | wo
  deriving DecidableEq, Repr

/-- The sub-indices `lo` to `hi` of an object: width of each value in bytes, and access. -/
structure Span where
  lo : Nat
  hi : Nat
  width : Nat
  acc : Acc
  deriving DecidableEq, Repr

/-- Bytes that a value of the span takes on a path: its width rounded up to a multiple of 4 (18 R530). -/
def Span.packed (x : Span) : Nat := (x.width + 3) / 4 * 4

/-- UINT32 or INT32 sub-indices, read only. -/
def r4 (lo hi : Nat) : Span := { lo, hi, width := 4, acc := .ro }

/-- UINT32 or INT32 sub-indices, read and written. -/
def w4 (lo hi : Nat) : Span := { lo, hi, width := 4, acc := .rw }

/-- A UINT32 sub-index, written only. -/
def o4 (i : Nat) : Span := { lo := i, hi := i, width := 4, acc := .wo }

/-- UINT64, OCTETS or UTF8 sub-indices of `n` bytes, read only. -/
def rn (n lo hi : Nat) : Span := { lo, hi, width := n, acc := .ro }

/-- UINT64 or OCTETS sub-indices of `n` bytes, read and written. -/
def wn (n lo hi : Nat) : Span := { lo, hi, width := n, acc := .rw }

/-- The sub-indices of a command object (04 Table 04-4), without CURSOR. -/
def cmdSpans : List Span := [w4 0 0, r4 1 2, w4 0x10 0x30, r4 0x40 0x60]

/-- The sub-indices of a family of fixed counters: its selector, the item (log 13 numbers them), the count, its snapshot. -/
def famSpans : List Span := [w4 0 1, rn 8 2 3]

/-- The scheduler settings of objects 0x2030 and 0xA002 (11 Table 11-1). -/
def schedSpans : List Span := [w4 0 6, w4 0x10 0x16, w4 0x20 0x26]

/-- The sub-indices of a unit's counters (20 R585); unit 20 has four. -/
def unitSpans (unit : Nat) (acc : Acc) : List Span :=
  let n := if unit = 20 then 4 else 8
  [rn 8 0 0, { lo := 1, hi := n, width := 4, acc }, { lo := 0x10, hi := 0x0F + n, width := 4, acc },
    { lo := 0x18, hi := 0x17 + n, width := 4, acc }, r4 0x20 0x20]

/-- An object of the dictionary: its blocks, and the sub-indices of a block. -/
structure Obj where
  blocks : Nat := 1
  spans : List Span
  deriving DecidableEq, Repr

/-- Objects 0x1000-0x1FFF (18). -/
def objects1 (index : Nat) : Option Obj :=
  match index with
  | 0x1000 => some { spans := [rn 16 0 3, r4 4 7] }
  | 0x1001 => some { spans := [w4 0 1] }
  | 0x1002 => some { blocks := 4, spans := [wn 12 0 255] }
  | 0x1010 => some { spans := [w4 0 6, rn 8 7 8] }
  | 0x1011 => some { spans := [w4 0 0] }
  | 0x1012 => some { spans := [w4 0 1, rn 8 2 2] }
  | 0x1020 => some { spans := [w4 0 1, wn 8 2 2, w4 3 3, o4 4, r4 5 5, w4 6 6, w4 0x40 0xFF] }
  | 0x1030 => some { spans := [r4 0 2, o4 3] }
  | 0x1040 => some { spans := [r4 0 3] }
  | 0x1041 => some { spans := [o4 0, o4 1] }
  | 0x1050 => some { spans := [r4 0 2, o4 3, o4 4, r4 5 5, w4 6 6] }
  | _ => none

/-- Objects 0x2000-0x2FFF (03, 05, 11, 12, 13, 15). -/
def objects2 (index : Nat) : Option Obj :=
  match index with
  | 0x2000 => some { spans := [w4 0 4] }
  | 0x2001 => some { spans := [w4 0 0, r4 1 8] }
  | 0x2002 => some { spans := [w4 0 0, r4 1 3] }
  | 0x2004 => some { spans := cmdSpans }
  | 0x2005 => some { spans := [w4 0 1, r4 2 3] }
  | 0x2006 => some { spans := [w4 0 8] }
  | 0x2010 => some { blocks := 4, spans := [w4 0 255] }
  | 0x2020 => some { blocks := 4, spans := [rn 8 0 255] }
  | 0x2030 => some { spans := schedSpans }
  | 0x2031 => some { spans := [w4 0 3, o4 4, r4 5 7, w4 0x10 0x4F] }
  | 0x2033 => some { spans := [w4 0 0, r4 1 3] }
  | 0x2040 => some { spans := [w4 0 2, r4 3 4] }
  | 0x2041 => some { blocks := 4, spans := [wn 1 0 255] }
  | 0x2042 => some { spans := cmdSpans }
  | 0x2043 => some { spans := [w4 0 0, r4 1 5] }
  | 0x2050 => some { spans := [w4 0 0, r4 1 4, rn 8 5 5, r4 6 6] }
  | 0x2051 => some { spans := cmdSpans }
  | _ => none

/-- Objects 0x3000-0x4FFF (03, 04, 06, 07, 08). -/
def objects3 (index : Nat) : Option Obj :=
  match index with
  | 0x3001 => some { spans := [w4 0 0] }
  | 0x3002 => some { spans := [w4 0 1] }
  | 0x3003 => some { spans := [w4 0 0] }
  | 0x3010 => some { spans := [w4 0 1] }
  | 0x3020 => some { spans := w4 3 3 :: cmdSpans }
  | 0x3021 => some { spans := [r4 0 7] }
  | 0x3022 => some { spans := [r4 0 1] }
  | 0x3040 => some { blocks := 32, spans := [w4 0 255] }
  | 0x3050 => some { blocks := 256, spans := [w4 0 255] }
  | 0x4010 => some { spans := cmdSpans }
  | 0x4011 => some { spans := [w4 0 0, r4 1 5, rn 8 6 10] }
  | 0x4020 => some { spans := cmdSpans }
  | 0x4021 => some { spans := [w4 0 0, r4 1 8, rn 8 9 9] }
  | 0x4022 => some { spans := [w4 0 1, r4 2 6] }
  | 0x4060 => some { spans := [w4 0 2, r4 3 3, rn 8 4 5] }
  | 0x4061 => some { spans := [rn 8 0 15] }
  | _ => none

/-- Objects 0x5000-0x7FFF (05, 09, 10, 14, 16, 17). -/
def objects5 (index : Nat) : Option Obj :=
  match index with
  | 0x5000 => some { spans := [r4 0 9] }
  | 0x5001 => some { spans := [w4 0 4] }
  | 0x5002 => some { spans := [w4 0 0, r4 1 3, rn 8 4 5, r4 6 7] }
  | 0x5010 => some { spans := [w4 0 3] }
  | 0x5011 => some { spans := [rn 8 0 1, r4 2 2] }
  | 0x5020 => some { spans := cmdSpans }
  | 0x5021 => some { spans := [w4 0 2, r4 3 9] }
  | 0x5022 => some { spans := [w4 0 2, r4 3 3] }
  | 0x5030 => some { spans := [w4 0 0] }
  | 0x5031 => some { spans := [r4 0 7] }
  | 0x5032 => some { spans := [w4 0 0, r4 1 16] }
  | 0x5040 => some { spans := cmdSpans }
  | 0x5041 => some { spans := [w4 0 0, r4 1 10, w4 11 11, r4 12 12] }
  | 0x6000 => some { spans := [w4 0 1] }
  | 0x6001 => some { spans := [r4 0 8] }
  | 0x6002 => some { spans := [w4 0 0, r4 1 7] }
  | 0x7000 => some { spans := [r4 0 10] }
  | 0x7001 => some { spans := [w4 0 7, o4 8, o4 9] }
  | 0x7002 => some { spans := [w4 0 2, r4 3 3] }
  | _ => none

/-- Objects 0x8000-0xFFFF (17, 18, 19, 20). -/
def objects8 (index block : Nat) : Option Obj :=
  match index with
  | 0x8001 => some { blocks := 2, spans := [r4 0 0, rn 768 1 10] }
  | 0x8020 => some { spans := [o4 0, r4 1 1, wn 768 0x10 0x13, rn 768 0x20 0x24] }
  | 0x8030 => some { blocks := 8, spans := [wn 32 0 0, w4 1 1] }
  | 0x8040 => some { spans := cmdSpans }
  | 0x8041 => some { spans := [r4 0 9] }
  | 0x9000 => some { spans := [o4 0, w4 1 2, r4 3 5] }
  | 0x9001 => some { blocks := 21, spans := unitSpans block .rw }
  | 0x9002 => some { blocks := 21, spans := unitSpans block .ro }
  | 0x9010 | 0x9011 | 0x9012 | 0x9020 | 0x9021 | 0x9022 | 0x9030 | 0x9031 | 0x9032 | 0x9050 | 0x9060 | 0x9070 =>
    some { spans := famSpans }
  | 0x9080 => some { spans := [w4 0 0, rn 8 1 2, w4 3 3, rn 48 4 4, rn 8 5 5] }
  | 0x9090 => some { spans := [w4 0 1, r4 2 5] }
  | 0xA000 => some { spans := [w4 0 0, r4 1 3] }
  | 0xA001 => some { spans := [w4 0 5] }
  | 0xA002 => some { spans := schedSpans }
  | 0xF000 => some { spans := [w4 0 0, rn 8 1 2, rn 64 3 3, rn 8 4 4] }
  | 0xF001 => some { spans := [r4 0 1, rn 8 2 2, r4 3 3] }
  | _ => none

/-- The object of an index. -/
def object (index block : Nat) : Option Obj :=
  if index < 0x2000 then objects1 index
  else if index < 0x3000 then objects2 index
  else if index < 0x5000 then objects3 index
  else if index < 0x8000 then objects5 index
  else objects8 index block

/-- The sub-index at an address, or the first check of the address that fails (18 R528). -/
def place (index block sub : Nat) : Except Word Span :=
  match object index block with
  | none => .error mgtNoobj
  | some o =>
    if o.blocks ≤ block then .error mgtNoblock
    else
      match o.spans.find? fun x => x.lo ≤ sub && sub ≤ x.hi with
      | none => .error mgtNosub
      | some x => .ok x

/-- The command object at an index. -/
def slotAt (index : Nat) : Option SlotObj := slotObjs.find? fun o => o.index == index

/-! ## Values -/

/-- A number as 4 bytes: of a longer count, the low word (20 R581). -/
def u4 (n : Nat) : List Byte := toBe 4 n

/-- A number as 8 bytes. -/
def u8 (n : Nat) : List Byte := toBe 8 n

/-- A signed number as 4 bytes. -/
def i4 (x : Int) : List Byte := toBe 4 (twos 32 x)

/-- A word as 4 bytes. -/
def wd (w : Word) : List Byte := toBe 4 w.toNat

/-- A text of at most 16 bytes. -/
def text (t : String) : List Byte := fit 16 (ascii t)

/-- A command slot (04 Table 04-4). -/
def Slot.view (sl : Slot) (sub : Nat) : List Byte :=
  if sub = 0 then wd sl.cmd
  else if sub = 1 then wd sl.status
  else if sub = 2 then wd sl.abort
  else if sub = 3 then wd sl.cursor
  else if sub < 0x40 then wd (sl.arg (sub - 0x10))
  else wd (getD sl.res (sub - 0x40) 0)

/-- A cabling map entry (18 Table 18-15). -/
def Cabling.bytes (c : Cabling) : List Byte :=
  u4 (c.dtype.toNat * 2 ^ 28 + c.plane.toNat * 2 ^ 24 + c.group.toNat * 2 ^ 16 + c.index.toNat * 2 ^ 8) ++
    u4 (c.pport.toNat * 2 ^ 22) ++ wd c.egei

/-- The bulk slot that a path has selected (18 Table 18-9). -/
def Sys.bulkOf (path : Path) (s : Sys) : Bulk := getD s.mg.bulk (bulkKey path (fld (s.selOf path 0x1020 0) 3 0)) {}

/-- Objects 0x1000-0x1FFF. -/
def view1 (path : Path) (index block sub : Nat) (s : Sys) : List Byte :=
  match index, sub with
  | 0x1000, 0 => text "Ikiriwell"
  | 0x1000, 1 => text "GZS-1024"
  | 0x1000, 2 => text "A1"
  | 0x1000, 3 => fit 16 Config.serial
  | 0x1000, 4 => wd (s.image s.sec.running).fwver
  | 0x1000, 5 => u4 (b2n s.sec.running)
  | 0x1000, 6 => u4 1
  | 0x1000, _ => wd Config.dictVersion
  | 0x1001, 0 => u4 (s.nv.plane.toNat * 2 ^ 28 + s.nv.group.toNat * 2 ^ 20 + s.nv.index.toNat * 2 ^ 12)
  | 0x1001, _ => u4 (b2n s.nv.coordValid)
  | 0x1002, _ => (getD s.nv.cabling (256 * block + sub) {}).bytes
  | 0x1010, 6 => wd s.nv.mgtPort
  | 0x1010, 7 => u8 (Config.macAddress 0).toNat
  | 0x1010, 8 => u8 (Config.macAddress 1).toNat
  | 0x1010, k => wd (nth s.nv.eth k 0)
  | 0x1011, _ => wd s.nv.owner
  | 0x1012, 0 => wd s.nv.nodeId
  | 0x1012, 1 => wd s.nv.totmr
  | 0x1012, _ => u8 (Config.macAddress 2).toNat
  | 0x1020, 0 => wd (s.selOf path 0x1020 0)
  | 0x1020, 1 => u4 (s.bulkOf path).kind.toNat
  | 0x1020, 2 => u8 (s.bulkOf path).addr.toNat
  | 0x1020, 3 => wd (s.bulkOf path).len
  | 0x1020, 5 => wd (s.bulkOf path).handle
  | 0x1020, _ => wd (getD s.mg.offset (pathNum path) 0)
  | 0x1030, 0 => u4 (b2n s.boot.cd2Active + 2 * s.boot.standby.toNat)
  | 0x1030, 1 => wd s.nv.failovers
  | 0x1030, _ => u4 s.nv.fcause.toNat
  | 0x1040, 0 => u4 s.jr.used
  | 0x1040, 1 => wd s.nv.epoch
  | 0x1040, 2 => wd s.jr.lastFlush
  | 0x1040, _ => wd s.nv.dropped
  | 0x1050, 0 => u4 s.boot.phase.toNat
  | 0x1050, 1 => u4 s.boot.cause.toNat
  | 0x1050, 2 => wd s.boot.tready
  | 0x1050, 5 => wd s.nv.boots
  | _, _ => u4 (b2n s.nv.autoReset)

/-- The forwarding record of a port (03 Table 03-6). -/
def Sys.recordOf (p : Nat) (s : Sys) : Nat :=
  (s.dir p).toNat * 2 ^ 14 + b2n (s.pfence p) * 2 ^ 13 + s.hw p * 2 ^ 10 + s.level p * 2 ^ 4

/-- The clean time of a port in ns (13 R414). -/
def Sys.cleanNs (p : Nat) (s : Sys) : Nat :=
  match (s.port p).cleanStart with
  | some t => s.clk.mono - t
  | none => (s.port p).cleanHeld

/-- State of a lane: 0 unused, 1 active, 2 removed by degrade (13 Table 13-10). -/
def Sys.laneState (l : Nat) (s : Sys) : Nat :=
  if (s.portOfLane l).isNone then 0 else if (getD s.ports.lane l {}).removed then 2 else if s.laneActive l then 1 else 0

/-- Scheduler settings by sub-index (11 Table 11-1). -/
def Sched.view (c : Sched) (sub : Nat) : List Byte :=
  if sub < 0x10 then u4 (nth c.quantum (sub - 1) 0)
  else if sub < 0x20 then u4 (nth c.rate (sub - 0x10) 0)
  else u4 (nth c.burst (sub - 0x20) 0)

/-- State code of a plan (12 Table 12-9). -/
def PlanSt.code : PlanSt → Nat
  | .held => 1
  | .pending => 2
  | .draining => 3
  | .moving => 4
  | .rejoining => 5
  | .done => 6
  | .failed => 7
  | .missed => 8
  | .cancelled => 9

/-- State code of a Felt link (15 Table 15-9). -/
def LinkSt.code : LinkSt → Nat
  | .down => 0
  | .training => 1
  | .agreeing => 2
  | .full => 3
  | .reduced => 4

/-- The last plan of an ID (12 Table 12-9). -/
def Sys.planView (id : Word) (sub : Nat) (s : Sys) : List Byte :=
  match (s.ocs.plans.filter fun p => p.id == id).getLast? with
  | none => u4 0
  | some p =>
    match sub with
    | 1 => u4 p.st.code
    | 2 =>
      let good (e : PlanEntry) : Bool := !e.failed && (e.complete || (s.port e.port.toNat).st == .up)
      u4 ((p.entries.filter fun e => e.failed).length * 65536 + (p.entries.filter good).length)
    | 3 => wd p.cause
    | 4 => wd p.tdrain
    | _ => wd p.treflip

/-- A cage (13 Table 13-4). -/
def Sys.cageView (c sub : Nat) (s : Sys) : List Byte :=
  let x := s.cage c
  match sub with
  | 1 => u4 (s.cagePwr c)
  | 2 =>
    match x.unit with
    | some u => u4 (1 + 2 * b2n x.lowPower + 4 * u.linkClass.toNat)
    | none => u4 0
  | _ => i4 x.monitors.temp.toInt

/-- A port's status (13 Table 13-9). -/
def Sys.portView (p sub : Nat) (s : Sys) : List Byte :=
  let q := s.port p
  match sub with
  | 1 => u4 (q.st.code + q.peerState.toNat * 2 ^ 8 + b2n (s.season p).hist * 2 ^ 16)
  | 2 => u4 q.active.toNat
  | 3 => u4 (min (2 ^ 32 - 1) (s.cleanNs p / 1000000000))
  | 4 => u4 (q.peer.plane.toNat * 2 ^ 28 + q.peer.dtype.toNat * 2 ^ 24 + q.peer.group.toNat * 2 ^ 16 + q.peer.index.toNat * 2 ^ 8)
  | 5 => u4 q.peer.pport.toNat
  | 6 => u4 q.fault.toNat
  | 7 => wd q.faultTime
  | _ => u4 q.attempts

/-- A gate list (11 Table 11-3). -/
def Sys.gateView (p sub : Nat) (s : Sys) : List Byte :=
  let e := s.eg p
  match sub with
  | 1 => u4 (s.defGates p).toNat
  | 2 => wd e.nentry
  | 3 => wd e.base
  | 5 => wd (s.gateState p)
  | 6 => match e.running with | some g => u4 g.cycle | none => u4 0
  | 7 =>
    match (if s.clk.valid then e.pending else none), e.running with
    | some g, _ => u4 g.start.toNat
    | none, some g => u4 g.start.toNat
    | none, none => u4 0
  | k => wd (getD e.admin (k - 0x10) 0xFF000000)

/-- A Felt link (15 Table 15-9). -/
def Sys.linkView (l sub : Nat) (s : Sys) : List Byte :=
  match sub with
  | 1 => u4 (s.link l).st.code
  | 2 => u4 (s.agreed l).gen.toNat
  | 3 => u4 (s.agreed l).mask.toNat
  | 4 => u4 (s.agreed l).spares
  | 5 => u8 (s.link l).retry.toNat
  | _ => wd (s.link l).cause

/-- Objects 0x2000-0x2FFF. -/
def view2 (path : Path) (index block sub : Nat) (s : Sys) : List Byte :=
  let sel := s.selOf path index 0
  let p := sel.toNat % 1024
  let q := 256 * block + sub
  match index, sub with
  | 0x2000, 1 => u4 (s.pcfg p).width
  | 0x2000, 2 => u4 (s.pcfg p).cls.toNat
  | 0x2000, 3 => u4 (b2n (s.pcfg p).enable)
  | 0x2000, 4 => u4 (b2n (s.pcfg p).degrade)
  | 0x2001, k + 1 => s.portView p (k + 1)
  | 0x2002, 1 => u4 (s.laneState p)
  | 0x2002, 2 => wd (getD s.ports.lane p {}).ber
  | 0x2002, 3 => wd (getD s.ports.lane p {}).margin
  | 0x2005, k + 1 => s.cageView (sel.toNat % 128) (k + 1)
  | 0x2006, 8 => wd s.nv.fnlLocal
  | 0x2006, k => wd (nth s.nv.fnl k 0)
  | 0x2010, _ => u4 (s.recordOf q)
  | 0x2020, _ =>
    let w := (s.pcfg q).width
    u8 (allot w 0 * 2 ^ 48 + allot w 1 * 2 ^ 32 + allot w 2 * 2 ^ 16 + allot w 3)
  | 0x2030, k + 1 => (getD s.nv.sched p {}).view (k + 1)
  | 0x2031, k + 1 => s.gateView p (k + 1)
  | 0x2033, 1 => u4 (s.port p).c7max
  | 0x2033, 2 => u4 (getD s.cnt.fixed (ctrKey 0x9020 (8 * p + 7) 5) 0).toNat
  | 0x2033, 3 => u4 (getD s.cnt.fixed (ctrKey 0x9020 (8 * p + 7) 6) 0).toNat
  | 0x2040, 0 => u4 s.nv.demExp
  | 0x2040, 1 => wd s.nv.demDest
  | 0x2040, 2 => u4 s.nv.demTc.toNat
  | 0x2040, 3 => wd s.ocs.snap
  | 0x2040, _ => wd s.ocs.snapTime
  | 0x2041, _ => u4 (getD s.nv.demandBucket q (BitVec.ofNat 6 (q / 16))).toNat
  | 0x2043, k + 1 => s.planView sel (k + 1)
  | 0x2050, k + 1 => s.linkView (fld sel 5 0) (k + 1)
  | _, _ => wd sel

/-- Occupancy of the tables: entries and overflow entries of exact match and LPM, version 0 then 1 (04 R145). -/
def Sys.occupancy (sub : Nat) (s : Sys) : Nat :=
  let v := s.tab.ver (sub % 2 == 1)
  match sub / 2 with
  | 0 => v.em.length
  | 1 => (v.em.filter fun e => emRegions.ovf ≤ e.1).length
  | 2 => v.lpm.length
  | _ => (v.lpm.filter fun e => lpmRegions.ovf ≤ e.1).length

/-- State code of a context (07 Table 07-3). -/
def CtxSt.code : CtxSt → Nat
  | .active => 1
  | .complete => 2
  | .aborted => 3
  | .closing => 4
  | .stale => 5

/-- A context's status (07 Table 07-13). -/
def Sys.ctxView (c sub : Nat) (s : Sys) : List Byte :=
  match get? s.coll.ctx c with
  | none => if sub < 6 then u4 0 else u8 0
  | some x =>
    match sub with
    | 1 => u4 x.st.code
    | 2 => wd x.cause
    | 3 => u4 x.low
    | 4 => u4 x.done
    | 5 => u4 x.excl.length
    | 6 => u8 x.deckle.toNat
    | 7 => u8 x.badDeckle.toNat
    | 8 => u8 x.dup.toNat
    | 9 => u8 x.resent.toNat
    | _ => u8 x.reset.toNat

/-- A graph's status (08 Table 08-12). -/
def Sys.graphView (gid sub : Nat) (s : Sys) : List Byte :=
  if sub = 9 then u8 (sum (s.graphs.graph.map fun e => e.2.bytes))
  else
    match get? s.graphs.graph gid with
    | none => u4 0
    | some g =>
      let n (st : NodeSt) : Nat := (g.nodes.filter fun x => x.st == st).length
      match sub with
      | 1 => u4 g.st.code
      | 2 => wd g.cookie
      | 3 => u4 (g.jtag.toNat * 2 ^ 16 + g.jgen.toNat * 2 ^ 8)
      | 4 => u4 (n .done)
      | 5 => u4 (n .running)
      | 6 => u4 (n .ready)
      | 7 => wd g.cause
      | _ => u4 g.failNode

/-- State code of a node (08 Table 08-9). -/
def NodeSt.code : NodeSt → Nat
  | .pending => 0
  | .ready => 1
  | .running => 2
  | .done => 3
  | .failed => 4
  | .cancelled => 5

/-- A node's status (08 Table 08-13). -/
def Sys.nodeView (gid node sub : Nat) (s : Sys) : List Byte :=
  match (get? s.graphs.graph gid).bind fun g => g.nodes[node]? with
  | none => u4 0
  | some n =>
    match sub with
    | 2 => u4 (n.st.code + 8 * b2n n.partialDone)
    | 3 => wd n.cause
    | 4 => wd n.tready
    | 5 => wd n.tstart
    | _ => wd n.tdone

/-- The diagnostic read of one element (06 R197): its state word, or a lane. An element of Bitwise or weighted XOR has no state
word; its lane is that of its group of 8, element 8k in the most significant byte (log 170). What is not in flight reads 0 (log
32). -/
def Sys.elemView (ctx tile elem sub : Nat) (s : Sys) : List Byte :=
  match get? s.coll.ctx ctx with
  | none => if sub = 3 then u4 0 else u8 0
  | some x =>
    let a := x.desc.arith
    let t := (get? x.tiles tile).getD {}
    if a.op.toNat = 3 ∨ a.op.toNat = 4 then
      let l := if a.op.toNat = 3 then t.xor else t.wxor
      if sub = 3 then u4 0 else if sub = 4 then bytesAt l (elem / 8 * 8) 8 else u8 0
    else
      match t.elems[elem]? with
      | none => if sub = 3 then u4 0 else u8 0
      | some e =>
        if sub = 3 then wd (e.stateWord a.op.toNat a.ifmt.toNat) else u8 (nth (e.lanes a.op.toNat a.ifmt.toNat) (sub - 4) 0)

/-- Objects 0x3000-0x4FFF. -/
def view3 (path : Path) (index block sub : Nat) (s : Sys) : List Byte :=
  let sel := s.selOf path index 0
  match index, sub with
  | 0x3001, _ => u4 s.nv.drainBound
  | 0x3002, k => u4 (s.verState (k == 1)).toNat
  | 0x3003, _ => u4 (b2n s.fwd.epoch)
  | 0x3010, k => wd (s.tab.ver (k == 1)).seed
  | 0x3021, k => u4 (s.occupancy k)
  | 0x3022, 0 => u4 s.tab.full0.toNat
  | 0x3022, _ => u4 s.tab.full1.toNat
  | 0x3040, k => wd (getD s.fwd.fence (256 * block + k) 0)
  | 0x3050, k => u4 (getD s.fwd.owners (256 * block + k) 0xFFFF).toNat
  | 0x4011, k + 1 => s.ctxView (fld sel 13 0) (k + 1)
  | 0x4021, k + 1 => s.graphView (fld sel 9 0) (k + 1)
  | 0x4022, k + 2 => s.nodeView (fld sel 9 0) (fld (s.selOf path index 1) 15 0) (k + 2)
  | 0x4060, k + 3 =>
    s.elemView (fld sel 13 0) (s.selOf path index 1).toNat (s.selOf path index 2).toNat (k + 3)
  | 0x4061, k =>
    match k / 4 with
    | 0 => u8 (getD s.coll.added (k % 4) 0).toNat
    | 1 => u8 (getD s.coll.escapes (k % 4) 0).toNat
    | 2 => u8 (getD s.coll.tileResets (k % 4) 0).toNat
    | _ => u8 (s.vats (k % 4)).length
  | _, k => wd (s.selOf path index k)

/-- State code of a broadcast object (09 Table 09-5). -/
def BcSt.code : BcSt → Nat
  | .active => 1
  | .complete => 2
  | .failed => 3
  | .closing => 4
  | .stale => 5

/-- State code of a Quire slot (10 Table 10-7). -/
def QSt.code : QSt → Nat
  | .ready => 1
  | .updating => 2
  | .rebuilding => 3
  | .degraded => 4
  | .lost => 5

/-- State code of a flow context (05 Table 05-5). -/
def FlowSt.code : FlowSt → Nat
  | .opened => 1
  | .closing => 2
  | .stale => 3

/-- The service area of a flow context of the broadcast service; the other services keep none (09 Table 09-11). -/
def Flow.area (f : Flow) : List Byte :=
  if f.svc = 2 then
    wd f.obj ++ u4 (if f.outbound then f.ridx * 2 ^ 16 + f.rmode * 2 ^ 13 else 0) ++ toBe 16 f.graft.toNat ++ List.replicate 168 0
  else List.replicate 192 0

/-- The 256 bytes of a flow context (05 Table 05-5). -/
def Flow.bytes (f : Flow) : List Byte :=
  wd f.peer ++ u4 (f.flow.toNat * 2 ^ 8 + 2 ^ 7 + b2n f.outbound * 2 ^ 6 + f.st.code * 2 ^ 3) ++
    u4 (f.jtag.toNat * 2 ^ 16 + f.jgen.toNat * 2 ^ 8 + f.svc.toNat) ++ wd f.ack ++ wd f.limit ++ wd f.next ++
    u8 (ackMap 64 f.ack f.got) ++ wd f.last ++ wd (if f.outbound then f.oldest else f.hts) ++ wd f.gseq ++ u4 f.win.toNat ++
    List.replicate 16 0 ++ f.area

/-- An HBM stack (14 Table 14-6). -/
def Sys.stackView (k sub : Nat) (s : Sys) : List Byte :=
  let x := s.stack k
  match sub with
  | 1 =>
    match get? s.nv.stackLost k with
    | some c => u4 (1 + c.toNat * 2 ^ 8)
    | none => u4 0
  | 2 => u4 x.rate
  | 3 => i4 x.temp
  | 4 => u8 x.ce.toNat
  | 5 => u8 x.ue.toNat
  | 6 => u4 (getD s.nv.remap k []).length
  | _ => wd x.patrol

/-- A broadcast object and one of its receivers (09 Table 09-10). -/
def Sys.bcView (jtag obj : Word) (ridx sub : Nat) (s : Sys) : List Byte :=
  match s.bc.objs.find? fun o => o.jtag.toNat == fld jtag 15 0 && o.obj == obj with
  | none => u4 0
  | some o =>
    let n (m : RMode) : Nat := (o.receivers.filter fun r => r.mode == m).length
    match sub with
    | 3 => u4 (o.st.code + 16 * b2n o.incomplete)
    | 4 => u4 o.fill
    | 5 => u4 o.sent
    | 6 => u4 (n .unreachable * 2 ^ 16 + n .pruned)
    | 7 => match o.receivers[ridx]? with | some r => u4 r.mode.code | none => u4 0
    | 8 => match o.receivers[ridx]? with | some r => wd r.ack | none => u4 0
    | _ => wd o.cause

/-- A Quire slot (10 Table 10-7). -/
def Sys.quireView (q midx sub : Nat) (s : Sys) : List Byte :=
  if sub = 10 then u4 ((s.vaultRegion - s.vaultUsed) / 2 ^ 20)
  else
    match get? s.vault.slot q with
    | none => u4 0
    | some x =>
      let lost (i : Nat) : List Byte := match x.lost[i]? with | some v => u4 (2 ^ 31 + v) | none => u4 0
      match sub with
      | 1 => u4 (x.st.code + 8 * b2n x.valid)
      | 2 => u4 (x.jtag.toNat * 2 ^ 16 + x.lastGen.toNat * 2 ^ 8 + (x.members.length - 1))
      | 3 => u4 x.nstripe
      | 4 => wd x.cv
      | 5 => u4 x.staged.length
      | 6 => lost 0
      | 7 => lost 1
      | 8 => u4 x.bad.length
      | 9 => wd x.cause
      | _ => wd (nth x.members midx 0)

/-- Objects 0x5000-0x5FFF. -/
def view5 (path : Path) (index sub : Nat) (s : Sys) : List Byte :=
  let sel (k : Nat) : Word := s.selOf path index k
  let tag : BitVec 16 := BitVec.ofNat 16 (fld (sel 0) 15 0)
  match index, sub with
  | 0x5000, 8 => u4 s.mem.alloc
  | 0x5000, 9 => u4 (sum (s.liveStacks.map fun k => 2 ^ k))
  | 0x5000, k => u4 (nth (regionSizes s.mem.alloc) k 0)
  | 0x5001, 0 => u4 s.nv.mem.scrubHrs
  | 0x5001, 1 => u4 s.nv.mem.spareThr
  | 0x5001, 2 => u4 (b2n s.nv.mem.rotate)
  | 0x5001, 3 => u4 s.nv.mem.rotHrs
  | 0x5001, _ => u4 (b2n s.nv.mem.startTest)
  | 0x5002, k + 1 => s.stackView (fld (sel 0) 4 0) (k + 1)
  | 0x5010, 0 => u4 s.nv.spill.high
  | 0x5010, 1 => u4 s.nv.spill.low
  | 0x5010, 2 => u4 s.nv.spill.qmin
  | 0x5010, _ => u4 (b2n (s.nv.spill.enable && s.hbmServices))
  | 0x5011, 0 => u8 s.sw.spillHeld
  | 0x5011, 1 => u8 s.sw.spillMax
  | 0x5011, _ => wd s.sw.spillDry
  | 0x5021, k + 3 => s.bcView (sel 0) (sel 1) (sel 2).toNat (k + 3)
  | 0x5022, 1 => u4 (getD s.bc.quota tag.toNat 0)
  | 0x5022, 2 => u4 (getD s.bc.weight tag.toNat 8)
  | 0x5022, 3 => u4 ((s.bcUsed tag + 2 ^ 20 - 1) / 2 ^ 20)
  | 0x5030, _ => u4 s.nv.flowIdle
  | 0x5031, k => if k < 4 then u4 (s.flows.ctx.filter fun e => e.2.home == k).length else wd (getD s.flows.misses (k - 4) 0)
  | 0x5032, k + 1 =>
    match get? s.flows.ctx (sel 0).toNat with
    | some f => bytesAt f.bytes (4 * k) 4
    | none => u4 0
  | 0x5041, 11 => wd (sel 11)
  | 0x5041, k + 1 => s.quireView (fld (sel 0) 11 0) (fld (sel 11) 7 0) (k + 1)
  | _, k => wd (sel k)

/-- Sensors of a unit (17 Table 17-12). -/
def Sys.sensorView (u sub : Nat) (s : Sys) : List Byte :=
  let h := s.hearth
  match sub with
  | 1 => i4 (getD h.tj u 0)
  | 2 => u4 (getD h.vrail u 0)
  | 3 => u4 (getD h.prail u 0)
  | 4 => u4 (if 16 ≤ u then nth h.opPoint (u - 16) 0 else 0)
  | 5 => i4 h.tinlet
  | 6 => i4 h.toutlet
  | _ => u4 h.flow

/-- OFFSET of object 0x7000: the last measured offset, a free view of it where it does not fit (16 R492; log 28). -/
def offsetWord (x : Int) : Word :=
  if -2147483648 ≤ x ∧ x ≤ 2147483647 then BitVec.ofInt 32 x else Config.offsetView x

/-- Time status (16 Table 16-4). -/
def Sys.timeView (path : Path) (sub : Nat) (s : Sys) : List Byte :=
  let c := s.clk
  match sub with
  | 0 => wd s.now
  | 1 => u4 (c.ext.toNat / 2 ^ 32)
  | 2 => wd (getD c.extLo (pathNum path) 0)
  | 3 => u4 (b2n c.valid + 2 * b2n c.holdover + 4 * b2n c.refInUse + c.kind.toNat * 2 ^ 4 + c.srcPort.toNat * 2 ^ 8)
  | 4 => wd (offsetWord c.offset)
  | 5 => i4 c.rate
  | 6 => u4 (if c.holdover then (c.mono - c.holdStart) / 1000000000 else 0)
  | 7 => wd c.steps
  | 8 => u4 (c.ppsCapture.toNat / 2 ^ 32)
  | 9 => u4 c.ppsCapture.toNat
  | _ => wd c.ppsCount

/-- Objects 0x6000-0x7FFF and 0xA000-0xAFFF. -/
def view6 (path : Path) (index sub : Nat) (s : Sys) : List Byte :=
  let sel := s.selOf path index 0
  let p := sel.toNat % 1024
  let f := nth s.nv.profiles (sel.toNat % 4) {}
  match index, sub with
  | 0x6000, 0 => u4 s.nv.budget
  | 0x6000, _ => u4 s.nv.budgetSrc
  | 0x6001, k => wd (nth s.hearth.status k 0)
  | 0x6002, k + 1 => s.sensorView (fld sel 4 0) (k + 1)
  | 0x7000, k => s.timeView path k
  | 0x7001, 0 => u4 s.nv.time.srcPrio.toNat
  | 0x7001, 1 => u4 s.nv.time.stepThr
  | 0x7001, 2 => u4 s.nv.time.holdLim
  | 0x7001, 3 => u4 s.nv.time.ptpDomain.toNat
  | 0x7001, 4 => u4 (b2n s.nv.time.ptpXport)
  | 0x7001, 5 => i4 s.nv.time.ppsOff
  | 0x7001, 6 => u4 s.nv.time.ppsInDly
  | 0x7001, _ => u4 (b2n s.nv.time.refSel)
  | 0x7002, 1 => u4 (b2n (getD s.nv.tsrc p false))
  | 0x7002, 2 => i4 (getD s.nv.asym p 0)
  | 0x7002, 3 => u4 (s.port p).delay
  | 0xA000, 0 => u4 s.nv.select
  | 0xA000, 1 => u4 s.hearth.inForce
  | 0xA000, 2 => u4 s.hearth.pendingProfile
  | 0xA000, _ => u4 s.boot.pins.toNat
  | 0xA001, 1 => u4 f.vfirst
  | 0xA001, 2 => u4 f.wspill
  | 0xA001, 3 => u4 f.wbc
  | 0xA001, 4 => u4 f.wpar
  | 0xA001, 5 => u4 f.units
  | 0xA002, k + 1 => f.sched.view (k + 1)
  | _, _ => wd sel

/-- Objects 0x8000-0x8FFF. -/
def view8 (path : Path) (index block sub : Nat) (s : Sys) : List Byte :=
  let k := pathNum path
  match index, sub with
  | 0x8001, 0 => u4 7592
  | 0x8001, i + 1 => bytesAt (s.chain (2 * block)) (768 * i) 768
  | 0x8020, 1 => u4 (s.session path).st
  | 0x8020, i => if i < 0x20 then bytesAt (getD s.mg.secIn k []) (768 * (i - 0x10)) 768
    else bytesAt (getD s.mg.secOut k []) (768 * (i - 0x20)) 768
  | 0x8030, 0 => fit 32 (getD s.nv.trust block ([], 0)).1
  | 0x8030, _ => u4 (getD s.nv.trust block ([], 0)).2.toNat
  | 0x8041, 0 => wd s.sec.imgA.fwver
  | 0x8041, 1 => wd s.sec.imgA.svn
  | 0x8041, 2 => u4 (b2n s.sec.imgA.valid)
  | 0x8041, 3 => wd s.sec.imgB.fwver
  | 0x8041, 4 => wd s.sec.imgB.svn
  | 0x8041, 5 => u4 (b2n s.sec.imgB.valid)
  | 0x8041, 6 => u4 (b2n s.sec.next)
  | 0x8041, 7 => u4 (b2n s.sec.trial + 2 * s.sec.fails)
  | 0x8041, 8 => wd s.floorNow
  | _, _ => u4 s.revokedNow.toNat

/-- A unit's counters (20 R585), CYCLE in whole clocks. -/
def UnitCtr.view (u : UnitCtr) (tenths sub : Nat) : List Byte :=
  if sub = 0 then u8 (tenths / 10)
  else if sub < 0x10 then wd (getD u.pc (sub - 1) 0)
  else if sub < 0x18 then wd (getD u.cfg (sub - 0x10) 0)
  else if sub < 0x20 then wd (getD u.reload (sub - 0x18) 0)
  else wd u.resets

/-- Objects 0x9000-0x9FFF and 0xF000-0xFFFF, but for the records. -/
def view9 (path : Path) (index block sub : Nat) (s : Sys) : List Byte :=
  let sel := s.selOf path index 0
  let key := ctrKey index sel.toNat (s.selOf path index 1).toNat
  let p := (s.selOf path 0x9090 1).toNat % 1024
  let last := getD s.mg.lastAbort (pathNum path) {}
  match index, sub with
  | 0x9000, 1 => wd s.cnt.atTime
  | 0x9000, 2 => u4 s.cnt.atAct.toNat
  | 0x9000, 3 => u4 (b2n s.cnt.frozen + 2 * b2n s.cnt.armed + 4 * b2n s.cnt.snapFree)
  | 0x9000, 4 => wd s.cnt.snapNum
  | 0x9000, _ => wd s.cnt.snapTime
  | 0x9001, k => (s.unitCtr block).view (s.cycleTenths block) k
  | 0x9002, k => (getD s.cnt.unitSnap block {}).view (getD s.cnt.unitSnap block {}).tenths k
  | 0x9080, 0 => u4 s.nv.sampVec
  | 0x9080, 5 => u8 s.cnt.overwritten.toNat
  | 0x9080, _ => wd (s.selOf path 0x9080 3)
  | 0x9090, 0 => u4 s.nv.wexp
  | 0x9090, 1 => wd (s.selOf path 0x9090 1)
  | 0x9090, 2 => u4 (s.port p).rxBw
  | 0x9090, 3 => u4 (s.port p).txBw
  | 0x9090, 4 => wd s.cnt.wend
  | 0x9090, _ => u4 s.cnt.wflags.toNat
  | 0xF000, 4 => u8 s.cnt.lostRec.toNat
  | 0xF000, _ => wd sel
  | 0xF001, 0 => wd last.code
  | 0xF001, 1 => u4 last.kind.toNat
  | 0xF001, 2 => u8 last.addr.toNat
  | 0xF001, _ => wd last.time
  | _, 2 => u8 (getD s.cnt.fixed key 0).toNat
  | _, 3 => u8 (getD s.cnt.fixedSnap key 0).toNat
  | _, k => wd (s.selOf path index k)

/-- The value of a readable sub-index, packed (18 R530). -/
def view (path : Path) (index block sub : Nat) (s : Sys) : List Byte :=
  match slotAt index with
  | some o => (s.slot o path).view sub
  | none =>
    if index < 0x2000 then view1 path index block sub s
    else if index < 0x3000 then view2 path index block sub s
    else if index < 0x5000 then view3 path index block sub s
    else if index < 0x6000 then view5 path index sub s
    else if index < 0x8000 ∨ index / 0x1000 = 0xA then view6 path index sub s
    else if index < 0x9000 then view8 path index block sub s
    else view9 path index block sub s

/-! ## Reads -/

/-- The number of the oldest or newest record of a buffer; an empty one has none, and a read of it returns a free value (log
33). -/
def recordNum (l : List Word64) (newest : Bool) (s : Sys) : List Byte × Sys :=
  match (if newest then l.getLast? else l.head?) with
  | some n => (u8 n.toNat, s)
  | none =>
    let (i, t) := s.draw
    let (j, u) := t.draw
    (wd (Config.freeWord i) ++ wd (Config.freeWord j), u)

/-- DATAn of the staging at OFFSET (18 R545). -/
def stagingWord (path : Path) (n : Nat) (m : Stores × Sys) : Except Word (List Byte) :=
  let a := (getD m.2.mg.offset (pathNum path) 0).toNat + 4 * n
  if stagingBytes < a + 4 then .error mgtRange else .ok (Memory.readN (m.1.stagingOf m.2.mg.era path) a 4)

/-- A read of a sub-index that exists and may be read, with what the read itself changes: values latched, cleared, or
advanced by it (05 R173, R184; 11 R375; 16 R492; 20 R594, R603). -/
def readSub (path : Path) (index block sub : Nat) (m : Stores × Sys) : Except Word (List Byte × Sys) :=
  let s := m.2
  let v := view path index block sub s
  let p := (s.selOf path index 0).toNat % 1024
  match index, sub with
  | 0x1020, 6 => if path = .pcie then .error mgtPath else .ok (v, s)
  | 0x1020, k =>
    if k < 0x40 then .ok (v, s)
    else if path = .pcie then .error mgtPath
    else (stagingWord path (k - 0x40) m).map fun b => (b, s)
  | 0x2033, 1 => .ok (v, s.modPort p fun q => { q with c7max := 0 })
  | 0x5011, 1 => .ok (v, s.modSw fun w => { w with spillMax := 0 })
  | 0x5031, k => .ok (v, if k < 4 then s else s.modFlows fun f => { f with misses := put f.misses (k - 4) 0 })
  | 0x7000, 1 => .ok (s.readExtHi path)
  | 0x9080, 1 => .ok (recordNum (s.cnt.samples.map fun r => r.num) false s)
  | 0x9080, 2 => .ok (recordNum (s.cnt.samples.map fun r => r.num) true s)
  | 0x9080, 4 => s.readSample path
  | 0xF000, 1 => .ok (recordNum (s.nv.log.map fun r => r.num) false s)
  | 0xF000, 2 => .ok (recordNum (s.nv.log.map fun r => r.num) true s)
  | 0xF000, 3 => s.readLog path
  | _, _ => .ok (v, s)

end Sys2Proof.Machine
end

