-- ==== Sys2Proof/Machine/Dictionary.lean ====
section
/-! DEFINITION. Writes of the dictionary, runs of sub-indices, the mailbox and the dictionary messages (18 R528-R546, R648; 19 R575,
R576). -/

namespace Sys2Proof.Machine

/-! ## Writes -/

/-- A selector whose value has reserved bits from 2^`n` up, and the values below `top`. -/
def selWrite (path : Path) (index sub n top : Nat) (v : Word) (s : Sys) : Except Word Sys :=
  if 2 ^ n ≤ v.toNat then .error mgtReserved else if top ≤ v.toNat then .error mgtRange else .ok (s.setSel path index sub v)

/-- A persisted value with a range (18 R549). -/
def rwsRange (ok : Bool) (f : Persist → Persist) (s : Sys) : Except Word Sys := if ok then s.rws f else .error mgtRange

/-- A write of the coordinates (18 R552). -/
def writeCoord (sub : Nat) (v : Word) (s : Sys) : Except Word Sys :=
  let up := s.ports.port.any fun e => e.2.st == .seasoning || e.2.st == .up || e.2.st == .draining
  if (sub = 0 ∧ fld v 11 0 ≠ 0) ∨ (sub = 1 ∧ 1 < v.toNat) then .error mgtReserved
  else if up then .error mgtState
  else if sub = 0 then
    s.rws fun n =>
      { n with
        plane := BitVec.ofNat 4 (fld v 31 28), group := BitVec.ofNat 8 (fld v 27 20), index := BitVec.ofNat 8 (fld v 19 12) }
  else s.rws fun n => { n with coordValid := v == 1 }

/-- A cabling map entry of 12 bytes (18 Table 18-15). -/
def Cabling.of (b : List Byte) : Cabling :=
  let a := wordAt b 0
  { dtype := BitVec.ofNat 4 (fld a 31 28), plane := BitVec.ofNat 4 (fld a 27 24), group := BitVec.ofNat 8 (fld a 23 16)
    index := BitVec.ofNat 8 (fld a 15 8), pport := BitVec.ofNat 10 (fld (wordAt b 4) 31 22), egei := wordAt b 8 }

/-- A write of a port's cabling map entry (18 R553). -/
def writeCabling (p : Nat) (b : List Byte) (s : Sys) : Except Word Sys :=
  let c := Cabling.of b
  let st := (s.port p).st
  if fld (wordAt b 0) 7 0 ≠ 0 ∨ fld (wordAt b 4) 21 0 ≠ 0 ∨ 4 ≤ c.dtype.toNat then .error mgtReserved
  else if c.egei ≠ 0 ∧ c.dtype ≠ 3 then .error mgtRange
  else if st ≠ .disabled ∧ st ≠ .training ∧ st ≠ .maintenance then .error mgtState
  else s.rws fun n => { n with cabling := put n.cabling p c }

/-- A bulk transfer slot of a path is used by a command that is BUSY (18 R546). -/
def Sys.bulkUsed (key : Nat) (s : Sys) : Bool := s.mg.slots.any fun e => e.2.busy && e.2.uses.contains key

/-- The region that KIND, ADDR and LEN name is one that DEFINE accepts (18 R546). -/
def regionOk (b : Bulk) : Bool :=
  let len := b.len.toNat
  b.addr.toNat % 64 == 0 && len % 64 == 0 && decide (64 ≤ len) && decide (len ≤ 268435456) &&
    (b.kind == 1 || decide (b.addr.toNat + len ≤ stagingBytes))

/-- The handle of a slot (18 Table 18-10). -/
def handleOf (path : Path) (slot : Nat) (gen : BitVec 8) : Word :=
  BitVec.ofNat 32 (pathNum path * 2 ^ 28 + gen.toNat * 2 ^ 20 + slot)

/-- The selected bulk transfer slot of a path, put through `f`. -/
def Sys.modBulk (path : Path) (f : Bulk → Bulk) (s : Sys) : Sys :=
  s.modMg fun m => { m with bulk := put m.bulk (bulkKey path (fld (s.selOf path 0x1020 0) 3 0)) (f (s.bulkOf path)) }

/-- A write of DEFINE (18 R545, R546). -/
def Sys.defineSlot (path : Path) (v : Word) (s : Sys) : Except Word Sys :=
  let slot := fld (s.selOf path 0x1020 0) 3 0
  let b := s.bulkOf path
  if v ≠ 1 then .error mgtRange
  else if s.bulkUsed (bulkKey path slot) then .error mgtBusy
  else if b.kind = 0 then
    .ok (s.modBulk path fun x => { x with gen := x.gen + 1, handle := 0, dKind := 0, dAddr := 0, dLen := 0 })
  else if (b.kind = 3) ≠ (path ≠ .pcie) then .error mgtPath
  else if !regionOk b then .error mgtRange
  else
    .ok (s.modBulk path fun x =>
      { x with
        gen := x.gen + 1, handle := handleOf path slot (x.gen + 1), dKind := x.kind, dAddr := x.addr, dLen := x.len.toNat
        era := s.mg.era })

/-- A write of object 0x1020, but for DATA. -/
def Sys.writeBulk (path : Path) (sub : Nat) (b : List Byte) (s : Sys) : Except Word Sys :=
  let v := wordAt b 0
  match sub with
  | 0 => selWrite path 0x1020 0 4 16 v s
  | 1 => if 3 < v.toNat then .error mgtReserved else .ok (s.modBulk path fun x => { x with kind := BitVec.ofNat 2 v.toNat })
  | 2 => .ok (s.modBulk path fun x => { x with addr := BitVec.ofNat 64 (beAt b 0 8) })
  | 3 => .ok (s.modBulk path fun x => { x with len := v })
  | 4 => s.defineSlot path v
  | _ =>
    if path = .pcie then .error mgtPath
    else if v.toNat % 4 ≠ 0 then .error mgtRange
    else .ok (s.modMg fun m => { m with offset := put m.offset (pathNum path) v })

/-- DATAn is written into the staging at OFFSET (18 R545). -/
def stagingPut (path : Path) (n : Nat) (b : List Byte) (m : Stores × Sys) : Except Word (Stores × Sys) :=
  let a := (getD m.2.mg.offset (pathNum path) 0).toNat + 4 * n
  if path = .pcie then .error mgtPath
  else if stagingBytes < a + 4 then .error mgtRange
  else
    .ok (m.1.modStaging m.2.mg.era path fun x => Memory.writeN x a (bytesAt b 0 4), m.2)

/-- A write of AUTORESET, which a module held in SHUTDOWN or a thermal shutdown also takes: it is in flash before the answer,
since the input may be removed there without loss (21 R618). -/
def writeAutoReset (v : Word) (s : Sys) : Except Word Sys :=
  if 1 < v.toNat then .error mgtReserved
  else
    (s.rws fun n => { n with autoReset := v == 1 }).map fun t =>
      if t.boot.mode = .shutdown ∨ t.boot.mode = .thermal then t.flush true else t

/-- Objects 0x1000-0x1FFF, but for bulk transfer and the effects that follow a response. -/
def write1 (index block sub : Nat) (b : List Byte) (s : Sys) : Except Word Sys :=
  let v := wordAt b 0
  match index, sub with
  | 0x1001, k => writeCoord k v s
  | 0x1002, k => writeCabling (256 * block + k) b s
  | 0x1010, 6 => s.rws fun n => { n with mgtPort := v }
  | 0x1010, k => s.rws fun n => { n with eth := setNth n.eth k v }
  | 0x1012, 0 => rwsRange (1 ≤ v.toNat && v.toNat ≤ 7) (fun n => { n with nodeId := v }) s
  | 0x1012, _ => s.rws fun n => { n with totmr := v }
  | 0x1041, k => s.writeJournal k v
  | 0x1050, 4 => s.writeDieReset v
  | 0x1050, 6 => writeAutoReset v s
  | _, _ => .error mgtReadonly

/-- Objects 0x2000-0x2FFF. -/
def write2 (path : Path) (index block sub : Nat) (b : List Byte) (s : Sys) : Except Word Sys :=
  let v := wordAt b 0
  let q := 256 * block + sub
  match index, sub with
  | 0x2000, k => s.writePortCfg path k v
  | 0x2001, _ => selWrite path 0x2001 0 10 1024 v s
  | 0x2002, _ => selWrite path 0x2002 0 10 1024 v s
  | 0x2005, 0 => selWrite path 0x2005 0 7 128 v s
  | 0x2005, _ =>
    rwsRange (v.toNat ≤ 50) (fun n => { n with cagePwr := put n.cagePwr ((s.selOf path 0x2005 0).toNat % 128) v.toNat }) s
  | 0x2006, 8 => s.rws fun n => { n with fnlLocal := v }
  | 0x2006, k => s.rws fun n => { n with fnl := setNth n.fnl k v }
  | 0x2010, _ => s.writeRecord q v
  | 0x2030, k => s.writeSched path k v
  | 0x2031, k => s.writeGates path k v
  | 0x2033, _ => selWrite path 0x2033 0 10 1024 v s
  | 0x2040, k => s.writeDemand k v
  | 0x2041, _ => s.writeBucket q (BitVec.ofNat 8 v.toNat)
  | 0x2043, _ => .ok (s.setSel path 0x2043 0 v)
  | 0x2050, _ => selWrite path 0x2050 0 6 38 v s
  | _, _ => .error mgtReadonly

/-- Objects 0x3000-0x4FFF. -/
def write3 (path : Path) (index block sub : Nat) (b : List Byte) (s : Sys) : Except Word Sys :=
  let v := wordAt b 0
  let q := 256 * block + sub
  match index, sub with
  | 0x3001, _ => writeDrainBound v s
  | 0x3002, k => writeVersionState (k == 1) v s
  | 0x3003, _ => writeSourceEpoch v s
  | 0x3010, k => writeHashSeed (k == 1) v s
  | 0x3040, _ => s.writeFence q v
  | 0x3050, _ =>
    if 65535 < v.toNat then .error mgtReserved
    else .ok (s.modFwd fun f => { f with owners := put f.owners q (BitVec.ofNat 16 v.toNat) })
  | 0x4011, _ => selWrite path index 0 14 16384 v s
  | 0x4021, _ => selWrite path index 0 10 1024 v s
  | 0x4022, 0 => selWrite path index 0 10 1024 v s
  | 0x4022, _ => selWrite path index 1 16 65536 v s
  | 0x4060, 0 => selWrite path index 0 14 16384 v s
  | 0x4060, k => .ok (s.setSel path index k v)
  | _, _ => .error mgtReadonly

/-- A write of the spill parameters (05 R168, Table 05-4). -/
def writeSpill (sub : Nat) (v : Word) (s : Sys) : Except Word Sys :=
  let n := v.toNat
  match sub with
  | 0 => rwsRange (50 ≤ n && n ≤ 95) (fun p => { p with spill := { p.spill with high := n } }) s
  | 1 => rwsRange (10 ≤ n && n + 10 ≤ s.nv.spill.high) (fun p => { p with spill := { p.spill with low := n } }) s
  | 2 => rwsRange (1 ≤ n && n ≤ 15) (fun p => { p with spill := { p.spill with qmin := n } }) s
  | _ => if 1 < n then .error mgtReserved else s.rws fun p => { p with spill := { p.spill with enable := v == 1 } }

/-- Objects 0x5000-0x7FFF. -/
def write5 (path : Path) (index sub : Nat) (b : List Byte) (s : Sys) : Except Word Sys :=
  let v := wordAt b 0
  let tag := fld (s.selOf path 0x5022 0) 15 0
  match index, sub with
  | 0x5001, k => s.writeMemCfg k v
  | 0x5002, _ => selWrite path index 0 5 20 v s
  | 0x5010, k => writeSpill k v s
  | 0x5021, 0 => selWrite path index 0 16 65536 v s
  | 0x5021, k => .ok (s.setSel path index k v)
  | 0x5022, 0 => selWrite path index 0 16 65536 v s
  | 0x5022, 1 => .ok (s.modBc fun x => { x with quota := put x.quota tag v.toNat })
  | 0x5022, _ =>
    if 1 ≤ v.toNat ∧ v.toNat ≤ 15 then .ok (s.modBc fun x => { x with weight := put x.weight tag v.toNat })
    else .error mgtRange
  | 0x5030, _ => rwsRange (10000 ≤ v.toNat && v.toNat ≤ 120000) (fun n => { n with flowIdle := v.toNat }) s
  | 0x5032, _ => selWrite path index 0 32 4194304 v s
  | 0x5041, 0 => selWrite path index 0 12 4096 v s
  | 0x5041, _ => selWrite path index 11 8 256 v s
  | 0x6000, k => s.writeHearth k v
  | 0x6002, _ => selWrite path index 0 5 20 v s
  | 0x7001, k => s.writeTime k v
  | 0x7002, k => s.writePortTime path k v
  | _, _ => .error mgtReadonly

/-- A selector or item of a family of fixed counters: a reserved unit of Table 20-1 and a reserved path of Table 18-10 are
refused (00 R12); the facility segment is path 4 (log 13). -/
def writeFamily (path : Path) (index sub : Nat) (v : Word) (s : Sys) : Except Word Sys :=
  let reserved :=
    if sub ≠ 0 then false
    else if index = 0x9050 then decide (20 < v.toNat)
    else if index = 0x9060 ∨ index = 0x9070 then decide (v.toNat < 1 ∨ 4 < v.toNat)
    else false
  if reserved then .error mgtReserved else .ok (s.setSel path index sub v)

/-- Objects 0x8000-0xFFFF. -/
def write8 (path : Path) (index block sub : Nat) (b : List Byte) (s : Sys) : Except Word Sys :=
  let v := wordAt b 0
  match index, sub with
  | 0x8020, 0 => s.writeStep path v
  | 0x8020, k =>
    .ok (s.modMg fun m =>
      { m with
        secIn := modify m.secIn (pathNum path) [] fun x =>
          let y := fit 3072 x
          y.take (768 * (k - 0x10)) ++ fit 768 b ++ y.drop (768 * (k - 0x10) + 768) })
  | 0x8030, 0 => s.setTrust block fun e => (fit 32 b, e.2)
  | 0x8030, _ => if 3 < v.toNat then .error mgtReserved else s.setTrust block fun e => (e.1, BitVec.ofNat 2 v.toNat)
  | 0x9000, k => s.writeCounterCtl path k v
  | 0x9001, k => s.writeUnit block k v
  | 0x9080, k => s.writeSampleCtl path k v
  | 0x9090, 0 => rwsRange (v.toNat ≤ 10) (fun n => { n with wexp := v.toNat }) s
  | 0x9090, _ => selWrite path index 1 10 1024 v s
  | 0xA000, k => s.writeProfile path index k v
  | 0xA001, k => s.writeProfile path index k v
  | 0xA002, k => s.writeProfile path index k v
  | _, k => writeFamily path index k v s

/-- A write of CMD of a command object: the command starts (18, "Command slots and bulk transfer"). -/
def writeCmd (o : SlotObj) (path : Path) (cmd : Word) (w : World) (m : Stores × Sys) : Except Word (Stores × Sys) :=
  let on (r : Except Word Sys) : Except Word (Stores × Sys) := r.map fun t => (m.1, t)
  match o with
  | .table => on (tableCmd path cmd m.1 w.dma m.2)
  | .coll => on (collCmd path cmd m.1 w.dma m.2)
  | .graph => on (graphCmd path cmd m.2)
  | .bc => on (bcCmd path cmd m.1 w.dma m.2)
  | .vault => on (vaultCmd path cmd m.1 w.dma m.2)
  | .port => on (portCmd path cmd w.cmis m.2)
  | .felt => on (feltCmd path cmd m.2)
  | .ocs => ocsCmd path cmd w.dma m
  | .sec => secCmd path cmd w.dma m

/-- A write of a command slot: CMD, CURSOR or an argument (04 Table 04-4). -/
def writeSlot (o : SlotObj) (path : Path) (sub : Nat) (v : Word) (w : World) (m : Stores × Sys) :
    Except Word (Stores × Sys) :=
  if sub = 0 then writeCmd o path v w m
  else if sub = 3 then .ok (m.1, m.2.modSlot o path fun sl => { sl with cursor := cursorOf v })
  else .ok (m.1, m.2.setArgs o path [(sub - 0x10, v)])

/-- A write of a sub-index that exists and may be written: what has changed, and what happens once the response has left (a
failover, a reset, the end of the path's session, another OWNER). -/
def writeSub (path : Path) (index block sub : Nat) (b : List Byte) (w : World) (m : Stores × Sys) :
    Except Word ((Stores × Sys) × (Sys → Sys)) :=
  let v := wordAt b 0
  let on (r : Except Word Sys) (next : Sys → Sys) : Except Word ((Stores × Sys) × (Sys → Sys)) :=
    r.map fun t => ((m.1, t), next)
  match slotAt index with
  | some o => (writeSlot o path sub v w m).map fun r => (r, id)
  | none =>
    if index = 0x1020 then
      (if sub < 0x40 then on (m.2.writeBulk path sub b) id else (stagingPut path (sub - 0x40) b m).map fun r => (r, id))
    else if index = 0x1011 then on (m.2.rwsOk.map fun _ => m.2) fun s => (s.modNv fun n => { n with owner := v }).jrnl
    else if index = 0x1030 then on (m.2.failoverAllowed v) (Sys.failover 3)
    else if index = 0x1050 ∧ sub = 3 then on (m.2.resetAllowed v) (Sys.doReset v)
    else if index = 0x8020 ∧ sub = 0 ∧ v = 3 then on (m.2.writeStep path v) (Sys.endSession path)
    else if index < 0x2000 then on (write1 index block sub b m.2) id
    else if index < 0x3000 then on (write2 path index block sub b m.2) id
    else if index < 0x5000 then on (write3 path index block sub b m.2) id
    else if index < 0x8000 then on (write5 path index sub b m.2) id
    else on (write8 path index block sub b m.2) id

/-! ## Runs (18 R533, R538, R539) -/

/-- What a run has done: the machine, the sub-indices completed, the bytes read, the first failure if any, and what follows the
response. -/
structure RunState where
  mach : Stores × Sys
  done : Nat := 0
  data : List Byte := []
  abort : Word := 0
  next : Sys → Sys := id

/-- A run of reads from `sub` on, up to the first failure. -/
def readRun (path : Path) (index block : Nat) : Nat → Nat → RunState → RunState
  | _, 0, r => r
  | sub, n + 1, r =>
    match place index block sub with
    | .error c => { r with abort := c }
    | .ok x =>
      if x.acc = .wo then { r with abort := mgtWriteonly }
      else
        match readSub path index block sub r.mach with
        | .error c => { r with abort := c }
        | .ok t => readRun path index block (sub + 1) n { r with mach := (r.mach.1, t.2), done := r.done + 1, data := r.data ++ t.1 }

/-- The padding of a written value is its zero-extension (18 R530; no signed type is narrower than 4 bytes here). -/
def padOk (x : Span) (b : List Byte) : Bool := (b.take (x.packed - x.width)).all (· == 0)

/-- A run of writes from `sub` on, up to the first failure. The values follow each other in `b`. -/
def writeRun (path : Path) (index block : Nat) (w : World) : Nat → Nat → List Byte → RunState → RunState
  | _, 0, _, r => r
  | sub, n + 1, b, r =>
    match place index block sub with
    | .error c => { r with abort := c }
    | .ok x =>
      let v := bytesAt b 0 x.packed
      if x.acc = .ro then { r with abort := mgtReadonly }
      else if !padOk x v then { r with abort := mgtType }
      else
        match writeSub path index block sub v w r.mach with
        | .error c => { r with abort := c }
        | .ok t =>
          writeRun path index block w (sub + 1) n (b.drop x.packed)
            { r with mach := t.1, done := r.done + 1, next := fun s => t.2 (r.next s) }

/-- Bytes that the values of a run take, up to its first sub-index that does not exist, and whether all exist. -/
def runBytes (index block : Nat) : Nat → Nat → Nat × Bool
  | _, 0 => (0, true)
  | sub, n + 1 =>
    match place index block sub with
    | .error _ => (0, false)
    | .ok x =>
      let r := runBytes index block (sub + 1) n
      (x.packed + r.1, r.2)

/-- Space for the values of a run: DATA of the mailbox, or LENGTH of a message (18 R539). -/
def runSpace (path : Path) : Nat := if path = .pcie then 768 else 3072

/-- A request for a run, as a path carries it. -/
structure Req where
  path : Path
  write : Bool
  index : Nat
  block : Nat
  sub : Nat
  count : Nat
  tag : BitVec 16 := 0
  data : List Byte := []
  world : World := { dma := .failed, cmis := none }
  /-- It came as a valid message of the path's session. -/
  prot : Bool := false

/-- The address that a request names (18 Table 18-6). -/
def Req.addr (q : Req) : Word64 := dictAddr q.index q.block q.sub

/-- Op of a request as the error log names it (18 Table 18-5, Table 18-7). -/
def Req.op (q : Req) : Nat := if q.write then 2 else 1

/-- A request is refused as a whole: no sub-index is done. -/
def Req.refuse (q : Req) (code : Word) (s : Sys) : Sys :=
  let t := s.reqError q.path code 1 q.addr q.op
  ((if q.prot then t.heard q.path else t).respond q.path q.prot q.tag q.addr 0 code []).event 20 0x43 0 1

/-- OFFSET moves past the DATA sub-indices that a request has completed (18 R545). -/
def Req.moveOffset (q : Req) (done : Nat) (s : Sys) : Sys :=
  if q.index = 0x1020 ∧ done ≠ 0 ∧ 0x40 < q.sub + done ∧ q.path ≠ .pcie then
    s.modMg fun m =>
      { m with offset := modify m.offset (pathNum q.path) 0 fun o => o + BitVec.ofNat 32 (4 * (q.sub + done - 0x40)) }
  else s

/-- The response to a run that has ended (18 R535, R538, R550), and then what follows it. -/
def Req.finish (q : Req) (r : RunState) : Stores × Sys :=
  let s := q.moveOffset r.done r.mach.2
  if r.abort = 0 then
    (r.mach.1, r.next (((if q.prot then s.heard q.path else s).respond q.path q.prot q.tag q.addr r.done 0 r.data)))
  else
    let t := s.reqError q.path r.abort 1 (dictAddr q.index q.block ((q.sub + r.done) % 256)) q.op
    (r.mach.1, r.next
      (((if q.prot then t.heard q.path else t).respond q.path q.prot q.tag q.addr r.done r.abort r.data).event 20 0x43 0 1))

/-- A request for a run: what the path answers first, the length of the run, the space for its values, then its sub-indices in
order up to the first that fails. -/
def Req.run (q : Req) (m : Stores × Sys) : Stores × Sys :=
  match m.2.gate q.path q.index q.write with
  | .silent => m
  | .refused c => (m.1, q.refuse c m.2)
  | .opened =>
    let need := runBytes q.index q.block q.sub q.count
    if q.count = 0 ∨ 192 < q.count ∨ runSpace q.path < need.1 then (m.1, q.refuse mgtRange m.2)
    else if q.write ∧ q.path ≠ .pcie ∧ need.2 ∧ q.data.length ≠ need.1 then (m.1, q.refuse mgtFormat m.2)
    else if q.write then q.finish (writeRun q.path q.index q.block q.world q.sub q.count q.data { mach := m })
    else q.finish (readRun q.path q.index q.block q.sub q.count { mach := m })

/-! ## The mailbox (18 R535) -/

/-- The request registers of the mailbox. -/
def Sys.mailbox (index : BitVec 16) (block sub op count : BitVec 8) (s : Sys) : Sys :=
  s.modMg fun m => { m with reqIndex := index, reqBlock := block, reqSub := sub, reqOp := op, reqCount := count }

/-- GO is written while the PCIe interface is up: it is ignored and counted while the mailbox is busy, and leaves it busy where no
Collier is left that could answer (18 R526, R535). -/
def Sys.go (index : Nat) (write : Bool) (f : Stores × Sys → Stores × Sys) (m : Stores × Sys) : Stores × Sys :=
  let s := m.2
  if !s.pcieUp then m
  else if s.mg.mbState = 1 then (m.1, s.modMg fun x => { x with goIgnored := x.goIgnored + 1 })
  else if s.boot.bothLost && s.gate .pcie index write == .silent then
    (m.1, if s.boot.mode = .off ∨ s.boot.mode = .held then s else s.modMg fun x => { x with mbState := 1 })
  else f m

/-- A request of the mailbox whose REQOP is reserved: what the path answers first, then GZ_MGT_RESERVED (00 R12). -/
def reservedOp (q : Req) (op : Nat) (m : Stores × Sys) : Stores × Sys :=
  match m.2.gate .pcie q.index false with
  | .silent => m
  | .refused c => (m.1, q.refuse c m.2)
  | .opened =>
    (m.1, ((m.2.reqError .pcie mgtReserved 1 q.addr op).respond .pcie false 0 q.addr 0 mgtReserved []).event 20 0x43 0 1)

/-- MAILBOX_READ (R535): GO with REQOP read, or with a reserved one. A REQOP of write takes the values that DATA holds. -/
def execMailboxRead (op : BitVec 8) (index : BitVec 16) (block : BitVec 8) (run : SubRun) (s : State) :
    Host.Outcome State Fault Refusal :=
  let q : Req :=
    { path := .pcie, write := op == 2, index := index.toNat, block := block.toNat, sub := run.sub.toNat
      count := run.count.toNat, data := fit 768 s.sys.mg.mbData }
  .next (s.onMach (Sys.go index.toNat (op == 2) fun m =>
    let t := (m.1, m.2.mailbox index block run.sub op run.count)
    if op = 1 ∨ op = 2 then q.run t else reservedOp q op.toNat t))

/-- MAILBOX_WRITE (R535): GO with REQOP write, the values in DATA. -/
def execMailboxWrite (index : BitVec 16) (block sub count : BitVec 8) (data : List Byte) (world : World) (s : State) :
    Host.Outcome State Fault Refusal :=
  .next (s.onMach (Sys.go index.toNat true fun m =>
    let t := (m.2.mailbox index block sub 2 count).modMg fun x =>
      { x with mbData := fit 768 (data ++ x.mbData.drop data.length) }
    Req.run
      { path := .pcie, write := true, index := index.toNat, block := block.toNat, sub := sub.toNat, count := count.toNat
        data := t.mg.mbData, world } (World.enter world (m.1, t))))

/-! ## Dictionary messages (18 R537, R540, R648; 19 R575, R576) -/

/-- A received dictionary message (18 Table 18-6) with the trailer it carries, if any. -/
structure DictMsg where
  mtype : Nat
  count : Nat
  tag : BitVec 16
  addr : Word
  abort : Word
  length : Nat
  data : List Byte
  /-- Bytes that the tag covers, SEQ and TAG of the trailer (19 R576). -/
  trailer : Option (List Byte × Word64 × List Byte)
  /-- The length fits the bytes that came. -/
  whole : Bool

/-- A message as it came. A frame of the facility segment may be padded to 46 bytes (18 R541). -/
def DictMsg.of (facility : Bool) (b : List Byte) : DictMsg :=
  let n := beAt b 12 4
  let extra := b.length - (16 + n)
  { mtype := beAt b 0 1, count := beAt b 1 1, tag := BitVec.ofNat 16 (beAt b 2 2), addr := wordAt b 4, abort := wordAt b 8
    length := n, data := bytesAt b 16 n
    trailer := if extra = 40 then some (b.take (16 + n), BitVec.ofNat 64 (beAt b (16 + n) 8), bytesAt b (24 + n) 32) else none
    whole := decide (16 + n ≤ b.length) && (extra == 0 || extra == 40 || (facility && b.length == 46)) }

/-- The request that a message makes. -/
def DictMsg.req (d : DictMsg) (path : Path) (world : World) (prot : Bool) : Req :=
  { path, write := d.mtype == 2, index := fld d.addr 31 16, block := fld d.addr 15 8, sub := fld d.addr 7 0, count := d.count
    tag := d.tag, data := d.data, world, prot }

/-- A well-formed request: a READ without data, or a WRITE whose data are the values of its run (18 R537). -/
def DictMsg.ok (d : DictMsg) : Bool :=
  let need := runBytes (fld d.addr 31 16) (fld d.addr 15 8) (fld d.addr 7 0) d.count
  d.whole && d.abort == 0 && 1 ≤ d.count && d.count ≤ 192 && d.length ≤ 3072 &&
    ((d.mtype == 1 && d.length == 0) ||
      (d.mtype == 2 && (if need.2 && need.1 ≤ 3072 then d.length == need.1 else need.1 ≤ d.length || 3072 < need.1)))

/-- A message is answered with an abort code before its run (18 R537, R550): kind 0 for one that cannot be read. -/
def DictMsg.refuse (d : DictMsg) (path : Path) (code : Word) (kind : Nat) (s : Sys) : Sys :=
  ((s.reqError path code kind (if kind = 0 then 0 else BitVec.ofNat 64 d.addr.toNat) d.mtype).respond path false d.tag
    (BitVec.ofNat 64 d.addr.toNat) 0 code []).event 20 0x43 0 1

/-- A message of a HELLO: a WRITE of IN, or of STEP = 1, in object 0x8020 (19 R575). -/
def DictMsg.isHello (d : DictMsg) : Bool :=
  let sub := fld d.addr 7 0
  fld d.addr 31 16 == 0x8020 && fld d.addr 15 8 == 0 && d.mtype == 2 &&
    ((0x10 ≤ sub && sub + d.count ≤ 0x14) || (sub == 0 && d.count == 1 && wordAt d.data 0 == 1))

/-- The trailer of a message against the path's session (19 R575, R576; 18 R648): an abort code, or whether the message is
protected, with the session's last SEQ moved up. Of the unprotected messages of an open session only those of a HELLO are let
through (log 37). -/
def DictMsg.check (d : DictMsg) (path : Path) (s : Sys) : Except Word (Bool × Sys) :=
  let x := s.session path
  match d.trailer with
  | none =>
    if path != .facility && s.sessionOpen path && !d.isHello then .error secAuth
    else .ok (false, s)
  | some (covered, seq, tag) =>
    if path = .facility ∨ !s.sessionOpen path then .error secAuth
    else if tag ≠ msgTag x.rxKey covered seq then .error secAuth
    else if seq.toNat ≤ x.rxSeq.toNat then .error secReplay
    else .ok (true, s.setSession path { x with rxSeq := seq, last := s.clk.mono })

/-- A message that has come on a path is answered (18 R537). -/
def DictMsg.handle (d : DictMsg) (path : Path) (world : World) (m : Stores × Sys) : Stores × Sys :=
  let s := m.2
  match s.gate path (fld d.addr 31 16) (d.mtype == 2) with
  | .silent => m
  | g =>
    if !d.ok then (m.1, d.refuse path mgtFormat 0 s)
    else if g = .refused mgtBusy then (m.1, d.refuse path mgtBusy 1 s)
    else
      match d.check path s with
      | .error c => (m.1, d.refuse path c 1 s)
      | .ok t =>
        -- An unprotected message to object 0x8020 in an open session is answered without a trailer.
        (d.req path world t.1).run (m.1, t.2)

/-- A request that arrived at a full queue is answered with GZ_MGT_BUSY (18 R537). -/
def DictMsg.turnAway (d : DictMsg) (path : Path) (m : Stores × Sys) : Stores × Sys :=
  match m.2.gate path (fld d.addr 31 16) (d.mtype == 2) with
  | .silent => m
  | _ => (m.1, d.refuse path mgtBusy 1 m.2)

/-- A packet that brings an in-band message: a control packet of class 6 from OWNER, in spray route mode, to the module's GEI for
service 0x00 (18 R540). -/
def Sys.isInband (p : Pkt) (s : Sys) : Bool :=
  p.kind == 9 && p.tc == 6 && p.rm == rmSpray && p.dgei == s.ownGei 0 && p.sgei == s.nv.owner && s.nv.owner != 0

/-- The first in-band message that waits for service 0x00, when it is one of `want`; other packets are taken and not answered (18
R540). It comes under its flow (05 R177), and with it comes whether it arrived at a full queue. -/
def takeInband (want : Nat → Bool) (s : Sys) : Option (Option (DictMsg × Bool) × Sys) :=
  let mine (d : Delivery) : Bool := d.svc == 0 && d.pkt.kind != 6
  match s.sw.svc.find? fun d => mine d && !s.heldDelivery d with
  | none => none
  | some d =>
    if want (beAt d.pkt.payload 0 1) then
      match s.takeDelivery mine with
      | none => none
      | some (x, t) =>
        if s.isInband x.pkt then
          let p := x.pkt
          let r := t.inboundTake s.collierCore x
            (Flow.new p.sgei p.flow false p.jtag p.jgen 0 0 (BitVec.ofNat 32 s.collierCore) 0) s
          some (if r.1 then some (DictMsg.of false p.payload, x.late) else none, r.2)
        else some (none, t.consume x)
    else none

/-- A frame of the facility segment that carries a dictionary message: Ethernet II, EtherType 0x88B5, padded to the minimum
length; its source is the one that the answer goes to (18 R541). -/
def onFrame (f : List Byte) (world : World) (m : Stores × Sys) : Stores × Sys :=
  if f.length < 60 || beAt f 12 2 != 0x88B5 then m
  else
    (DictMsg.of true (f.drop 14)).handle .facility world
      (m.1, m.2.modMg fun x => { x with facPeer := BitVec.ofNat 48 (beAt f 6 6) })

/-- A message of a message path, when its MTYPE is one of `want`. -/
def onMessage (want : Nat → Bool) (msg : MsgIn) (world : World) (m : Stores × Sys) : Stores × Sys :=
  match msg with
  | .eth b => if want (beAt b 0 1) then (DictMsg.of false b).handle .eth world m else m
  | .facility f => if want (beAt f 14 1) then onFrame f world m else m
  | .inband =>
    match takeInband want m.2 with
    | none => m
    | some (none, t) => (m.1, t)
    | some (some (d, late), t) => if late then d.turnAway .inband (m.1, t) else d.handle .inband world (m.1, t)

/-- A BUDGET message belongs to the facility segment alone, where command BUDGET has it (18 Table 18-7). -/
def isFrame : MsgIn → Bool
  | .facility _ => true
  | _ => false

/-- READ (R537): a message of any type but WRITE, and on the facility segment BUDGET; one that is no READ is malformed. -/
def execRead (msg : MsgIn) (s : State) : Host.Outcome State Fault Refusal :=
  .next (s.onMach (onMessage (fun t => t != 2 && (t != 0x10 || !isFrame msg)) msg { dma := .failed, cmis := none }))

/-- WRITE (R538): a message of type WRITE. -/
def execWrite (msg : MsgIn) (world : World) (s : State) : Host.Outcome State Fault Refusal :=
  .next (s.onMach fun m => onMessage (fun t => t == 2) msg world (World.enter world m))

/-! ## Rows for one kind of sub-index -/

/-- REGISTER_WRITE (R533): a write of one sub-index; `value` is the value as the path carries it. -/
def execRegisterWrite (path : Path) (index : BitVec 16) (block sub : BitVec 8) (value : List Byte) (world : World) (s : State) :
    Host.Outcome State Fault Refusal :=
  let run (m : Stores × Sys) : Stores × Sys :=
    Req.run
      { path, write := true, index := index.toNat, block := block.toNat, sub := sub.toNat, count := 1, data := value, world
        prot := m.2.sessionOpen path } (World.enter world m)
  .next (s.onMach (if path = .pcie then Sys.go index.toNat true run else run))

/-- DEFINE (R546). -/
def execDefine (path : Path) (value : Word) (s : State) : Host.Outcome State Fault Refusal :=
  .next (s.onSys (request path 0x1020 0 4 (Sys.defineSlot path value)))

/-- STAGING_DATA_ACCESS (R545): a run over DATA sub-indices, a write of the words given or a read. -/
def execStagingDataAccess (path : Path) (sub count : BitVec 8) (written : Option (List Word)) (s : State) :
    Host.Outcome State Fault Refusal :=
  .next (s.onMach fun m =>
    Req.run
      { path, write := written.isSome, index := 0x1020, block := 0, sub := sub.toNat, count := count.toNat
        data := wordsToBytes (written.getD []), prot := m.2.sessionOpen path } m)

end Sys2Proof.Machine
end

