-- ==== Sys2Proof/Machine/Dispatch.lean ====
section
/-! DEFINITION. The meaning of every command: one arm per constructor of `Instr`. -/

namespace Sys2Proof.Machine

def exec (i : Instr) (s : State) : Host.Outcome State Fault Refusal :=
  match i with
  | .packetReceive port bytes => Sys2Proof.Machine.execPacketReceive port bytes s
  | .packetCommit port => Sys2Proof.Machine.execPacketCommit port s
  | .packetTransmitDone port => Sys2Proof.Machine.execPacketTransmitDone port s
  | .spillReadback port tc turned => Sys2Proof.Machine.execSpillReadback port tc turned s
  | .ringEntry die up memory => Sys2Proof.Machine.execRingEntry die up memory s
  | .replicationResume die => Sys2Proof.Machine.execReplicationResume die s
  | .creditOsReceive port bytes => Sys2Proof.Machine.execCreditOsReceive port bytes s
  | .creditOsSend port => Sys2Proof.Machine.execCreditOsSend port s
  | .timeOsReceive port bytes => Sys2Proof.Machine.execTimeOsReceive port bytes s
  | .timeOsSend port => Sys2Proof.Machine.execTimeOsSend port s
  | .linkIdReceive port bytes => Sys2Proof.Machine.execLinkIdReceive port bytes s
  | .linkIdSend port => Sys2Proof.Machine.execLinkIdSend port s
  | .orderedSetLoss port => Sys2Proof.Machine.execOrderedSetLoss port s
  | .shaperRefill => Sys2Proof.Machine.execShaperRefill s
  | .noticeCacheExpire die => Sys2Proof.Machine.execNoticeCacheExpire die s
  | .controlCycle m => Sys2Proof.Machine.execControlCycle m s
  | .grantTimeout unit => Sys2Proof.Machine.execGrantTimeout unit s
  | .warmupEnd => Sys2Proof.Machine.execWarmupEnd s
  | .versionStateWrite path ver value => Sys2Proof.Machine.execVersionStateWrite path ver value s
  | .versionRetireExpire ver => Sys2Proof.Machine.execVersionRetireExpire ver s
  | .drainBoundWrite path value => Sys2Proof.Machine.execDrainBoundWrite path value s
  | .sourceEpochWrite path value => Sys2Proof.Machine.execSourceEpochWrite path value s
  | .hashSeedWrite path ver value => Sys2Proof.Machine.execHashSeedWrite path ver value s
  | .forwardingRecordWrite path port value => Sys2Proof.Machine.execForwardingRecordWrite path port value s
  | .fenceListWrite path index gei => Sys2Proof.Machine.execFenceListWrite path index gei s
  | .emInsert path ver key result flags => Sys2Proof.Machine.execEmInsert path ver key result flags s
  | .emDelete path ver key => Sys2Proof.Machine.execEmDelete path ver key s
  | .emSearch path ver key => Sys2Proof.Machine.execEmSearch path ver key s
  | .emNext path ver cursor => Sys2Proof.Machine.execEmNext path ver cursor s
  | .lpmInsert path ver pfx result flags => Sys2Proof.Machine.execLpmInsert path ver pfx result flags s
  | .lpmDelete path ver pfx len => Sys2Proof.Machine.execLpmDelete path ver pfx len s
  | .lpmSearch path ver longest gei len => Sys2Proof.Machine.execLpmSearch path ver longest gei len s
  | .lpmNext path ver cursor => Sys2Proof.Machine.execLpmNext path ver cursor s
  | .groupWrite path ver index valid bitmap => Sys2Proof.Machine.execGroupWrite path ver index valid bitmap s
  | .groupRead path ver index => Sys2Proof.Machine.execGroupRead path ver index s
  | .sprayWrite path ver index slots => Sys2Proof.Machine.execSprayWrite path ver index slots s
  | .sprayRead path ver index => Sys2Proof.Machine.execSprayRead path ver index s
  | .flushByPort path ver port scope => Sys2Proof.Machine.execFlushByPort path ver port scope s
  | .versionClear path ver => Sys2Proof.Machine.execVersionClear path ver s
  | .versionCopy path target => Sys2Proof.Machine.execVersionCopy path target s
  | .bulkLoad path ver handle count host => Sys2Proof.Machine.execBulkLoad path ver handle count host s
  | .filterRead path ver index => Sys2Proof.Machine.execFilterRead path ver index s
  | .tableSequencerStep steps => Sys2Proof.Machine.execTableSequencerStep steps s
  | .tableWriteComplete => Sys2Proof.Machine.execTableWriteComplete s
  | .creditGrantReceive core => Sys2Proof.Machine.execCreditGrantReceive core s
  | .grantRefreshTimer flow => Sys2Proof.Machine.execGrantRefreshTimer flow s
  | .timerWheelSlot core => Sys2Proof.Machine.execTimerWheelSlot core s
  | .flowContextFree flow => Sys2Proof.Machine.execFlowContextFree flow s
  | .contextFetchComplete core => Sys2Proof.Machine.execContextFetchComplete core s
  | .ctxOpen path desc handle host => Sys2Proof.Machine.execCtxOpen path desc handle host s
  | .ctxClose path ctx => Sys2Proof.Machine.execCtxClose path ctx s
  | .ctxAbort path ctx => Sys2Proof.Machine.execCtxAbort path ctx s
  | .jobActivate path jtag gen => Sys2Proof.Machine.execJobActivate path jtag gen s
  | .jobFlush path jtag gen => Sys2Proof.Machine.execJobFlush path jtag gen s
  | .jobDeactivate path jtag => Sys2Proof.Machine.execJobDeactivate path jtag s
  | .jobRead path jtag => Sys2Proof.Machine.execJobRead path jtag s
  | .jobFlushReclaimDone jtag => Sys2Proof.Machine.execJobFlushReclaimDone jtag s
  | .contributionReceive core vat => Sys2Proof.Machine.execContributionReceive core vat s
  | .abortNoticeSend core => Sys2Proof.Machine.execAbortNoticeSend core s
  | .vatInputResume core vat => Sys2Proof.Machine.execVatInputResume core vat s
  | .reduceResultReceive core => Sys2Proof.Machine.execReduceResultReceive core s
  | .resendRequestReceive core => Sys2Proof.Machine.execResendRequestReceive core s
  | .tileTimeout ctx tile => Sys2Proof.Machine.execTileTimeout ctx tile s
  | .contextStall ctx => Sys2Proof.Machine.execContextStall ctx s
  | .ctxCloseExpire ctx => Sys2Proof.Machine.execCtxCloseExpire ctx s
  | .errorNoticeReceive => Sys2Proof.Machine.execErrorNoticeReceive s
  | .faultNoticeReceive => Sys2Proof.Machine.execFaultNoticeReceive s
  | .graphSubmit path handle length => Sys2Proof.Machine.execGraphSubmit path handle length s
  | .graphLoadComplete host => Sys2Proof.Machine.execGraphLoadComplete host s
  | .graphCancel path gid cookie => Sys2Proof.Machine.execGraphCancel path gid cookie s
  | .graphRelease path gid cookie => Sys2Proof.Machine.execGraphRelease path gid cookie s
  | .graphArrive path gid cookie nodePart => Sys2Proof.Machine.execGraphArrive path gid cookie nodePart s
  | .submitData core => Sys2Proof.Machine.execSubmitData core s
  | .submitCommit core => Sys2Proof.Machine.execSubmitCommit core s
  | .arrive core => Sys2Proof.Machine.execArrive core s
  | .cancel core => Sys2Proof.Machine.execCancel core s
  | .stagingTimeout core sgei cookie => Sys2Proof.Machine.execStagingTimeout core sgei cookie s
  | .admissionPass core => Sys2Proof.Machine.execAdmissionPass core s
  | .waitTimeDue gid node => Sys2Proof.Machine.execWaitTimeDue gid node s
  | .nodeStarved gid node => Sys2Proof.Machine.execNodeStarved gid node s
  | .graphAutorelease gid => Sys2Proof.Machine.execGraphAutorelease gid s
  | .bcOpen path desc handle host => Sys2Proof.Machine.execBcOpen path desc handle host s
  | .bcLoad path jtag obj handle first count host => Sys2Proof.Machine.execBcLoad path jtag obj handle first count host s
  | .bcSend path jtag obj first count => Sys2Proof.Machine.execBcSend path jtag obj first count s
  | .bcClose path jtag obj => Sys2Proof.Machine.execBcClose path jtag obj s
  | .broadcastSegmentReceive core => Sys2Proof.Machine.execBroadcastSegmentReceive core s
  | .segmentSend core => Sys2Proof.Machine.execSegmentSend core s
  | .receiverUnreachable jtag obj ridx => Sys2Proof.Machine.execReceiverUnreachable jtag obj ridx s
  | .upstreamStall jtag obj => Sys2Proof.Machine.execUpstreamStall jtag obj s
  | .pullAckTimeout jtag obj => Sys2Proof.Machine.execPullAckTimeout jtag obj s
  | .bcPull core => Sys2Proof.Machine.execBcPull core s
  | .bcPullAck core => Sys2Proof.Machine.execBcPullAck core s
  | .bcCloseExpire jtag obj => Sys2Proof.Machine.execBcCloseExpire jtag obj s
  | .parityReceive core vat => Sys2Proof.Machine.execParityReceive core vat s
  | .rebuildShardSend qslot second => Sys2Proof.Machine.execRebuildShardSend qslot second s
  | .quireAlloc path slot jobK nstripe handle host => Sys2Proof.Machine.execQuireAlloc path slot jobK nstripe handle host s
  | .quireFree path slot => Sys2Proof.Machine.execQuireFree path slot s
  | .gateCommit path value => Sys2Proof.Machine.execGateCommit path value s
  | .gateListStart port => Sys2Proof.Machine.execGateListStart port s
  | .gateEntryChange port => Sys2Proof.Machine.execGateEntryChange port s
  | .demandClose => Sys2Proof.Machine.execDemandClose s
  | .demandReq => Sys2Proof.Machine.execDemandReq s
  | .planSubmit path handle length host => Sys2Proof.Machine.execPlanSubmit path handle length host s
  | .planCancel path planId => Sys2Proof.Machine.execPlanCancel path planId s
  | .demandRead path handle hostOk => Sys2Proof.Machine.execDemandRead path handle hostOk s
  | .planDrain planId => Sys2Proof.Machine.execPlanDrain planId s
  | .planMove planId => Sys2Proof.Machine.execPlanMove planId s
  | .planRejoin planId => Sys2Proof.Machine.execPlanRejoin planId s
  | .planReflip planId => Sys2Proof.Machine.execPlanReflip planId s
  | .planLimit planId => Sys2Proof.Machine.execPlanLimit planId s
  | .portConfigWrite path sub value => Sys2Proof.Machine.execPortConfigWrite path sub value s
  | .portDrain path port => Sys2Proof.Machine.execPortDrain path port s
  | .portResume path port => Sys2Proof.Machine.execPortResume path port s
  | .portForget path port => Sys2Proof.Machine.execPortForget path port s
  | .laneTest path port pattern duration => Sys2Proof.Machine.execLaneTest path port pattern duration s
  | .laneTestEnd port errors => Sys2Proof.Machine.execLaneTestEnd port errors s
  | .dieBist path die => Sys2Proof.Machine.execDieBist path die s
  | .dieBistComplete die failed => Sys2Proof.Machine.execDieBistComplete die failed s
  | .cmisRead path cage address length answer => Sys2Proof.Machine.execCmisRead path cage address length answer s
  | .cmisWrite path cage address length data accepted => Sys2Proof.Machine.execCmisWrite path cage address length data accepted s
  | .cageInsert cage unit => Sys2Proof.Machine.execCageInsert cage unit s
  | .cageRemove cage => Sys2Proof.Machine.execCageRemove cage s
  | .cageOvercurrent cage => Sys2Proof.Machine.execCageOvercurrent cage s
  | .cmisInterrupt cage alarms => Sys2Proof.Machine.execCmisInterrupt cage alarms s
  | .cmisPoll cage monitors => Sys2Proof.Machine.execCmisPoll cage monitors s
  | .trainingComplete port outcome => Sys2Proof.Machine.execTrainingComplete port outcome s
  | .trainingRetry port => Sys2Proof.Machine.execTrainingRetry port s
  | .seasoningComplete port => Sys2Proof.Machine.execSeasoningComplete port s
  | .seasoningOverdue port => Sys2Proof.Machine.execSeasoningOverdue port s
  | .cleanTime60s port => Sys2Proof.Machine.execCleanTime60s port s
  | .linkFault port cause => Sys2Proof.Machine.execLinkFault port cause s
  | .laneDegrade port cause lost => Sys2Proof.Machine.execLaneDegrade port cause lost s
  | .laneBerWindow port lane corrected => Sys2Proof.Machine.execLaneBerWindow port lane corrected s
  | .warmRetrainComplete port usable peerMask => Sys2Proof.Machine.execWarmRetrainComplete port usable peerMask s
  | .warmRetrainTimeout port => Sys2Proof.Machine.execWarmRetrainTimeout port s
  | .drainComplete port => Sys2Proof.Machine.execDrainComplete port s
  | .eyeMarginMeasure lane margin => Sys2Proof.Machine.execEyeMarginMeasure lane margin s
  | .patrolScrubRead address result item => Sys2Proof.Machine.execPatrolScrubRead address result item s
  | .hbmUncorrectable address item => Sys2Proof.Machine.execHbmUncorrectable address item s
  | .sramUncorrectable item => Sys2Proof.Machine.execSramUncorrectable item s
  | .sramBankRotate pool passed => Sys2Proof.Machine.execSramBankRotate pool passed s
  | .stackLoss stack cause => Sys2Proof.Machine.execStackLoss stack cause s
  | .stackRemapComplete => Sys2Proof.Machine.execStackRemapComplete s
  | .dieLoss unit => Sys2Proof.Machine.execDieLoss unit s
  | .feltFlitReceive link far lmod flit => Sys2Proof.Machine.execFeltFlitReceive link far lmod flit s
  | .feltNakReceive link far flit => Sys2Proof.Machine.execFeltNakReceive link far flit s
  | .feltModulePause link lmod clockLost failed => Sys2Proof.Machine.execFeltModulePause link lmod clockLost failed s
  | .feltLaneRepair link lmod lane => Sys2Proof.Machine.execFeltLaneRepair link lmod lane s
  | .feltPropose link far record => Sys2Proof.Machine.execFeltPropose link far record s
  | .feltConfirm link far record => Sys2Proof.Machine.execFeltConfirm link far record s
  | .feltAgreeTimeout link => Sys2Proof.Machine.execFeltAgreeTimeout link s
  | .feltLinkDown link => Sys2Proof.Machine.execFeltLinkDown link s
  | .feltRetrainRetry link near far => Sys2Proof.Machine.execFeltRetrainRetry link near far s
  | .routeFenceReturn source dest => Sys2Proof.Machine.execRouteFenceReturn source dest s
  | .feltRecentre link lmod => Sys2Proof.Machine.execFeltRecentre link lmod s
  | .feltModtest path link lmod duration => Sys2Proof.Machine.execFeltModtest path link lmod duration s
  | .feltModtestEnd link failed => Sys2Proof.Machine.execFeltModtestEnd link failed s
  | .feltRetrain path link => Sys2Proof.Machine.execFeltRetrain path link s
  | .ptpMessageReceive portB m => Sys2Proof.Machine.execPtpMessageReceive portB m s
  | .ptpSourceTimeout portB => Sys2Proof.Machine.execPtpSourceTimeout portB s
  | .timeOsTimeout port => Sys2Proof.Machine.execTimeOsTimeout port s
  | .ppsInEdge => Sys2Proof.Machine.execPpsInEdge s
  | .ppsTimeout => Sys2Proof.Machine.execPpsTimeout s
  | .ppsOutEdge => Sys2Proof.Machine.execPpsOutEdge s
  | .timeStepApply => Sys2Proof.Machine.execTimeStepApply s
  | .holdoverLimit => Sys2Proof.Machine.execHoldoverLimit s
  | .ref10mDetect present => Sys2Proof.Machine.execRef10mDetect present s
  | .settimeLo path value => Sys2Proof.Machine.execSettimeLo path value s
  | .exthiRead path => Sys2Proof.Machine.execExthiRead path s
  | .pwrFailEarlyAssert => Sys2Proof.Machine.execPwrFailEarlyAssert s
  | .pwrFailEarlyRelease => Sys2Proof.Machine.execPwrFailEarlyRelease s
  | .inputDip millivolts => Sys2Proof.Machine.execInputDip millivolts s
  | .inputLoss => Sys2Proof.Machine.execInputLoss s
  | .budget frame => Sys2Proof.Machine.execBudget frame s
  | .budgetStale => Sys2Proof.Machine.execBudgetStale s
  | .facstatus => Sys2Proof.Machine.execFacstatus s
  | .thermalTrip sensor => Sys2Proof.Machine.execThermalTrip sensor s
  | .sensorFail sensor => Sys2Proof.Machine.execSensorFail sensor s
  | .sensorSample10ms inlet outlet flow => Sys2Proof.Machine.execSensorSample10ms inlet outlet flow s
  | .profileSelectWrite path index sub value => Sys2Proof.Machine.execProfileSelectWrite path index sub value s
  | .collierFailover cause => Sys2Proof.Machine.execCollierFailover cause s
  | .failover path value => Sys2Proof.Machine.execFailover path value s
  | .heartbeatTimeout => Sys2Proof.Machine.execHeartbeatTimeout s
  | .mailboxRead op index block run => Sys2Proof.Machine.execMailboxRead op index block run s
  | .mailboxWrite index block sub count data world => Sys2Proof.Machine.execMailboxWrite index block sub count data world s
  | .read m => Sys2Proof.Machine.execRead m s
  | .write m world => Sys2Proof.Machine.execWrite m world s
  | .registerWrite path index block sub value world => Sys2Proof.Machine.execRegisterWrite path index block sub value world s
  | .define path value => Sys2Proof.Machine.execDefine path value s
  | .stagingDataAccess path sub count written => Sys2Proof.Machine.execStagingDataAccess path sub count written s
  | .journalFlush ok => Sys2Proof.Machine.execJournalFlush ok s
  | .journalCompact ok => Sys2Proof.Machine.execJournalCompact ok s
  | .journalClear path value => Sys2Proof.Machine.execJournalClear path value s
  | .sessionHello path gei => Sys2Proof.Machine.execSessionHello path gei s
  | .sessionConfirm path => Sys2Proof.Machine.execSessionConfirm path s
  | .sessionEnd path => Sys2Proof.Machine.execSessionEnd path s
  | .handshakeTimeout path => Sys2Proof.Machine.execHandshakeTimeout path s
  | .sessionTimeout path => Sys2Proof.Machine.execSessionTimeout path s
  | .fwStage path handle length host => Sys2Proof.Machine.execFwStage path handle length host s
  | .fwActivate path image => Sys2Proof.Machine.execFwActivate path image s
  | .fwCommit path => Sys2Proof.Machine.execFwCommit path s
  | .fwRevert path => Sys2Proof.Machine.execFwRevert path s
  | .attest path nonce handle hostOk => Sys2Proof.Machine.execAttest path nonce handle hostOk s
  | .trialTimeout => Sys2Proof.Machine.execTrialTimeout s
  | .counterFreeze path => Sys2Proof.Machine.execCounterFreeze path s
  | .counterUnfreeze path => Sys2Proof.Machine.execCounterUnfreeze path s
  | .counterSnapshot path => Sys2Proof.Machine.execCounterSnapshot path s
  | .counterClear path => Sys2Proof.Machine.execCounterClear path s
  | .counterClearSaturating path => Sys2Proof.Machine.execCounterClearSaturating path s
  | .atact path value => Sys2Proof.Machine.execAtact path value s
  | .counterActionApply => Sys2Proof.Machine.execCounterActionApply s
  | .counterOverflowSample unit ctr port header => Sys2Proof.Machine.execCounterOverflowSample unit ctr port header s
  | .sampleRecordRead path => Sys2Proof.Machine.execSampleRecordRead path s
  | .bandwidthWindowClose => Sys2Proof.Machine.execBandwidthWindowClose s
  | .errorLogRead path => Sys2Proof.Machine.execErrorLogRead path s
  | .fullReset cause millivolts => Sys2Proof.Machine.execFullReset cause millivolts s
  | .kindlingPhaseComplete r => Sys2Proof.Machine.execKindlingPhaseComplete r s
  | .reset path value => Sys2Proof.Machine.execReset path value s
  | .orderlyShutdown path => Sys2Proof.Machine.execOrderlyShutdown path s
  | .diereset path value => Sys2Proof.Machine.execDiereset path value s
  | .dieWatchdogExpire die => Sys2Proof.Machine.execDieWatchdogExpire die s
  | .dieResetExit die felt => Sys2Proof.Machine.execDieResetExit die felt s
  | .dieResetTimeout die => Sys2Proof.Machine.execDieResetTimeout die s
  | .mateNChange high => Sys2Proof.Machine.execMateNChange high s
  | .perstNAssert => Sys2Proof.Machine.execPerstNAssert s
  | .j2Loss lost => Sys2Proof.Machine.execJ2Loss lost s
  | .dipEnd => Sys2Proof.Machine.execDipEnd s
  | .standbyLoss => Sys2Proof.Machine.execStandbyLoss s
  | .standbyReady => Sys2Proof.Machine.execStandbyReady s
  | .collierWatchdogExpire => Sys2Proof.Machine.execCollierWatchdogExpire s
  | .perstNRelease => Sys2Proof.Machine.execPerstNRelease s
  | .resetNAssert => Sys2Proof.Machine.execResetNAssert s
  | .fwStageComplete => Sys2Proof.Machine.execFwStageComplete s

end Sys2Proof.Machine
end

