-- ==== Sys2Proof/Safety.lean ====
section
/-! DEFINITION. What counts as a safe run: no step of it stops, and the byte memories keep their canonical form. -/

namespace Sys2Proof

/-- Keys strictly rise. -/
def Machine.keysRise : List Nat → Bool
  | a :: b :: r => decide (a < b) && Machine.keysRise (b :: r)
  | _ => true

/-- Every byte memory of the module is in canonical form (18 R536, R545), and no staging is listed twice or without a byte. -/
def Machine.Stores.wf (m : Machine.Stores) : Bool :=
  Machine.Memory.wf m.bar2 && m.staging.all (fun p => Machine.Memory.wf p.2 && !p.2.isEmpty) &&
    Machine.keysRise (m.staging.map fun p => p.1)

/-- The invariant of the model: the byte memories are canonical. -/
def Machine.State.Inv (s : Machine.State) : Prop := s.stores.wf = true

/-- A state is safe for `n` steps when none of them stops. -/
def SafeFor (n : Nat) (s : Machine.State) : Prop :=
  match n with
  | 0 => True
  | k + 1 => ∃ t, Machine.step s = .next t ∧ SafeFor k t

/-! ## The words that statements use -/

/-- A write request of `index` on `path` is carried out: the path's gate is open (18 R534). -/
abbrev Machine.Sys.takes (path : Path) (index : Nat) (s : Machine.Sys) : Prop := s.gate path index true = .opened

/-- A read request of `index` on `path` is carried out. -/
abbrev Machine.Sys.shows (path : Path) (index : Nat) (s : Machine.Sys) : Prop := s.gate path index false = .opened

/-- A write request of one sub-index that has the effect `f`: the effect, then the path's answer (18 R535, R538). -/
def Machine.replied (path : Path) (index block sub : Nat) (f : Machine.Sys → Machine.Sys) (s : Machine.Sys) : Machine.Sys :=
  (f s).answer path (s.sessionOpen path) (Machine.dictAddr index block sub) 1 0 []

/-- A port has received `len` bytes: its byte count and the two events of its port die (20 Table 20-4). -/
def Machine.Sys.arrived (port len : Nat) (s : Machine.Sys) : Machine.Sys :=
  ((s.modPort port fun q => { q with rxBytes := q.rxBytes + len }).event (port / 64) 0x01 port 1).event (port / 64) 0x02
    port len

/-- A write to a version is open to a path's table command: its slot is not BUSY, the version is FREE or ACTIVE, and no
copy uses it (04 R129, R136, R144). -/
abbrev Machine.Sys.tableOpen (path : Path) (ver : Bool) (s : Machine.Sys) : Prop :=
  s.takes path 0x3020 ∧ (s.slot .table path).busy = false ∧ (s.verState ver = 0 ∨ s.verState ver = 1) ∧
    s.copying ver = false

/-- A single-item table command that is accepted with its ARGs: its slot turns BUSY, and the sequencer takes up its write
with the status, abort code and results that it ends with (04 R124, R136). -/
def Machine.tableTaken (path : Path) (c : Machine.TblCmd) (args : List (Nat × Word)) (write : Machine.TblWrite)
    (status abort : Word) (res : List (Nat × Word)) (s : Machine.Sys) : Machine.Sys :=
  ((s.setArgs .table path args).accept .table path c.word []).takeUp path (write, status, abort, res)

/-- A long table command that is accepted: its slot turns BUSY and the command joins the sequencer's queue (04 R128). -/
def Machine.tableQueued (path : Path) (c : Machine.TblCmd) (args : List (Nat × Word)) (uses : List Nat)
    (job : Machine.LongJob) (s : Machine.Sys) : Machine.Sys :=
  ((s.setArgs .table path args).accept .table path c.word uses).modTab fun t => { t with long := t.long ++ [job] }

/-- A command of a command object that is accepted with its ARGs: its slot turns BUSY (04 R136, 18 R544). -/
def Machine.cmdTaken (o : Machine.SlotObj) (path : Path) (op : Nat) (args : List (Nat × Word)) (uses : List Nat)
    (s : Machine.Sys) : Machine.Sys :=
  (s.setArgs o path args).accept o path (BitVec.ofNat 32 (op * 2 ^ 24)) uses

/-- A command object takes a command of a path: the path's gate is open and its slot is not BUSY. -/
abbrev Machine.Sys.idleSlot (o : Machine.SlotObj) (path : Path) (s : Machine.Sys) : Prop :=
  s.takes path o.index ∧ (s.slot o path).busy = false

end Sys2Proof
end

