-- ==== Sys2Proof/WellFormed.lean ====
section
/-! DEFINITION. Which commands name only units and shapes that the module has. -/

namespace Sys2Proof

/-- Felt links are numbered 0-37 (15 R453). -/
def linkOk (link : Nat) : Bool := decide (link < 38)

/-- Logic dies are numbered 0-19 (20 Table 20-1). -/
def unitOk (unit : Nat) : Bool := decide (unit < 20)

/-- HBM stacks are numbered HS0-HS19 (01 R15). -/
def stackOk (stack : Nat) : Bool := decide (stack < 20)

/-- An ordered set is 16 bytes long (02 R64). -/
def setOk (bytes : List Byte) : Bool := decide (bytes.length = 16)

/-- A Felt flit is 128 bytes long (15 R455). -/
def flitOk (bytes : List Byte) : Bool := decide (bytes.length = 128)

/-- A run covers 1-192 sub-indices (18 Table 18-5). -/
def runOk (count : BitVec 8) : Bool := decide (1 ≤ count.toNat ∧ count.toNat ≤ 192)

/-- What a control cycle measures: 20 junction temperatures, 20 stack temperatures, 20 rails, 4 Vat demands and 6 HBM
demands (17 R504). -/
def cycleOk (m : CycleInput) : Bool :=
  m.tj.length == 20 && m.thbm.length == 20 && m.rails.length == 20 && m.vatDemand.length == 4 &&
    m.hbmDemand.length == 6

/-- A training attempt that ends well measures the link delay with 16 probes (16 R480). -/
def probesOk (t : Training) : Bool := !t.ok || t.probes.length == 16

/-- The sensors of Table 17-6 are those of dies 0-19 and stacks 0-19, the inlet and the flow (17 R509). -/
def sensorOk : Sensor → Bool
  | .die unit => unitOk unit
  | .stack stack => stackOk stack
  | .inlet => true
  | .flow => true

/-- A command is well formed when every unit it names exists and every fixed-length operand has its length. -/
def Instr.wf : Instr → Bool
  | .packetReceive _ _ => true
  | .packetCommit _ => true
  | .packetTransmitDone _ => true
  | .spillReadback _ _ _ => true
  | .ringEntry _ _ _ => true
  | .replicationResume _ => true
  | .creditOsReceive _ b => setOk b
  | .creditOsSend _ => true
  | .timeOsReceive _ b => setOk b
  | .timeOsSend _ => true
  | .linkIdReceive _ b => setOk b
  | .linkIdSend _ => true
  | .orderedSetLoss _ => true
  | .shaperRefill => true
  | .noticeCacheExpire _ => true
  | .controlCycle m => cycleOk m
  | .grantTimeout u => unitOk u
  | .warmupEnd => true
  | .versionStateWrite _ _ _ => true
  | .versionRetireExpire _ => true
  | .drainBoundWrite _ _ => true
  | .sourceEpochWrite _ _ => true
  | .hashSeedWrite _ _ _ => true
  | .forwardingRecordWrite _ _ _ => true
  | .fenceListWrite _ _ _ => true
  | .emInsert _ _ _ _ _ => true
  | .emDelete _ _ _ => true
  | .emSearch _ _ _ => true
  | .emNext _ _ _ => true
  | .lpmInsert _ _ _ _ _ => true
  | .lpmDelete _ _ _ _ => true
  | .lpmSearch _ _ _ _ _ => true
  | .lpmNext _ _ _ => true
  | .groupWrite _ _ _ _ b => b.length == 32
  | .groupRead _ _ _ => true
  | .sprayWrite _ _ _ w => w.length == 32
  | .sprayRead _ _ _ => true
  | .flushByPort _ _ _ _ => true
  | .versionClear _ _ => true
  | .versionCopy _ _ => true
  | .bulkLoad _ _ _ _ _ => true
  | .filterRead _ _ _ => true
  | .tableSequencerStep _ => true
  | .tableWriteComplete => true
  | .creditGrantReceive _ => true
  | .grantRefreshTimer _ => true
  | .timerWheelSlot _ => true
  | .flowContextFree _ => true
  | .contextFetchComplete _ => true
  | .ctxOpen _ _ _ _ => true
  | .ctxClose _ _ => true
  | .ctxAbort _ _ => true
  | .jobActivate _ _ _ => true
  | .jobFlush _ _ _ => true
  | .jobDeactivate _ _ => true
  | .jobRead _ _ => true
  | .jobFlushReclaimDone _ => true
  | .contributionReceive _ _ => true
  | .abortNoticeSend _ => true
  | .vatInputResume _ _ => true
  | .reduceResultReceive _ => true
  | .resendRequestReceive _ => true
  | .tileTimeout _ _ => true
  | .contextStall _ => true
  | .ctxCloseExpire _ => true
  | .errorNoticeReceive => true
  | .faultNoticeReceive => true
  | .graphSubmit _ _ _ => true
  | .graphLoadComplete _ => true
  | .graphCancel _ _ _ => true
  | .graphRelease _ _ _ => true
  | .graphArrive _ _ _ _ => true
  | .submitData _ => true
  | .submitCommit _ => true
  | .arrive _ => true
  | .cancel _ => true
  | .stagingTimeout _ _ _ => true
  | .admissionPass _ => true
  | .waitTimeDue _ _ => true
  | .nodeStarved _ _ => true
  | .graphAutorelease _ => true
  | .bcOpen _ _ _ _ => true
  | .bcLoad _ _ _ _ _ _ _ => true
  | .bcSend _ _ _ _ _ => true
  | .bcClose _ _ _ => true
  | .broadcastSegmentReceive _ => true
  | .segmentSend _ => true
  | .receiverUnreachable _ _ _ => true
  | .upstreamStall _ _ => true
  | .pullAckTimeout _ _ => true
  | .bcPull _ => true
  | .bcPullAck _ => true
  | .bcCloseExpire _ _ => true
  | .parityReceive _ _ => true
  | .rebuildShardSend _ _ => true
  | .quireAlloc _ _ _ _ _ _ => true
  | .quireFree _ _ => true
  | .gateCommit _ _ => true
  | .gateListStart _ => true
  | .gateEntryChange _ => true
  | .demandClose => true
  | .demandReq => true
  | .planSubmit _ _ _ _ => true
  | .planCancel _ _ => true
  | .demandRead _ _ _ => true
  | .planDrain _ => true
  | .planMove _ => true
  | .planRejoin _ => true
  | .planReflip _ => true
  | .planLimit _ => true
  | .portConfigWrite _ _ _ => true
  | .portDrain _ _ => true
  | .portResume _ _ => true
  | .portForget _ _ => true
  | .laneTest _ _ _ _ => true
  | .laneTestEnd _ _ => true
  | .dieBist _ _ => true
  | .dieBistComplete _ _ => true
  | .cmisRead _ _ _ _ _ => true
  | .cmisWrite _ _ _ _ _ _ => true
  | .cageInsert _ _ => true
  | .cageRemove _ => true
  | .cageOvercurrent _ => true
  | .cmisInterrupt _ _ => true
  | .cmisPoll _ _ => true
  | .trainingComplete _ t => probesOk t
  | .trainingRetry _ => true
  | .seasoningComplete _ => true
  | .seasoningOverdue _ => true
  | .cleanTime60s _ => true
  | .linkFault _ _ => true
  | .laneDegrade _ _ _ => true
  | .laneBerWindow _ _ _ => true
  | .warmRetrainComplete _ _ _ => true
  | .warmRetrainTimeout _ => true
  | .drainComplete _ => true
  | .eyeMarginMeasure _ _ => true
  | .patrolScrubRead _ _ _ => true
  | .hbmUncorrectable _ _ => true
  | .sramUncorrectable _ => true
  | .sramBankRotate _ _ => true
  | .stackLoss k _ => stackOk k
  | .stackRemapComplete => true
  | .dieLoss u => unitOk u
  | .feltFlitReceive l _ _ f => linkOk l && flitOk f
  | .feltNakReceive l _ f => linkOk l && flitOk f
  | .feltModulePause l _ _ _ => linkOk l
  | .feltLaneRepair l _ _ => linkOk l
  | .feltPropose l _ _ => linkOk l
  | .feltConfirm l _ _ => linkOk l
  | .feltAgreeTimeout l => linkOk l
  | .feltLinkDown l => linkOk l
  | .feltRetrainRetry l _ _ => linkOk l
  | .routeFenceReturn a b => unitOk a && unitOk b
  | .feltRecentre l _ => linkOk l
  | .feltModtest _ _ _ _ => true
  | .feltModtestEnd l _ => linkOk l
  | .feltRetrain _ _ => true
  | .ptpMessageReceive _ _ => true
  | .ptpSourceTimeout _ => true
  | .timeOsTimeout _ => true
  | .ppsInEdge => true
  | .ppsTimeout => true
  | .ppsOutEdge => true
  | .timeStepApply => true
  | .holdoverLimit => true
  | .ref10mDetect _ => true
  | .settimeLo _ _ => true
  | .exthiRead _ => true
  | .pwrFailEarlyAssert => true
  | .pwrFailEarlyRelease => true
  | .inputDip _ => true
  | .inputLoss => true
  | .budget _ => true
  | .budgetStale => true
  | .facstatus => true
  | .thermalTrip s => sensorOk s
  | .sensorFail s => sensorOk s
  | .sensorSample10ms _ _ _ => true
  | .profileSelectWrite _ _ _ _ => true
  | .collierFailover _ => true
  | .failover _ _ => true
  | .heartbeatTimeout => true
  | .mailboxRead _ _ _ r => runOk r.count
  | .mailboxWrite _ _ _ c _ _ => runOk c
  | .read _ => true
  | .write _ _ => true
  | .registerWrite _ _ _ _ _ _ => true
  | .define _ _ => true
  | .stagingDataAccess _ _ c _ => runOk c
  | .journalFlush _ => true
  | .journalCompact _ => true
  | .journalClear _ _ => true
  | .sessionHello _ _ => true
  | .sessionConfirm _ => true
  | .sessionEnd _ => true
  | .handshakeTimeout _ => true
  | .sessionTimeout _ => true
  | .fwStage _ _ _ _ => true
  | .fwActivate _ _ => true
  | .fwCommit _ => true
  | .fwRevert _ => true
  | .attest _ n _ _ => n.length == 8
  | .trialTimeout => true
  | .counterFreeze _ => true
  | .counterUnfreeze _ => true
  | .counterSnapshot _ => true
  | .counterClear _ => true
  | .counterClearSaturating _ => true
  | .atact _ _ => true
  | .counterActionApply => true
  | .counterOverflowSample _ _ _ _ => true
  | .sampleRecordRead _ => true
  | .bandwidthWindowClose => true
  | .errorLogRead _ => true
  | .fullReset _ _ => true
  | .kindlingPhaseComplete _ => true
  | .reset _ _ => true
  | .orderlyShutdown _ => true
  | .diereset _ _ => true
  | .dieWatchdogExpire _ => true
  | .dieResetExit _ _ => true
  | .dieResetTimeout _ => true
  | .mateNChange _ => true
  | .perstNAssert => true
  | .j2Loss _ => true
  | .dipEnd => true
  | .standbyLoss => true
  | .standbyReady => true
  | .collierWatchdogExpire => true
  | .perstNRelease => true
  | .resetNAssert => true
  | .fwStageComplete => true

end Sys2Proof
end

