-- ==== Sys2Proof/Certificates/Slice0/Obligations.lean ====
section
/-! DEFINITION. The statements for the provers. Each names, in its docstring, the rules of the spec that it formalises. A
completion statement says that a command ANSWERS a next state, and which one, under hypotheses on the state and the operands
alone; `replied path index block sub f s` (Sys2Proof/Safety.lean) is the answer to a write of a register on a path around the
effect `f`. -/

open Sys2Proof Sys2Proof.Machine

/-! ## Packets at the ports -/

/-- PACKET_RECEIVE on a port that is Up (02 R62, 03 R71, R104): a packet that fails a check is dropped there; one that is
older than the drain bound is dropped with GZ_FWD_AGE and no notice; one that passes and whose route is an egress port joins
that port's queue with HOPS + 1, and the occupancy of its ingress pool is checked. -/
def Obligations.PacketReceiveRuns : Prop :=
  ∀ (s : State) (port : Port) (bytes : List Byte), (s.sys.port port.toNat).st = .up →
    let y := s.sys.arrived port.toNat bytes.length
    let p := Pkt.parse bytes
    let c := y.takeCtr (y.pipeKey (port.toNat / 64) (some port.toNat))
    (∀ code notice, y.receiveChecks p bytes.length = some (code, notice) →
      exec (.packetReceive port bytes) s =
        .next { s with sys := y.receiveDrop port.toNat p bytes code notice }) ∧
    (y.receiveChecks p bytes.length = none → y.tooOld p = true →
      exec (.packetReceive port bytes) s =
        .next { s with sys := y.receiveDrop port.toNat p bytes fwdAge false }) ∧
    (∀ q spray x, y.receiveChecks p bytes.length = none → y.tooOld p = false → p.dataOk = true →
      (c.2.resolve (port.toNat / 64) p (some port.toNat) c.1).1 = .port q spray x →
      exec (.packetReceive port bytes) s =
        .next { s with
          sys :=
            ((c.2.resolve (port.toNat / 64) p (some port.toNat) c.1).2.queueRoute
                { pkt := p, ingress := some port, die := port.toNat / 64, pool := .ingress port (poolOf p.tc p.vc),
                  cells := (bytes.length + 63) / 64, copies := 1, crcOk := true, arrived := s.sys.clk.ext,
                  header := bytes.take 32 }
                (.port q spray { x with hops := x.hops + 1 })).spillCheck
              port.toNat (poolOf p.tc p.vc) })

/-- PACKET_COMMIT and PACKET_TRANSMIT_DONE. On a port with nothing committed, a packet on the wire is let come to its last
120 ns and the spilled heads that are too old go; then the scheduler's pick that is young enough and not known as bad leaves
its queue and takes its credits and tokens (11 R354-R358); with no pick, the port keeps what the scheduler's round leaves
(11 R358). A packet on the wire leaves the module when its last byte has left, with the fabric time of its first byte as TS
when the module originated it; its bytes are counted for its port, and for its demand cell when it was received; its copy is
freed, the ordered sets that are due go, and the committed packet starts (02 R39, R70; 05 R150; 11 R376; 12 R378). -/
def Obligations.CommitAndTransmitRun : Prop :=
  (∀ (s : State) (port : Port) (k : Nat) (d : Desc) (e : EgPort),
    let p := port.toNat
    let v := s.sys.eg p
    let y := (if v.tx.isSome ∧ v.committed.isNone then s.sys.toMono (v.txEnd - 120) else s.sys).dropSpilled p
    (y.eg p).committed = none → y.pick p = (some (k, d), e) → y.descOld d = false → y.descBad d = false →
      exec (.packetCommit port) s = .next { s with sys := y.commit p k d e }) ∧
  (∀ (s : State) (port : Port) (e : EgPort),
    let p := port.toNat
    let v := s.sys.eg p
    let y := (if v.tx.isSome ∧ v.committed.isNone then s.sys.toMono (v.txEnd - 120) else s.sys).dropSpilled p
    (y.eg p).committed = none → y.pick p = (none, e) →
      exec (.packetCommit port) s = .next { s with sys := y.modEg p fun _ => e }) ∧
  (∀ (s : State) (port : Port) (d : Desc) (r : PktRec), (s.sys.eg port.toNat).tx = some d → s.sys.pktRec d.id = some r →
    let x := (s.sys.toMono (s.sys.eg port.toNat).txEnd).txLeave port.toNat d r
    exec (.packetTransmitDone port) s = .next { s with sys := (x.txFree port.toNat d r).txNext port.toNat } ∧
    x.out = s.sys.out ++ [.packet (BitVec.ofNat 10 port.toNat) (r.asSent d) !r.crcOk] ∧
    (x.port port.toNat).txBytes = (s.sys.port port.toNat).txBytes + d.len ∧
    ∀ i, r.ingress = some i →
      getD x.ocs.matrix (64 * s.sys.demandBucket i.toNat + s.sys.demandBucket port.toNat) 0 =
        getD s.sys.ocs.matrix (64 * s.sys.demandBucket i.toNat + s.sys.demandBucket port.toNat) 0 + d.len)

/-- SPILL_READBACK, RING_ENTRY, REPLICATION_RESUME. When no spilled head is too old, a spilled packet with tokens, a grant
and room comes back into the spill-return pool and is marked read, a multicast packet for its one copy (05 R170, R171); a
turn of a ring direction moves the packets in the slots, and memory transfers after them when it is memory's; the first
packet that waits enters when two packet slots are then free (01 R21; 05 R174, R175); after the packets that waited behind
it alone, the copy that waits for a die is made when its Felt transit pool has room, and the packets that waited behind it
follow (03 R74; 09 R299).

CREDIT_OS_SEND, TIME_OS_SEND, LINK_ID_SEND (02 R64, R65, R67, R68, R70): on a linked port the time reaches the moment at
which the set falls due, and, between packets, the sets that are due then go in the order CREDIT, TIME, LINK_ID. Each takes
the port's next sequence number; CREDIT carries the four counters of freed cells, TIME the fabric time and its flags, and
LINK_ID the module's coordinates, the port and its link state.

SHAPER_REFILL and NOTICE_CACHE_EXPIRE. At a refill the settings that wait take effect, every notice bucket gains 4 up to 32,
and every port keeps its queues (11 R361, R363; 03 R108); the oldest pair leaves a notice cache 65,536 ns after it entered.
-/
def Obligations.BufferAndOrderedSetEventsRun : Prop :=
  (∀ (s : State) (port : Port) (tc : BitVec 3) (turned : Bool) (d : Desc) (rest : List Desc) (r : PktRec),
    let k := queueKey tc turned
    let q := (s.sys.eg port.toNat).q k
    let die := port.toNat / 64
    (∀ x ∈ q, s.sys.descOld x = false) → q.drop (q.takeWhile fun x => !x.spilled).length = d :: rest →
    s.sys.pktRec d.id = some r →
    sum ((q.takeWhile fun x => !x.spilled).map Desc.len) < 16384 → d.len ≤ s.sys.tokens .readBack →
    s.sys.hearth.noGrant.contains die = false → getD s.sys.sw.spillRet die 0 + r.cells ≤ returnCells →
      exec (.spillReadback port tc turned) s =
        .next { s with
          sys :=
            (((s.sys.modSw fun w =>
              { w with
                pkt := if d.mcast then w.pkt else put w.pkt d.id { r with pool := .spillReturn die }
                spillRet := modify w.spillRet die 0 (· + r.cells)
                spillHeld := if d.mcast then w.spillHeld else w.spillHeld - d.len }).memUnits die false r.pkt.bytes).spend
              .readBack d.len).modEg
              port.toNat fun e =>
                { e with
                  queue := modify e.queue k [] fun l =>
                    l.map fun x => if x.id = d.id then { x with spilled := false, returned := d.mcast } else x } }) ∧
  (∀ (s : State) (die : Die) (up : Bool) (x : Crossing) (rest : List Crossing),
    let t := s.sys.ringMove die.toNat up false
    (t.ringDir die.toNat up).waitPkt = x :: rest → (t.ringDir die.toNat up).pkts.length + 2 ≤ pktSlots →
      exec (.ringEntry die up false) s =
        .next { s with sys := t.modRing die.toNat up fun r => { r with pkts := r.pkts ++ [x], waitPkt := rest } }) ∧
  (∀ (s : State) (die : Die) (up : Bool) (x : Crossing) (rest : List Crossing),
    let t := (s.sys.ringPkt die.toNat up).ringMove die.toNat up true
    (t.ringDir die.toNat up).waitMem = x :: rest → (t.ringDir die.toNat up).mems.length + 2 ≤ memSlots →
      exec (.ringEntry die up true) s =
        .next { s with sys := t.modRing die.toNat up fun r => { r with mems := r.mems ++ [x], waitMem := rest } }) ∧
  (∀ (s : State) (die : Die) (w : ReplWait) (r : PktRec),
    let d := die.toNat
    let t := s.sys.passUnicast d s.sys.sw.replWait.length
    t.sw.replWait.find? (fun w => w.die == d) = some w → w.unicast = none → t.pktRec w.id = some r →
    t.copyRoom d r.cells = true →
      let u := t.modSw fun x => { x with replWait := x.replWait.filter fun y => !(y.die == d && y.id == w.id) }
      exec (.replicationResume die) s =
        .next { s with
          sys := ((u.copyDown d w.id w.ports).drainAfter r.pool).passUnicast d u.sw.replWait.length }) ∧
  (∀ (s : State) (port : Port), (s.sys.port port.toNat).linked = true →
    let p := port.toNat
    let q := s.sys.port p
    (exec (.creditOsSend port) s =
      .next { s with sys := (if q.freed = q.lastTx then s.sys.toMono (q.creditSent + 1000) else s.sys).osFlush p }) ∧
    (exec (.timeOsSend port) s = .next { s with sys := (s.sys.toExt (s.sys.timeDueAt p)).osFlush p }) ∧
    (exec (.linkIdSend port) s = .next { s with sys := (s.sys.toMono (q.linkSent + 1048576)).osFlush p }) ∧
    ((s.sys.eg p).tx = none →
      s.sys.osFlush p =
        (let a := if s.sys.creditDue p then s.sys.creditOut p else s.sys
         let b := if serialGe64 a.clk.ext (a.timeDueAt p) then a.timeOut p else a
         if (b.port p).linkSent + 1048576 ≤ b.clk.mono then b.linkIdOut p else b))) ∧
  (∀ (s : State) (port : Port),
    let p := port.toNat
    let q := s.sys.port p
    (s.sys.creditOut p).out =
      s.sys.out ++ [.orderedSet (BitVec.ofNat 10 p) (osBuild 1 q.osSeq (q.freed.flatMap fun v => toBe 2 v.toNat))] ∧
    (s.sys.creditOut p).port p = { q with osSeq := q.osSeq + 1, lastTx := q.freed, creditSent := s.sys.clk.mono } ∧
    (s.sys.timeOut p).out =
      s.sys.out ++
        [.orderedSet (BitVec.ofNat 10 p)
          (osBuild 2 q.osSeq (toBe 1 (b2n s.sys.clk.valid * 128 + b2n s.sys.clk.holdover * 64) ++ [0] ++ toBe 4 s.sys.now.toNat))] ∧
    ((s.sys.timeOut p).port p).osSeq = q.osSeq + 1 ∧
    (s.sys.nv.coordValid = true →
      (s.sys.linkIdOut p).out =
        s.sys.out ++
          [.orderedSet (BitVec.ofNat 10 p)
            (osBuild 3 q.osSeq
              (toBe 1 (s.sys.nv.plane.toNat * 16 + 1) ++ toBe 1 s.sys.nv.group.toNat ++ toBe 1 s.sys.nv.index.toNat ++
                toBe 2 p ++ toBe 1 q.st.code))]) ∧
    ((s.sys.linkIdOut p).port p).osSeq = q.osSeq + 1) ∧
  (∀ (s : State), ∃ t, exec .shaperRefill s = .next t ∧ t.pending = s.pending ∧ t.stores = s.stores ∧
    t.sys.sw.sched = s.sys.nv.sched ∧ t.sys.sw.pkt = s.sys.sw.pkt ∧
    t.sys.fwd.bucket = s.sys.fwd.bucket.map (fun e => (e.1, min 32 (e.2 + 4))) ∧
    ∀ p, (t.sys.eg p).queue = (s.sys.eg p).queue) ∧
  (∀ (s : State) (die : Die) (a b : Word) (time : Word64) (rest : List (Word × Word × Word64)),
    getD s.sys.fwd.cache die.toNat [] = (a, b, time) :: rest →
      exec (.noticeCacheExpire die) s =
        .next { s with
          sys := (s.sys.toExt (time + 65536)).modFwd fun f => { f with cache := put f.cache die.toNat rest } })

/-- CREDIT_OS_RECEIVE (02 R66): on a trained link, a CREDIT ordered set of good CRC returns in each pool the difference
modulo 2^16 between its counter and the last one, and nothing else of the module changes. -/
def Obligations.CreditReceiveReturnsTheDifference : Prop :=
  ∀ (s : State) (port : Port) (bytes : List Byte), (s.sys.port port.toNat).linked = true → bytes.length = 16 →
    osOk bytes = true → beAt bytes 0 1 = 1 →
      exec (.creditOsReceive port bytes) s =
        .next { s with
          sys := s.sys.modPort port.toNat fun q =>
            { q with
              osLast := s.sys.clk.mono
              credit := (List.range 4).map fun i =>
                nth q.credit i 0 + (BitVec.ofNat 16 (beAt bytes (2 + 2 * i) 2) - nth q.lastRx i 0).toNat
              lastRx := (List.range 4).map fun i => BitVec.ofNat 16 (beAt bytes (2 + 2 * i) 2) } }

/-! ## Table versions and the table command object -/

/-- The registers of the versions: a FREE version becomes ACTIVE, an ACTIVE version becomes RETIRING for a drain bound while
the other is ACTIVE, and FREE at the end of that interval (03 R80); the drain bound persists within 100-100,000 µs (R81);
the source epoch and the hash seed of an empty FREE version are written (R84, 04 R112). -/
def Obligations.VersionRegistersRun : Prop :=
  (∀ (s : State) (path : Path) (ver : Bool), s.sys.takes path 0x3002 → s.sys.longOn ver = false →
    (s.sys.verState ver = 0 →
      exec (.versionStateWrite path ver 1) s =
        .next { s with sys := replied path 0x3002 0 (b2n ver) (Sys.setVer ver 1 none) s.sys }) ∧
    (s.sys.verState ver = 1 → s.sys.verState (!ver) = 1 →
      exec (.versionStateWrite path ver 2) s =
        .next { s with
          sys := replied path 0x3002 0 (b2n ver) (Sys.setVer ver 2 (some (s.sys.startInterval s.sys.drainNs))) s.sys })) ∧
  (∀ (s : State) (ver : Bool) (i : Interval), (if ver then s.sys.fwd.retire1 else s.sys.fwd.retire0) = some i →
    s.sys.verState ver = 2 →
      exec (.versionRetireExpire ver) s = .next { s with sys := (s.sys.toEnd i).setVer ver 0 none }) ∧
  (∀ (s : State) (path : Path) (value : Word), s.sys.takes path 0x3001 → s.sys.rwsOk = .ok () → 100 ≤ value.toNat →
    value.toNat ≤ 100000 →
      exec (.drainBoundWrite path value) s =
        .next { s with
          sys := replied path 0x3001 0 0 (fun x => (x.modNv fun n => { n with drainBound := value.toNat }).jrnl) s.sys }) ∧
  (∀ (s : State) (path : Path) (b : Bool), s.sys.takes path 0x3003 →
      exec (.sourceEpochWrite path (if b then 1 else 0)) s =
        .next { s with sys := replied path 0x3003 0 0 (fun x => x.modFwd fun f => { f with epoch := b }) s.sys }) ∧
  (∀ (s : State) (path : Path) (ver : Bool) (value : Word), s.sys.takes path 0x3010 → s.sys.verState ver = 0 →
    s.sys.copying ver = false → (s.sys.tab.seqVer ver).em = [] → (s.sys.tab.seqVer ver).lpm = [] →
      exec (.hashSeedWrite path ver value) s =
        .next { s with
          sys := replied path 0x3010 0 (b2n ver) (fun x => x.modTab fun t => t.modVer ver fun v => { v with seed := value })
            s.sys })

/-- EM_INSERT, EM_DELETE, LPM_INSERT, LPM_DELETE: where a write to the version is open and no flush keeps the reference out,
the sequencer takes up the write of the place that R117 names, or the removal of the key, and the command ends DONE; a key
that is not there ends NOTFOUND with no write (04 R116-R118, R122). -/
def Obligations.TableEntriesAreWritten : Prop :=
  (∀ (s : State) (path : Path) (ver : Bool) (key result flags : Word) (p : Nat), s.sys.tableOpen path ver →
    fld flags 31 31 = 1 → resultOk result = true → s.sys.tab.long.any (fun l => l.blocks ver 1 result [] {}) = false →
    (s.sys.tab.seqVer ver).emPlace { key, result := resultOf result } = some p →
      exec (.emInsert path ver key result flags) s =
        .next { s with
          sys := replied path 0x3020 0 0
            (tableTaken path { op := 1, ver, mode := false, scope := 0, index := 0 } [(0, key), (1, result), (2, flags)]
              (.em ver p (some { key, result := resultOf result })) 2 0 []) s.sys }) ∧
  (∀ (s : State) (path : Path) (ver : Bool) (key : Word), s.sys.tableOpen path ver →
    (∀ p e, (s.sys.tab.seqVer ver).emFind key = some (p, e) →
      exec (.emDelete path ver key) s =
        .next { s with
          sys := replied path 0x3020 0 0
            (tableTaken path { op := 2, ver, mode := false, scope := 0, index := 0 } [(0, key)] (.em ver p none) 2 0 [])
            s.sys }) ∧
    ((s.sys.tab.seqVer ver).emFind key = none →
      exec (.emDelete path ver key) s =
        .next { s with
          sys := replied path 0x3020 0 0
            (tableTaken path { op := 2, ver, mode := false, scope := 0, index := 0 } [(0, key)] .none 3 0 []) s.sys })) ∧
  (∀ (s : State) (path : Path) (ver : Bool) (pfx result flags : Word) (p : Nat), s.sys.tableOpen path ver →
    fld flags 31 31 = 1 → resultOk result = true → prefixOk pfx (fld flags 5 0) = true →
    s.sys.tab.long.any (fun l => l.blocks ver 5 result [] {}) = false →
    (s.sys.tab.seqVer ver).lpmPlace { pfx, len := fld flags 5 0, result := resultOf result } = some p →
      exec (.lpmInsert path ver pfx result flags) s =
        .next { s with
          sys := replied path 0x3020 0 0
            (tableTaken path { op := 5, ver, mode := false, scope := 0, index := 0 } [(0, pfx), (1, result), (2, flags)]
              (.lpm ver p (some { pfx, len := fld flags 5 0, result := resultOf result })) 2 0 []) s.sys }) ∧
  (∀ (s : State) (path : Path) (ver : Bool) (pfx len : Word) (p : Nat) (e : LpmEntry), s.sys.tableOpen path ver →
    prefixOk pfx (fld len 5 0) = true → (s.sys.tab.seqVer ver).lpmFind pfx (fld len 5 0) = some (p, e) →
      exec (.lpmDelete path ver pfx len) s =
        .next { s with
          sys := replied path 0x3020 0 0
            (tableTaken path { op := 6, ver, mode := false, scope := 0, index := 0 } [(0, pfx), (2, len)] (.lpm ver p none)
              2 0 []) s.sys })

/-- GROUP_WRITE and SPRAY_WRITE hand the sequencer the group bitmap and the 64 spray slots of their words (03 R86, 04 R123,
R134). -/
def Obligations.GroupsAndSpraysAreWritten : Prop :=
  (∀ (s : State) (path : Path) (ver : Bool) (index : BitVec 16) (valid : Word) (bitmap : List Word), s.sys.tableOpen path ver →
    let arg (n : Nat) : Word := Slot.arg ((s.sys.setArgs .table path ((0, valid) :: argsFrom1 bitmap)).slot .table path) n
    let g : Group := { valid := fld (arg 0) 31 31 == 1, ports := bitmapOf arg }
    s.sys.tab.long.any (fun l => l.blocks ver 9 0 [] g) = false →
      exec (.groupWrite path ver index valid bitmap) s =
        .next { s with
          sys := replied path 0x3020 0 0
            (tableTaken path { op := 9, ver, mode := false, scope := 0, index := index.toNat }
              ((0, valid) :: argsFrom1 bitmap) (.group ver index.toNat g) 2 0 []) s.sys }) ∧
  (∀ (s : State) (path : Path) (ver : Bool) (index : BitVec 16) (slots : List Word), s.sys.tableOpen path ver →
    index.toNat < 16384 →
    let arg (n : Nat) : Word := Slot.arg ((s.sys.setArgs .table path (argsFrom1 slots)).slot .table path) n
    s.sys.tab.long.any (fun l => l.blocks ver 11 0 (slotsOf arg) {}) = false →
      exec (.sprayWrite path ver index slots) s =
        .next { s with
          sys := replied path 0x3020 0 0
            (tableTaken path { op := 11, ver, mode := false, scope := 0, index := index.toNat } (argsFrom1 slots)
              (.spray ver index.toNat (slotsOf arg)) 2 0 []) s.sys })

/-- EM_SEARCH, LPM_SEARCH, GROUP_READ, SPRAY_READ, FILTER_READ read the version as it stands after every write that the
sequencer took up, in any state of the version, and write nothing (04 R133, R137).

EM_NEXT and LPM_NEXT answer the first entry at or after the cursor and the cursor behind it, or END (04 R138). -/
def Obligations.TableReadsAndWalksRun : Prop :=
  (∀ (s : State) (path : Path) (ver : Bool), s.sys.takes path 0x3020 → (s.sys.slot .table path).busy = false →
    let v := s.sys.tab.seqVer ver
    (∀ (key : Word),
      exec (.emSearch path ver key) s =
        .next { s with
          sys := replied path 0x3020 0 0
            (match v.emFind key with
              | some e =>
                tableTaken path { op := 3, ver, mode := false, scope := 0, index := 0 } [(0, key)] .none 2 0 (emWords e)
              | none => tableTaken path { op := 3, ver, mode := false, scope := 0, index := 0 } [(0, key)] .none 3 0 [])
            s.sys }) ∧
    (∀ (longest : Bool) (gei len : Word), (longest = true ∨ prefixOk gei (fld len 5 0) = true) →
      exec (.lpmSearch path ver longest gei len) s =
        .next { s with
          sys := replied path 0x3020 0 0
            (match (if longest then v.lpmLookup gei else v.lpmFind gei (fld len 5 0)) with
              | some e =>
                tableTaken path { op := 7, ver, mode := longest, scope := 0, index := 0 } [(0, gei), (2, len)] .none 2 0
                  (lpmWords e)
              | none =>
                tableTaken path { op := 7, ver, mode := longest, scope := 0, index := 0 } [(0, gei), (2, len)] .none 3 0 [])
            s.sys }) ∧
    (∀ (index : BitVec 16),
      exec (.groupRead path ver index) s =
        .next { s with
          sys := replied path 0x3020 0 0
            (tableTaken path { op := 10, ver, mode := false, scope := 0, index := index.toNat } [] .none 2 0
              ((0, BitVec.ofNat 32 (b2n (getD v.groups index.toNat {}).valid * 2 ^ 31)) ::
                bitmapWords (getD v.groups index.toNat {}).ports)) s.sys }) ∧
    (∀ (index : BitVec 16), index.toNat < 16384 →
      exec (.sprayRead path ver index) s =
        .next { s with
          sys := replied path 0x3020 0 0
            (tableTaken path { op := 12, ver, mode := false, scope := 0, index := index.toNat } [] .none 2 0
              (slotWords (v.sprayOf index.toNat))) s.sys }) ∧
    (∀ (index : BitVec 16),
      exec (.filterRead path ver index) s =
        .next { s with
          sys := replied path 0x3020 0 0
            (tableTaken path { op := 17, ver, mode := false, scope := 0, index := index.toNat } [] .none 2 0
              [(0, BitVec.ofNat 32 (v.filter index.toNat / 2 ^ 32)), (1, BitVec.ofNat 32 (v.filter index.toNat))]) s.sys })) ∧
  (∀ (s : State) (path : Path) (ver : Bool) (cursor : Word), s.sys.takes path 0x3020 →
    (s.sys.slot .table path).busy = false →
    let v := s.sys.tab.seqVer ver
    exec (.emNext path ver cursor) s =
      .next { s with
        sys := replied path 0x3020 0 0
          (fun x =>
            tableTaken path { op := 4, ver, mode := false, scope := 0, index := 0 } [] .none
              (nextEntry v.em emRegions (cursorOf cursor) emWords).1 0 (nextEntry v.em emRegions (cursorOf cursor) emWords).2
              (x.modSlot .table path fun sl => { sl with cursor := cursorOf cursor })) s.sys } ∧
    exec (.lpmNext path ver cursor) s =
      .next { s with
        sys := replied path 0x3020 0 0
          (fun x =>
            tableTaken path { op := 8, ver, mode := false, scope := 0, index := 0 } [] .none
              (nextEntry v.lpm lpmRegions (cursorOf cursor) lpmWords).1 0 (nextEntry v.lpm lpmRegions (cursorOf cursor) lpmWords).2
              (x.modSlot .table path fun sl => { sl with cursor := cursorOf cursor })) s.sys })

/-- FLUSH_BY_PORT, VERSION_CLEAR, VERSION_COPY and BULK_LOAD join the sequencer's queue of long commands; a bulk load holds
the records that its region gave (04 R128, R140, R143, R144, R146). -/
def Obligations.LongTableCommandsAreQueued : Prop :=
  (∀ (s : State) (path : Path) (ver : Bool) (port : BitVec 16) (scope : BitVec 4), s.sys.tableOpen path ver →
    port.toNat < 1024 →
      exec (.flushByPort path ver port scope) s =
        .next { s with
          sys := replied path 0x3020 0 0
            (tableQueued path { op := 13, ver, mode := false, scope, index := port.toNat } [] []
              { path, op := 13, ver, port := port.toNat, scope }) s.sys }) ∧
  (∀ (s : State) (path : Path) (ver : Bool), s.sys.tableOpen path ver → s.sys.verState ver = 0 →
      exec (.versionClear path ver) s =
        .next { s with
          sys := replied path 0x3020 0 0
            (tableQueued path { op := 14, ver, mode := false, scope := 0, index := 0 } [] [] { path, op := 14, ver, scope := 0 })
            s.sys }) ∧
  (∀ (s : State) (path : Path) (ver : Bool), s.sys.tableOpen path ver → s.sys.verState ver = 0 →
      exec (.versionCopy path ver) s =
        .next { s with
          sys := replied path 0x3020 0 0
            (tableQueued path { op := 15, ver, mode := false, scope := 0, index := 0 } [] [] { path, op := 15, ver, scope := 0 })
            s.sys }) ∧
  (∀ (s : State) (path : Path) (ver : Bool) (handle count : Word) (host : Dma) (b : Bulk) (data : List Byte),
    s.sys.tableOpen path ver → s.sys.region path handle (16 * count.toNat) = .ok b →
    regionRead s.stores path b (16 * count.toNat) host = .ok data →
      exec (.bulkLoad path ver handle count host) s =
        .next { s with
          sys := replied path 0x3020 0 0
            (tableQueued path { op := 16, ver, mode := false, scope := 0, index := 0 } [(0, handle), (1, count)]
              (usesOf path handle)
              { path, op := 16, ver, scope := 0, handle, count := count.toNat, host := .data data }) s.sys })

/-- TABLE_SEQUENCER_STEP and TABLE_WRITE_COMPLETE, while a Collier is left. The steps of a running flush and of a clear hand
over the writes of their range, a flush keeps its counts, and the last step ends the command DONE (04 R140, R143); a copy
hands over the entries, spray sets and groups of its range and ends FAILED with GZ_TBL_FULL at an entry with no place
(R144); a bulk load applies its records in order and ends at the first that fails, with that record's code (R146, R147). The
oldest writes in flight complete in order and the command that the last of them ends leaves BUSY (R124, R125). -/
def Obligations.SequencerRuns : Prop :=
  (∀ (s : State) (n : Nat) (l : LongJob) (rest : List LongJob), s.sys.tab.long = l :: rest → l.finished = false →
    s.sys.boot.bothLost = false →
    let hi := l.pos + n
    let v := s.sys.tab.seqVer l.ver
    let answer (t : Tables) : Prop := exec (.tableSequencerStep n) s = .next { s with sys := { s.sys with tab := t } }
    (l.op = 13 →
      let r := flushSteps l v l.pos hi
      let counts := (List.range 4).map fun i => nth l.counts i 0 + nth r.2 i 0
      let l1 := { l with pos := hi, counts }
      let t1 := { r.1.foldl (fun t w => t.push w) s.sys.tab with long := l1 :: rest }
      answer
        (if hi < nth (walkStarts l.scope) 4 0 then t1
         else t1.endLong l1 rest 2 0 ((List.range 4).map fun i => (i, BitVec.ofNat 32 (nth counts i 0))))) ∧
    (l.op = 14 →
      let l1 := { l with pos := hi }
      let t1 := { (clearSteps l v l.pos hi).foldl (fun t w => t.push w) s.sys.tab with long := l1 :: rest }
      answer (if hi < nth (walkStarts 15) 4 0 then t1 else t1.endLong l1 rest 2 0 [])) ∧
    (l.op = 15 →
      let st := walkStarts 15
      let src := s.sys.tab.seqVer (!l.ver)
      let es :=
        (inSteps src.em (stepOf emRegions) 0 l.pos hi).map (fun e => Sum.inl e.2) ++
          (inSteps src.lpm (stepOf lpmRegions) (nth st 1 0) l.pos hi).map fun e => Sum.inr e.2
      let sets := inSteps (v.spray.map fun e => (e.1, src.sprayOf e.1)) id (nth st 2 0) l.pos hi ++
        inSteps src.spray id (nth st 2 0) l.pos hi
      let groups := inSteps (v.groups.map fun e => (e.1, getD src.groups e.1 {})) id (nth st 3 0) l.pos hi ++
        inSteps src.groups id (nth st 3 0) l.pos hi
      let r := copyEntries l.ver es (nth l.counts 0 0) s.sys.tab
      let l1 := { l with pos := hi, counts := [r.2.1, 0, 0, 0] }
      let t1 := sets.foldl (fun t e => t.push (.spray l.ver e.1 e.2)) r.1
      let t2 := { groups.foldl (fun t e => t.push (.group l.ver e.1 e.2)) t1 with long := l1 :: rest }
      answer
        (if r.2.2 = false then r.1.endLong l1 rest 5 tblFull [(0, BitVec.ofNat 32 r.2.1)]
         else if hi < nth st 4 0 then t2 else t2.endLong l1 rest 2 0 [(0, BitVec.ofNat 32 r.2.1)])) ∧
    (l.op = 16 → ∀ data, l.host = .data data →
      let r := bulkSteps l data rest n l.pos s.sys.tab
      let l1 := { l with pos := r.2.1 }
      (r.2.2 = 0 →
        answer
          (if l.count ≤ r.2.1 then r.1.endLong l1 rest 2 0 [(0, BitVec.ofNat 32 r.2.1)]
           else { r.1 with long := l1 :: rest })) ∧
      (r.2.2 ≠ 0 → r.2.2 ≠ tblFull → answer (r.1.endLong l1 rest 5 r.2.2 [(0, BitVec.ofNat 32 r.2.1)])) ∧
      (r.2.2 = tblFull →
        exec (.tableSequencerStep n) s =
          .next { s with
            sys := { s.sys with tab := r.1.endLong l1 rest 5 tblFull [(0, BitVec.ofNat 32 r.2.1)] }.countFull l.ver }))) ∧
  (∀ (s : State) (a b : List InFlight) (w : InFlight) (path : Path) (status abort : Word) (res : List (Nat × Word)),
    s.sys.boot.bothLost = false → splitOwner s.sys.tab.inflight = (a, some w, b) →
    w.owner = some (path, status, abort, res) →
      ∃ t, exec .tableWriteComplete s = .next t ∧ t.pending = s.pending ∧ t.stores = s.stores ∧
        t.sys.tab =
          { s.sys.tab.applyAll (a ++ [w]) with
            inflight := b
            long := (s.sys.tab.applyAll (a ++ [w])).long.filter fun l => !(l.finished && l.path == path) } ∧
        (t.sys.slot .table path).status = status)

/-! ## Flow control and the admission pass -/

/-- CREDIT_GRANT_RECEIVE and GRANT_REFRESH_TIMER (05 R158, R160, R180): a grant that follows the last accepted one of a live
context in the cache moves the sender's context, and what depends on it goes on; while a number is missing the receiver
sends a grant 65,536 ns after its last.

TIMER_WHEEL_SLOT, FLOW_CONTEXT_FREE, CONTEXT_FETCH_COMPLETE (05 R164, R179, R182, R183; 01 R28): the contexts of a core die
whose deadline lies in the control cycle of the next one are acted on at its end; a CLOSING context is freed when its drain
bound has passed, every object forgets it, and the key of a sender rests for the idle time and a drain bound; a grant whose
context has been fetched is handled, when the flow-context tokens of the fetch remain, and spends them. -/
def Obligations.FlowControlRuns : Prop :=
  (∀ (s : State) (core : Core) (d : Delivery) (t : Sys) (i : Nat) (f : Flow),
    s.sys.takeDelivery (fun d => d.core == core.toNat && d.pkt.kind == 6) = some (d, t) →
    t.findFlow d.pkt.sgei d.pkt.flow true = some (i, f) → f.st ≠ .stale → t.isCached core.toNat i = true →
    serialAfter d.pkt.seq f.gseq = true →
      exec (.creditGrantReceive core) s =
        .next { s with
          sys :=
            ((((t.touch core.toNat i).takeGrant i d.pkt.seq (GrantBody.of d.pkt.payload)).modFlow i fun f =>
              { f with lastIv := (t.touch core.toNat i).startInterval 0 }).senderMoved i).consume d }) ∧
  (∀ (s : State) (i : Nat) (f : Flow), get? s.sys.flows.ctx i = some f → f.st = .opened → f.outbound = false →
    f.next ≠ f.ack →
      exec (.grantRefreshTimer i) s = .next { s with sys := (s.sys.toExt (f.grantTime + 65536)).sendGrant i false }) ∧
  (∀ (s : State) (core : Core) (e : Nat × Nat) (r : List (Nat × Nat)),
    ((s.sys.flows.ctx.filter fun e => e.2.home == core.toNat).filterMap fun e =>
        (s.sys.deadline e.2).map fun n => (e.1, n)) = e :: r →
      let n := s.sys.slotEnd (r.foldl (fun a x => min a x.2) e.2)
      exec (.timerWheelSlot core) s =
        .next { s with
          sys := (((e :: r).filter fun x => x.2 ≤ n).foldl (fun u x => u.wheelAct core.toNat x.1) (s.sys.advance n)).settle }) ∧
  (∀ (s : State) (i : Nat) (f : Flow) (v : Interval), get? s.sys.flows.ctx i = some f → f.st = .closing →
    f.closing = some v →
      exec (.flowContextFree i) s = .next { s with sys := (s.sys.toEnd v).freeFlow i } ∧
      ((s.sys.toEnd v).freeFlow i).flows.ctx = del s.sys.flows.ctx i ∧
      ((s.sys.toEnd v).freeFlow i).bc.objs.map (fun o => (o.obj, o.receivers.map fun r => r.flow)) =
        s.sys.bc.objs.map (fun o => (o.obj, o.receivers.map fun r => if r.flow = some i then none else r.flow)) ∧
      (f.outbound = true →
        (f.peer, f.flow, { f.lastIv with len := s.sys.nv.flowIdle * 1000 + s.sys.drainNs }) ∈
          ((s.sys.toEnd v).freeFlow i).flows.resting)) ∧
  (∀ (s : State) (core : Core) (d : Delivery) (rest : List Delivery) (i : Nat) (f : Flow),
    getD s.sys.flows.missq core.toNat [] = d :: rest → s.sys.findFlow d.pkt.sgei d.pkt.flow true = some (i, f) →
    d.pkt.kind = 6 → s.sys.fetchBytes core.toNat (some i) ≤ s.sys.tokens .flow →
    s.sys.hearth.noGrant.contains (16 + core.toNat) = false →
      exec (.contextFetchComplete core) s =
        .next { s with
          sys :=
            ((((((s.sys.memAccess (16 + core.toNat) false []).spend .flow 256).modFlows fun f =>
                  { f with missq := put f.missq core.toNat rest }).touch core.toNat i).grantWith core.toNat d s.sys).settle) })

/-- ADMISSION_PASS (08 R278, R279). The earliest READY node of the core die, with everything it needs free, starts, takes
its units and is RUNNING; the pass ends when no later node is READY there. A node whose needs are not free, and that has not
waited 8 control cycles, does not stop the pass: the nodes after it that find their needs free, and in no pool that it
holds, are started one after the other. A node that has waited 8 control cycles holds every pool it lacks from then on, and
a later node that takes from one of them is not started in that pass. -/
def Obligations.AdmissionRuns : Prop :=
  (∀ (s : State) (core : Core) (k gid i : Nat) (g : Graph) (n : Node) (t : Sys),
    earliest (s.sys.settle.readyAfter core.toNat 0) = some (k, gid, i, g, n) →
    ((s.sys.settle.poolsOf g n).all fun e => e.2) = true → s.sys.settle.startNode gid i g n = .go t →
    earliest ((t.takeIn gid i core.toNat n).readyAfter core.toNat (k + 1)) = none →
    sum (s.sys.graphs.graph.map fun e => e.2.nodes.length) ≠ 0 →
      exec (.admissionPass core) s = .next { s with sys := t.takeIn gid i core.toNat n }) ∧
  (∀ (s : State) (core : Core) (k₀ gid₀ i₀ k₁ gid₁ i₁ k₂ gid₂ i₂ : Nat) (g₀ g₁ g₂ : Graph) (n₀ n₁ n₂ : Node) (t₁ t₂ : Sys),
    let c := core.toNat
    let a := s.sys.settle
    let u₁ := t₁.takeIn gid₁ i₁ c n₁
    let u₂ := t₂.takeIn gid₂ i₂ c n₂
    earliest (a.readyAfter c 0) = some (k₀, gid₀, i₀, g₀, n₀) → ((a.poolsOf g₀ n₀).all fun e => e.2) = false →
    a.clk.cycle < n₀.readyCycle + 8 →
    earliest (a.readyAfter c (k₀ + 1)) = some (k₁, gid₁, i₁, g₁, n₁) →
    ((a.poolsOf g₁ n₁).all fun e => e.2 && !n₀.holds.contains e.1) = true → a.startNode gid₁ i₁ g₁ n₁ = .go t₁ →
    earliest (u₁.readyAfter c (k₁ + 1)) = some (k₂, gid₂, i₂, g₂, n₂) →
    ((u₁.poolsOf g₂ n₂).all fun e => e.2 && !n₀.holds.contains e.1) = true → u₁.startNode gid₂ i₂ g₂ n₂ = .go t₂ →
    earliest (u₂.readyAfter c (k₂ + 1)) = none → 3 ≤ sum (s.sys.graphs.graph.map fun e => e.2.nodes.length) →
      exec (.admissionPass core) s = .next { s with sys := u₂ }) ∧
  (∀ (s : State) (core : Core) (k₀ gid₀ i₀ k₁ gid₁ i₁ : Nat) (g₀ g₁ : Graph) (n₀ n₁ : Node),
    let c := core.toNat
    let a := s.sys.settle
    let lacks := ((a.poolsOf g₀ n₀).filter fun e => !e.2).map fun e => e.1
    let holds := n₀.holds ++ lacks.filter fun x => !n₀.holds.contains x
    let b := a.modNode gid₀ i₀ fun n => { n with holds }
    earliest (a.readyAfter c 0) = some (k₀, gid₀, i₀, g₀, n₀) → lacks ≠ [] → n₀.readyCycle + 8 ≤ a.clk.cycle →
    earliest (b.readyAfter c (k₀ + 1)) = some (k₁, gid₁, i₁, g₁, n₁) →
    ((b.poolsOf g₁ n₁).any fun e => holds.contains e.1) = true → earliest (b.readyAfter c (k₁ + 1)) = none →
    2 ≤ sum (s.sys.graphs.graph.map fun e => e.2.nodes.length) →
      exec (.admissionPass core) s = .next { s with sys := b })

/-! ## Collectives -/

/-- JOB_ACTIVATE, JOB_READ, JOB_FLUSH, JOB_DEACTIVATE and the end of a reclaim (07 R257-R259, R262): an inactive tag becomes
active with its generation, with valid time; a read answers the record and changes nothing but its slot; a flush gives the
tag its new generation and makes what is bound to another one STALE; the reclaim frees the STALE contexts, graphs, flow
contexts and objects of the tag, with every reference to them, and ends the command. That a deactivated tag keeps its
generation is the model's choice (log 65). -/
def Obligations.JobCommandsRun : Prop :=
  (∀ (s : State) (path : Path) (tag : BitVec 16) (gen : BitVec 8), s.sys.idleSlot .coll path → s.sys.clk.valid = true →
    tag ≠ 0 → tag ≠ 0xFFFF → (s.sys.job tag).active = false →
      exec (.jobActivate path tag gen) s =
        .next { s with
          sys := replied path 0x4010 0 0
            (fun x =>
              ((cmdTaken .coll path 4 [(0, jobArg tag gen)] [] x).setJob tag.toNat { active := true, gen }).done .coll path [])
            s.sys }) ∧
  (∀ (s : State) (path : Path) (tag : BitVec 16), s.sys.idleSlot .coll path →
      exec (.jobRead path tag) s =
        .next { s with
          sys := replied path 0x4010 0 0
            (fun x =>
              (cmdTaken .coll path 7 [(0, jobArg tag 0)] [] x).done .coll path
                [(0, BitVec.ofNat 32 (b2n (x.job tag).active * 2 ^ 31 + (x.job tag).gen.toNat * 256))]) s.sys }) ∧
  (∀ (s : State) (path : Path) (tag : BitVec 16) (gen : BitVec 8), s.sys.idleSlot .coll path → s.sys.ownJob tag = true →
      exec (.jobFlush path tag gen) s =
        .next { s with
          sys := replied path 0x4010 0 0
            (fun x => (cmdTaken .coll path 5 [(0, jobArg tag gen)] [] x).flushJob path tag (some gen)) s.sys }) ∧
  (∀ (s : State) (path : Path) (tag : BitVec 16), s.sys.idleSlot .coll path → s.sys.ownJob tag = true →
      exec (.jobDeactivate path tag) s =
        .next { s with
          sys := replied path 0x4010 0 0
            (fun x => (cmdTaken .coll path 6 [(0, jobArg tag 0)] [] x).flushJob path tag none) s.sys }) ∧
  (∀ (s : State) (tag : BitVec 16) (f : Flush), s.sys.coll.flushes.find? (fun f => f.jtag == tag) = some f →
    let graphs := (s.sys.graphs.graph.filter fun e => e.2.st == .stale && e.2.jtag == tag).map fun e => e.1
    let flows := (s.sys.flows.ctx.filter fun e => e.2.st == .stale && e.2.jtag == tag).map fun e => e.1
    let flow (o : Option Nat) : Option Nat := o.filter fun i => !flows.contains i
      ∃ u : Sys, exec (.jobFlushReclaimDone tag) s =
          .next { s with sys := u.done .coll f.path [(0, BitVec.ofNat 32 f.ctxs), (1, BitVec.ofNat 32 f.flows)] } ∧
        u.graphs.graph = s.sys.graphs.graph.filter (fun e => !graphs.contains e.1) ∧
        u.flows.ctx = s.sys.flows.ctx.filter (fun e => !flows.contains e.1) ∧
        u.coll.ctx =
          (s.sys.coll.ctx.map fun e =>
            (e.1, { e.2 with opener := e.2.opener.filter fun o => !graphs.contains o.1 })).filter
              (fun e => !(e.2.st == .stale && e.2.desc.jtag == tag)) ∧
        u.bc.objs =
          (s.sys.bc.objs.map fun o =>
            { o with
              inflow := flow o.inflow
              receivers := o.receivers.map fun r => { r with flow := flow r.flow } }).filter (fun o =>
                !(o.jtag == tag && (o.st == .stale || f.deactivate || o.jgen != (s.sys.job tag).gen))) ∧
        getD u.fwd.jobs tag.toNat {} =
          (if f.deactivate then { active := false, gen := (s.sys.job tag).gen } else getD s.sys.fwd.jobs tag.toNat {}) ∧
        (s.sys.boot.bothLost = false → f.path ≠ .inband → ((u.done .coll f.path
          [(0, BitVec.ofNat 32 f.ctxs), (1, BitVec.ofNat 32 f.flows)]).slot .coll f.path).status = 2))

/-- CTX_OPEN, CTX_CLOSE, CTX_ABORT (07 R230, R253, R644): a descriptor that passes the checks opens its context, and the
command ends DONE with the deckle word; an open context closes; an ACTIVE one aborts with GZ_COLL_HOSTABORT. -/
def Obligations.ContextCommandsRun : Prop :=
  (∀ (s : State) (path : Path) (desc : List Word) (handle : Word) (host : Dma) (b : Bulk) (data : List Byte),
    s.sys.idleSlot .coll path → desc.length = 16 →
    let d := CtxDesc.of (wordsToBytes desc)
    let ms := membersOf data (d.nslot.toNat + 1)
    ctxCheck d s.sys = none → s.sys.region path handle (16 * (d.nslot.toNat + 1)) = .ok b →
    regionRead s.stores path b (16 * (d.nslot.toNat + 1)) host = .ok data → ctxReserve d ms s.sys = none →
      exec (.ctxOpen path desc handle host) s =
        .next { s with
          sys := replied path 0x4010 0 0
            (fun x =>
              ((cmdTaken .coll path 1 (argsFrom0 desc ++ [(16, handle)]) [] x).openCtx d ms none).done .coll path
                [(0, BitVec.ofNat 32 (d.deckle.toNat / 2 ^ 32)), (1, d.deckle.setWidth 32)]) s.sys }) ∧
  (∀ (s : State) (path : Path) (ctx : Word) (x : Ctx), s.sys.idleSlot .coll path → s.sys.ctx (fld ctx 13 0) = some x →
    (x.st = .active ∨ x.st = .complete ∨ x.st = .aborted) →
      exec (.ctxClose path ctx) s =
        .next { s with
          sys := replied path 0x4010 0 0
            (fun y => ((cmdTaken .coll path 2 [(0, ctx)] [] y).closeCtx (fld ctx 13 0)).settle.done .coll path []) s.sys }) ∧
  (∀ (s : State) (path : Path) (ctx : Word) (x : Ctx), s.sys.idleSlot .coll path → s.sys.ctx (fld ctx 13 0) = some x →
    x.st = .active →
      exec (.ctxAbort path ctx) s =
        .next { s with
          sys := replied path 0x4010 0 0
            (fun y =>
              ((cmdTaken .coll path 3 [(0, ctx)] [] y).abortCtx (fld ctx 13 0) collHostabort Config.noSlot.toNat 0 Config.noTile.toNat).settle.done .coll
                path []) s.sys })

/-- CONTRIBUTION_RECEIVE and VAT_INPUT_RESUME (06 R202, 07 R234, R235; 01 R28): with a Vat in service, a contribution that
passes the ten checks, whose payload CRC held and whose records fit and have their escape tokens, is added to its tile, and
a tile that has every bit is finished; one that waited at the Vat input is taken when its records fit: the first of the
queue, or, while that one still waits, the first one of a context's lowest tile.

REDUCE_RESULT_RECEIVE and RESEND_REQUEST_RECEIVE (07 R237, R242): a result of the context's own tag, generation and deckle
word completes its tile in an interior module; a request makes it resend its whole partial of a tile that it has sent. -/
def Obligations.ContributionsAndResultsRun : Prop :=
  (∀ (s : State) (core : Core) (vat : VatCheck) (d : Delivery) (t u : Sys) (e : CollExt) (x : Ctx) (i : Nat),
    s.sys.vatsRun core.toNat = true →
    s.sys.takeDelivery (fun d => d.svc == 1 && d.core == core.toNat && d.pkt.kind == 2) = some (d, t) →
    d.pkt.coll = some e → t.ctx e.ctx = some x → x.parity = none → x.st = .active → x.verdict d.pkt e = .takeIn i →
    t.crcOf d = true → x.needs (x.addTo i e d.pkt.payload).1 e.tile ≤ t.escFree →
    t.spendEsc core.toNat (x.addTo i e d.pkt.payload).2.1 = some u →
      exec (.contributionReceive core vat) s =
        .next { s with
          sys :=
            ((Sys.finishIfReady e.ctx e.tile
                (u.addContribution core.toNat vat e.ctx i e (u.headOf d) (x.addTo i e d.pkt.payload).1
                  (x.addTo i e d.pkt.payload).2.1 (x.addTo i e d.pkt.payload).2.2 (u.portOf d))).consume d).settle }) ∧
  (∀ (s : State) (core : Core) (vat : VatCheck) (d : Delivery) (rest : List Delivery) (u : Sys),
    s.sys.vatsRun core.toNat = true → getD s.sys.coll.waiting core.toNat [] = d :: rest →
    s.sys.takeContribution core.toNat vat false d Sys.finishIfReady = .consumed u →
      exec (.vatInputResume core vat) s =
        .next { s with
          sys := ((u.modColl fun k => { k with waiting := put k.waiting core.toNat rest }).consume d).settle }) ∧
  (∀ (s : State) (core : Core) (vat : VatCheck) (c d : Delivery) (rest : List Delivery) (u : Sys),
    s.sys.vatsRun core.toNat = true → getD s.sys.coll.waiting core.toNat [] = c :: rest →
    s.sys.takeContribution core.toNat vat false c Sys.finishIfReady = .waits → (c :: rest).find? s.sys.forLowest = some d →
    s.sys.takeContribution core.toNat vat false d Sys.finishIfReady = .consumed u →
      exec (.vatInputResume core vat) s =
        .next { s with
          sys := ((u.modColl fun k => { k with waiting := put k.waiting core.toNat ((c :: rest).erase d) }).consume d).settle }) ∧
  (∀ (s : State) (core : Core) (d : Delivery) (t : Sys) (e : CollExt) (x : Ctx),
    s.sys.takeDelivery (fun d => d.svc == 1 && d.core == core.toNat && d.pkt.kind == 3 && d.pkt.plen != 0) = some (d, t) →
    t.crcOf d = true → d.pkt.coll = some e → t.ctx e.ctx = some x → x.st = .active → x.owns d.pkt e = true →
    x.desc.role (x.desc.tree e.tile) = 2 → x.inScope e.tile = true → x.low ≤ e.tile → e.tile < x.low + x.desc.w.toNat →
    x.ahead.contains e.tile = false →
      exec (.reduceResultReceive core) s =
        .next { s with sys := (((t.completeTile e.ctx e.tile d.pkt.payload e.msr).finishWindow e.ctx).consume d).settle }) ∧
  (∀ (s : State) (core : Core) (d : Delivery) (t : Sys) (e : CollExt) (x : Ctx) (at0 : Word64) (n : Nat),
    s.sys.takeDelivery (fun d => d.svc == 1 && d.core == core.toNat && d.pkt.kind == 3 && d.pkt.plen == 0) = some (d, t) →
    d.pkt.coll = some e → t.ctx e.ctx = some x → (x.tile e.tile).sent = some (at0, n) → x.st = .active →
    x.owns d.pkt e = true →
      exec (.resendRequestReceive core) s =
        .next { s with
          sys :=
            ((t.sendPartial x e.tile true).modCtx e.ctx fun x =>
              { x with tiles := update x.tiles e.tile fun y => { y with sent := some (t.clk.ext, n) } }).consume d })

/-- TILE_TIMEOUT, CONTEXT_STALL, CTX_CLOSE_EXPIRE (07 R230, R236, R238): TTO after an interior module sent its partial it
resends, at most 8 times; STALL ms after its low tile moved an ACTIVE context aborts with GZ_COLL_STALL; a drain bound after
its close a context is FREE.

ABORT_NOTICE_SEND and ERROR_NOTICE_RECEIVE (07 R253, R255): with a token of PD4n's bucket, valid time and room, the oldest
waiting notice of a core die leaves, with the time and the ingress port of what it reports; an error notice with
GZ_COLL_ABORTED, GZ_COLL_DECKLE or GZ_COLL_STALL about a context's own partial aborts that context with GZ_COLL_UPSTREAM. -/
def Obligations.ContextTimersAndNoticesRun : Prop :=
  (∀ (s : State) (ctx : BitVec 14) (tile : Word) (x : Ctx) (at0 : Word64) (n : Nat), s.sys.ctx ctx.toNat = some x →
    (x.tile tile.toNat).sent = some (at0, n) → x.st = .active → n < 8 →
      let t := s.sys.toExt (at0 + BitVec.ofNat 64 (x.desc.tto.toNat * 1000))
      let u := t.sendPartial x tile.toNat true
      exec (.tileTimeout ctx tile) s =
        .next { s with
          sys := u.modCtx ctx.toNat fun x =>
            { x with tiles := update x.tiles tile.toNat fun y => { y with sent := some (u.clk.ext, n + 1) } } }) ∧
  (∀ (s : State) (ctx : BitVec 14) (x : Ctx), s.sys.ctx ctx.toNat = some x → x.st = .active →
      exec (.contextStall ctx) s =
        .next { s with
          sys :=
            ((s.sys.toMono (x.moved + x.desc.stall.toNat * 1000000)).abortCtx ctx.toNat collStall Config.noSlot.toNat 0 x.low).settle }) ∧
  (∀ (s : State) (ctx : BitVec 14) (x : Ctx) (i : Interval), s.sys.ctx ctx.toNat = some x → x.st = .closing →
    x.closing = some i →
      exec (.ctxCloseExpire ctx) s =
        .next { s with sys := (s.sys.toEnd i).modColl fun k => { k with ctx := del k.ctx ctx.toNat } }) ∧
  (∀ (s : State) (core : Core) (n : AbortNotice) (rest : List AbortNotice),
    getD s.sys.coll.notices core.toNat [] = n :: rest → s.sys.bucket (4 * core.toNat) ≠ 0 →
    s.sys.clk.valid = true →
    let p := s.sys.ownPkt 5 8 6 n.gei 0 0 (errorPayload n.code (s.sys.ownGei 5) n.time n.port n.head)
    s.sys.origRoom core.toNat p.len = true →
      exec (.abortNoticeSend core) s =
        .next { s with
          sys :=
            (((s.sys.modColl fun k => { k with notices := put k.notices core.toNat rest }).modFwd fun f =>
                { f with bucket := put f.bucket (4 * core.toNat) (s.sys.bucket (4 * core.toNat) - 1) }).count 0x9012
              (4 * core.toNat) 0 1).originate core.toNat p }) ∧
  (∀ (s : State) (d : Delivery) (t : Sys) (c : Nat),
    s.sys.takeDelivery (fun d => d.svc == 5 && d.pkt.kind == 8) = some (d, t) →
    (wordAt d.pkt.payload 0 = collAborted ∨ wordAt d.pkt.payload 0 = collDeckle ∨ wordAt d.pkt.payload 0 = collStall) →
    t.echoed (bytesAt d.pkt.payload 16 32) = some c →
      exec .errorNoticeReceive s =
        .next { s with sys := ((t.abortCtx c collUpstream Config.noSlot.toNat 0 (wordAt d.pkt.payload 32).toNat).consume d).settle })

/-! ## Graphs -/

/-- GRAPH_SUBMIT, GRAPH_CANCEL, GRAPH_RELEASE, GRAPH_ARRIVE (08 R274, R283, R290, R291): on the PCIe path a region of the
image's length joins the loads; the RUNNING graph that GID and COOKIE name is cancelled; one that has ended is freed; a part
that has not arrived at a barrier arrives. -/
def Obligations.GraphCommandsRun : Prop :=
  (∀ (s : State) (handle length : Word) (b : Bulk), s.sys.idleSlot .graph .pcie →
    s.sys.region .pcie handle length.toNat = .ok b →
      exec (.graphSubmit .pcie handle length) s =
        .next { s with
          sys := replied .pcie 0x4020 0 0
            (fun x =>
              (cmdTaken .graph .pcie 1 [(0, handle), (1, length)] (usesOf .pcie handle) x).modGraphs fun g =>
                { g with loads := g.loads ++ [{ path := .pcie, handle, length := length.toNat }] }) s.sys }) ∧
  (∀ (s : State) (path : Path) (gid cookie : Word) (g : Graph), s.sys.idleSlot .graph path →
    s.sys.named (fld gid 9 0) cookie = some g →
    (g.st = .running →
      exec (.graphCancel path gid cookie) s =
        .next { s with
          sys := replied path 0x4020 0 0
            (fun x =>
              ((cmdTaken .graph path 2 [(0, gid), (1, cookie)] [] x).cancelGraph (fld gid 9 0)).done .graph path []) s.sys }) ∧
    (g.ended.isSome = true →
      exec (.graphRelease path gid cookie) s =
        .next { s with
          sys := replied path 0x4020 0 0
            (fun x =>
              ((cmdTaken .graph path 3 [(0, gid), (1, cookie)] [] x).freeGraph (fld gid 9 0)).done .graph path []) s.sys })) ∧
  (∀ (s : State) (path : Path) (gid cookie nodePart : Word) (g : Graph) (n : Node), s.sys.idleSlot .graph path →
    s.sys.named (fld gid 9 0) cookie = some g → g.st = .running → g.nodes[fld nodePart 31 16]? = some n →
    n.kind.toNat = kBarrier → fld nodePart 15 0 < n.a 351 341 → n.st ≠ .done → n.arrived.contains (fld nodePart 15 0) = false →
      exec (.graphArrive path gid cookie nodePart) s =
        .next { s with
          sys := replied path 0x4020 0 0
            (fun x =>
              ((cmdTaken .graph path 4 [(0, gid), (1, cookie), (2, nodePart)] [] x).modNode (fld gid 9 0)
                  (fld nodePart 31 16) fun n => { n with arrived := insertNat (fld nodePart 15 0) n.arrived }).settle.done .graph
                path []) s.sys })

/-- GRAPH_LOAD_COMPLETE, SUBMIT_DATA, SUBMIT_COMMIT (08 R272-R274): an image that passes the checks is accepted under the
lowest free GID and its command ends DONE with it; a chunk of a flow that is at hand is staged; a complete staging whose CRC
matches is accepted and acknowledged with its GID. -/
def Obligations.GraphImagesRun : Prop :=
  (∀ (s : State) (host : Dma) (l : GraphLoad) (rest : List GraphLoad) (b : Bulk) (data : List Byte),
    s.sys.graphs.loads = l :: rest → s.sys.region l.path l.handle l.length = .ok b →
    regionRead s.stores l.path b l.length host = .ok data →
    let x := s.sys.modGraphs fun g => { g with loads := rest }
    imageCheck data none x = none →
      exec (.graphLoadComplete host) s =
        .next { s with
          sys := ((x.acceptGraph data).2.done .graph l.path [(0, BitVec.ofNat 32 (x.acceptGraph data).1)]).settle }) ∧
  (∀ (s : State) (core : Core) (d : Delivery) (t u : Sys) (i : Nat) (f : Flow),
    s.sys.takeMessage core.toNat (fun m => m != 2 && m != 4 && m != 5) = some (d, t) → d.pkt.mtype = 1 →
    t.findFlow d.pkt.sgei d.pkt.flow false = some (i, f) → t.isCached core.toNat i = true →
    (t.touch core.toNat i).flowAccepts i d = (true, u) →
      exec (.submitData core) s =
        .next { s with sys := ((u.stage core.toNat d).grantIfDue i).consume d }) ∧
  (∀ (s : State) (core : Core) (d : Delivery) (t : Sys) (x : Staging) (b : List Byte),
    s.sys.takeMessage core.toNat (fun m => m == 2) = some (d, t) →
    t.graphs.stagings.find? (Staging.is core.toNat d.pkt.sgei (wordAt d.pkt.payload 4)) = some x →
    x.image (beAt d.pkt.payload 8 4) = some b → crc32c b = wordAt d.pkt.payload 12 →
    let u := t.modGraphs fun g =>
      { g with stagings := g.stagings.filter fun x => !x.is core.toNat d.pkt.sgei (wordAt d.pkt.payload 4) }
    imageCheck b (some (x.jtag, !x.mixed && x.jtag == d.pkt.jtag)) u = none →
      let v := (u.acceptGraph b).2
      exec (.submitCommit core) s =
        .next { s with
          sys :=
            ((v.originate core.toNat
                (v.graphPkt d.pkt.sgei (u.acceptGraph b).1 d.pkt.jtag d.pkt.jgen 3 (wordAt d.pkt.payload 4) 0 0 [])).consume
              d).settle })

/-- ARRIVE and CANCEL messages (08 R283, R290, R294): an arrival that the graph takes has the effect of GRAPH_ARRIVE; a
CANCEL of a RUNNING graph's own tag and generation ends it.

STAGING_TIMEOUT, WAIT_TIME_DUE, NODE_STARVED, GRAPH_AUTORELEASE (08 R272, R282, R289, R291): a staging goes 100 ms after its
first chunk; a time node of a RUNNING graph is done at its time; a node that stays READY for WAITLIM ms fails its graph with
GZ_GRAPH_STARVED; a graph with AUTOREL is freed one drain bound after its end. -/
def Obligations.GraphMessagesAndTimersRun : Prop :=
  (∀ (s : State) (core : Core) (d : Delivery) (t u : Sys), s.sys.takeMessage core.toNat (fun m => m == 4) = some (d, t) →
    t.arriveAt (beAt d.pkt.payload 0 4 % 1024) (wordAt d.pkt.payload 4) (beAt d.pkt.payload 8 2) (beAt d.pkt.payload 10 2) =
      .ok u →
      exec (.arrive core) s = .next { s with sys := u.consume d }) ∧
  (∀ (s : State) (core : Core) (d : Delivery) (t : Sys) (g : Graph),
    s.sys.takeMessage core.toNat (fun m => m == 5) = some (d, t) →
    t.named (beAt d.pkt.payload 0 4 % 1024) (wordAt d.pkt.payload 4) = some g → g.st = .running → g.jtag = d.pkt.jtag →
    g.jgen = d.pkt.jgen →
      exec (.cancel core) s = .next { s with sys := (t.cancelGraph (beAt d.pkt.payload 0 4 % 1024)).consume d }) ∧
  (∀ (s : State) (core : Core) (sgei cookie : Word) (x : Staging),
    s.sys.graphs.stagings.find? (Staging.is core.toNat sgei cookie) = some x →
      ∃ t, exec (.stagingTimeout core sgei cookie) s = .next t ∧ t.pending = s.pending ∧ t.stores = s.stores ∧
        t.sys.graphs =
          { s.sys.graphs with stagings := s.sys.graphs.stagings.filter fun y => !y.is core.toNat sgei cookie } ∧
        t.sys.clk = (s.sys.toMono (x.since + 100000000)).clk ∧ t.sys.out = s.sys.out) ∧
  (∀ (s : State) (gid : BitVec 10) (node : BitVec 16) (g : Graph) (n : Node), s.sys.graph gid.toNat = some g →
    s.sys.node gid.toNat node.toNat = some n → g.st = .running →
    (n.kind.toNat = kWait → (n.st = .ready ∨ n.st = .running) → s.sys.clk.valid = true →
      let ahead := (BitVec.ofNat 32 (n.a 351 320) - s.sys.now).toNat
      exec (.waitTimeDue gid node) s =
        .next { s with
          sys := ((s.sys.advance (if ahead ≤ 2 ^ 31 then ahead else 0)).finishNode gid.toNat node.toNat false).settle }) ∧
    (n.st = .ready → g.waitLim ≠ 0 →
      exec (.nodeStarved gid node) s =
        .next { s with
          sys :=
            ((s.sys.toExt (n.readyExt + BitVec.ofNat 64 (g.waitLim * 1000000))).failNode gid.toNat node.toNat
              graphStarved).settle })) ∧
  (∀ (s : State) (gid : BitVec 10) (g : Graph) (i : Interval), s.sys.graph gid.toNat = some g → g.autoRel = true →
    g.ended = some i →
      exec (.graphAutorelease gid) s = .next { s with sys := (s.sys.toEnd i).freeGraph gid.toNat })

/-! ## Broadcast objects -/

/-- BC_OPEN, BC_LOAD, BC_SEND, BC_CLOSE (09 R305, R307, R310, R326): a descriptor and a receiver table that pass the checks
make an object, which opens its inbound context when it has a source; a load that starts at F joins the loads and fills the
cache and F as its tokens last (R324); a send raises the limit; a close ends the object's work. -/
def Obligations.BroadcastCommandsRun : Prop :=
  (∀ (s : State) (path : Path) (desc : List Word) (handle : Word) (host : Dma) (b : Bulk) (data : List Byte),
    s.sys.idleSlot .bc path → desc.length = 16 → s.sys.hbmServices = true → s.sys.bcRegion ≠ 0 →
    let d := BcDesc.of (wordsToBytes desc)
    let entries := (List.range d.nrecv).map fun i => (data.drop (32 * i)).take 32
    d.ok = true → s.sys.region path handle (32 * d.nrecv) = .ok b →
    regionRead s.stores path b (32 * d.nrecv) host = .ok data → entries.all (fun e => s.sys.receiverOk d.obj.nseg e) = true →
    bcCheck d.obj s.sys = none →
      let o := { d.obj with
        receivers := entries.map fun e => { Receiver.of e with moved := s.sys.clk.mono }, moved := s.sys.clk.mono }
      exec (.bcOpen path desc handle host) s =
        .next { s with
          sys := replied path 0x5020 0 0
            (fun x =>
              let y := (cmdTaken .bc path 1 (argsFrom0 desc ++ [(16, handle)]) [] x).modBc fun b =>
                { b with objs := b.objs ++ [o] }
              (if o.src then y.openInflow o.jtag o.obj 0 else y).done .bc path []) s.sys }) ∧
  (∀ (s : State) (path : Path) (tag : BitVec 16) (obj handle first count : Word) (host : Dma) (o : BcObj) (b : Bulk)
      (data : List Byte), s.sys.idleSlot .bc path → s.sys.bcObj tag obj = some o → o.st = .active → o.src = false →
    first.toNat = o.fill → first.toNat + count.toNat ≤ o.nseg →
    let need := min (4096 * count.toNat) (o.size - 4096 * first.toNat)
    s.sys.region path handle need = .ok b → regionRead s.stores path b need host = .ok data →
      exec (.bcLoad path tag obj handle first count host) s =
        .next { s with
          sys := replied path 0x5020 0 0
            (fun x =>
              ((cmdTaken .bc path 2 [(0, tagArg tag), (1, obj), (2, handle), (3, first), (4, count)] [] x).modBc fun b =>
                { b with
                  loads := b.loads ++
                    [{ path, jtag := o.jtag, obj := o.obj, next := first.toNat, stop := first.toNat + count.toNat,
                       data := data.take need }] }).loadLoop path (count.toNat + 1)) s.sys }) ∧
  (∀ (s : State) (path : Path) (tag : BitVec 16) (obj first count : Word) (o : BcObj), s.sys.idleSlot .bc path →
    s.sys.bcObj tag obj = some o → (o.st = .active ∨ o.st = .complete) → first.toNat + count.toNat ≤ o.nseg →
      exec (.bcSend path tag obj first count) s =
        .next { s with
          sys := replied path 0x5020 0 0
            (fun x =>
              ((cmdTaken .bc path 3 [(0, tagArg tag), (1, obj), (2, first), (3, count)] [] x).raiseLimit tag o.obj
                (first.toNat + count.toNat)).done .bc path []) s.sys }) ∧
  (∀ (s : State) (path : Path) (tag : BitVec 16) (obj : Word) (o : BcObj), s.sys.idleSlot .bc path →
    s.sys.bcObj tag obj = some o → o.st ≠ .closing → o.st ≠ .stale →
      exec (.bcClose path tag obj) s =
        .next { s with
          sys := replied path 0x5020 0 0
            (fun x => ((cmdTaken .bc path 4 [(0, tagArg tag), (1, obj)] [] x).closeObj o).done .bc path []) s.sys })

/-- BROADCAST_SEGMENT_RECEIVE and SEGMENT_SEND (09 R308, R310, R314, R324): a segment of the object's length, whose context
is at hand and whose tag has tokens, is spent for, accepted and written; one that its context discards spends nothing. Of
the objects of a core die, in turn from the one whose turn it is, the first that has a segment to send and tokens for it
sends it, and the turn passes to the object after it. -/
def Obligations.SegmentsRun : Prop :=
  (∀ (s : State) (core : Core) (d : Delivery) (t u v : Sys) (i : Nat) (f : Flow) (o : BcObj),
    s.sys.takeDelivery (fun d => d.svc == 2 && d.core == core.toNat && d.pkt.kind == 4) = some (d, t) →
    t.findFlow d.pkt.sgei d.pkt.flow false = some (i, f) → t.bcObj f.jtag f.obj = some o →
    t.isCached core.toNat i = true → d.pkt.seq.toNat < o.nseg → d.pkt.plen.toNat = o.segLen d.pkt.seq.toNat →
    let x := t.touch core.toNat i
    (x.flowAccepts i d = (false, v) →
      exec (.broadcastSegmentReceive core) s = .next { s with sys := (v.grantIfDue i).consume d }) ∧
    ((x.flowAccepts i d).1 = true → x.spendBc core.toNat f.jtag d.pkt.plen.toNat = some u →
      exec (.broadcastSegmentReceive core) s =
        .next { s with sys := (((u.flowAccepts i d).2.fillSegment f.jtag f.obj i d).grantIfDue i).consume d })) ∧
  (∀ (s : State) (core : Core) (j : Nat) (o : BcObj) (w : BcWork) (t : Sys),
    let mine (x : Sys) : List BcObj := x.bc.objs.filter fun o => o.jtag.toNat % 4 == core.toNat
    let x := (mine s.sys).foldl (fun a o => if o.st = .active then a.openReceivers o.jtag o.obj else a) s.sys
    let n := (mine x).length
    let pos (i : Nat) : Nat := (getD x.bc.turn core.toNat 0 + i) % n
    j < n → (mine x)[pos j]? = some o → x.bcNext o = some w → x.sendWork core.toNat o w = some t →
    (∀ i < j, ∀ (o' : BcObj) (w' : BcWork), (mine x)[pos i]? = some o' → x.bcNext o' = some w' →
      x.sendWork core.toNat o' w' = none) →
      exec (.segmentSend core) s =
        .next { s with sys := (t.modBc fun b => { b with turn := put b.turn core.toNat ((pos j + 1) % n) }).loadsRun })

/-- RECEIVER_UNREACHABLE, UPSTREAM_STALL, PULL_ACK_TIMEOUT, BC_CLOSE_EXPIRE (09 R316, R319, R326): a live receiver whose ACK
stood still for REACHTO ms with segments outstanding is UNREACHABLE; a relay whose F stood still for RESUMETO ms, or whose
pull was not answered in that time, turns to its next source; a drain bound after its close an object is gone.

BC_PULL and BC_PULL_ACK (09 R319-R321): a pull of a live object of the same generation makes its sender a PULL receiver from
the segment that it names, with an answer; an answer of the source that was asked ends the wait. -/
def Obligations.BroadcastTimersAndPullsRun : Prop :=
  (∀ (s : State) (tag : BitVec 16) (obj : Word) (k : Nat) (o : BcObj) (r : Receiver) (f : Flow),
    s.sys.bcObj tag obj = some o → o.receivers[k]? = some r → o.st = .active → r.live = true →
    s.sys.recvFlow r = some f → f.sent ≠ [] →
      exec (.receiverUnreachable tag obj k) s =
        .next { s with sys := (s.sys.toMono (r.moved + o.reachTo * 1000000)).unreach tag obj k }) ∧
  (∀ (s : State) (tag : BitVec 16) (obj : Word) (o : BcObj), s.sys.bcObj tag obj = some o → o.st = .active →
    (o.src = true → o.fill < o.nseg →
      exec (.upstreamStall tag obj) s =
        .next { s with sys := (s.sys.toMono (o.moved + o.resumeTo * 1000000)).nextSource tag obj }) ∧
    (∀ since, o.pullSince = some since →
      exec (.pullAckTimeout tag obj) s =
        .next { s with sys := (s.sys.toMono (since + o.resumeTo * 1000000)).nextSource tag obj })) ∧
  (∀ (s : State) (tag : BitVec 16) (obj : Word) (o : BcObj) (i : Interval), s.sys.bcObj tag obj = some o → o.st = .closing →
    o.closing = some i →
      exec (.bcCloseExpire tag obj) s =
        .next { s with
          sys := (s.sys.toEnd i).modBc fun b => { b with objs := b.objs.filter fun o => !(o.jtag == tag && o.obj == obj) } }) ∧
  (∀ (s : State) (core : Core) (d : Delivery) (t : Sys) (o : BcObj), s.sys.takeBcMsg core.toNat (fun m => m != 2) = some (d, t) →
    d.pkt.mtype = 1 → t.bcObj d.pkt.jtag (wordAt d.pkt.payload 4) = some o → o.jgen = d.pkt.jgen →
    (o.st = .active ∨ o.st = .complete) → (o.receivers.filter Receiver.isPull).length < 64 →
    let obj := wordAt d.pkt.payload 4
    let a := wordAt d.pkt.payload 8
    let r : Receiver :=
      { gei := d.pkt.sgei, start := a, port := 0, graft := 0, mode := if o.nseg ≤ a.toNat then .done else .pull, ack := a,
        next := a, moved := t.clk.mono, isPull := true }
    let v := t.modObj d.pkt.jtag obj fun o => { o with receivers := o.receivers ++ [r] }
    exec (.bcPull core) s =
      .next { s with
        sys :=
          (((v.openReceivers d.pkt.jtag obj).originate core.toNat (v.bcMsg o d.pkt.sgei 2 a 0)).objSettle d.pkt.jtag
            obj).consume d }) ∧
  (∀ (s : State) (core : Core) (d : Delivery) (t : Sys) (o : BcObj), s.sys.takeBcMsg core.toNat (fun m => m == 2) = some (d, t) →
    t.bcObj d.pkt.jtag (wordAt d.pkt.payload 4) = some o → o.jgen = d.pkt.jgen → o.up = d.pkt.sgei →
    o.pullSince.isSome = true → o.st = .active → wordAt d.pkt.payload 12 = 0 →
      exec (.bcPullAck core) s =
        .next { s with
          sys := (t.modObj d.pkt.jtag (wordAt d.pkt.payload 4) fun o => { o with pullSince := none }).consume d })

/-! ## The parity vault and the gate lists -/

/-- QUIRE_ALLOC, QUIRE_FREE, PARITY_RECEIVE, REBUILD_SHARD_SEND (10 R334, R345, R350): a free slot with room takes the tag
and the members; a slot that is not UPDATING or REBUILDING is freed; a parity packet that passes the checks of 07 R234 and
has its records and tokens is added to its stripe, which is staged when it is complete; a shard that is due again, or else
the next one of the window, leaves when it is rebuilt. -/
def Obligations.VaultRuns : Prop :=
  (∀ (s : State) (path : Path) (slot jobK nstripe handle : Word) (host : Dma) (b : Bulk) (data : List Byte),
    s.sys.idleSlot .vault path → s.sys.hbmServices = true → s.sys.vaultRegion ≠ 0 → fld slot 31 12 = 0 →
    fld jobK 15 8 = 0 →
    let k := fld jobK 7 0 + 1
    let tag := BitVec.ofNat 16 (fld jobK 31 16)
    2 ≤ k → k ≤ 255 → 1 ≤ nstripe.toNat → nstripe.toNat ≤ 16777216 → s.sys.region path handle (4 * k) = .ok b →
    regionRead s.stores path b (4 * k) host = .ok data → (bytesToWords data).contains 0 = false →
    (bytesToWords data).eraseDups.length = (bytesToWords data).length → (s.sys.job tag).active = true →
    s.sys.quire (fld slot 11 0) = none → s.sys.vaultUsed + nstripe.toNat * 16384 ≤ s.sys.vaultRegion →
      exec (.quireAlloc path slot jobK nstripe handle host) s =
        .next { s with
          sys := replied path 0x5040 0 0
            (fun x =>
              ((cmdTaken .vault path 1 [(0, slot), (1, jobK), (2, nstripe), (3, handle)] [] x).modVault fun v =>
                  { v with
                    slot := put v.slot (fld slot 11 0)
                      { jtag := tag, members := bytesToWords data, nstripe := nstripe.toNat } }).done .vault path []) s.sys }) ∧
  (∀ (s : State) (path : Path) (slot : Word) (q : Quire), s.sys.idleSlot .vault path →
    s.sys.quire (fld slot 11 0) = some q → q.st ≠ .updating → q.st ≠ .rebuilding →
      exec (.quireFree path slot) s =
        .next { s with
          sys := replied path 0x5040 0 0
            (fun x =>
              ((cmdTaken .vault path 2 [(0, slot)] [] x).modVault fun v =>
                { v with slot := del v.slot (fld slot 11 0) }).done .vault path []) s.sys }) ∧
  (∀ (s : State) (core : Core) (vat : VatCheck) (d : Delivery) (t u : Sys) (e : CollExt) (x : Ctx) (i : Nat),
    s.sys.vatsRun core.toNat = true →
    s.sys.takeDelivery (fun d => d.svc == 3 && d.core == core.toNat && d.pkt.kind == 5) = some (d, t) →
    d.pkt.coll = some e → t.ctx e.ctx = some x → x.parity.isSome = true → x.st = .active → x.verdict d.pkt e = .takeIn i →
    t.crcOf d = true → x.needs (x.addTo i e d.pkt.payload).1 e.tile ≤ t.escFree →
    t.spendEsc core.toNat (x.addTo i e d.pkt.payload).2.1 = some u →
      exec (.parityReceive core vat) s =
        .next { s with
          sys :=
            ((Sys.stageReady e.ctx
                (u.addContribution core.toNat vat e.ctx i e (u.headOf d) (x.addTo i e d.pkt.payload).1
                  (x.addTo i e d.pkt.payload).2.1 (x.addTo i e d.pkt.payload).2.2 (u.portOf d))).consume d).settle }) ∧
  (∀ (s : State) (q : BitVec 12) (second : Bool) (v : Quire) (r : QRebuild) (x : Ctx) (i : Nat) (f : Flow) (l : List (List Byte)),
    s.sys.quire q.toNat = some v → v.rebuild = some r → s.sys.ctx r.ctx = some x → r.flows[b2n second]? = some i →
    get? s.sys.flows.ctx i = some f → f.st = .opened → x.st = .active → s.sys.clk.valid = true →
    let again := !f.due.isEmpty
    let seq := f.due.headD f.next
    (again = false → serialAfter f.limit f.next = true) → get? v.shards seq.toNat = some l →
    let p := s.sys.shardPkt x r (b2n second) seq.toNat f.flow again (nth l (b2n second) [])
    s.sys.origRoom (r.ctx % 4) p.len = true →
      exec (.rebuildShardSend q second) s =
        .next { s with sys := (s.sys.originate (r.ctx % 4) p).noteSent i seq again })

/-- GATE_COMMIT, GATE_LIST_START, GATE_ENTRY_CHANGE (11 R367, R369, R370): with valid time a list that passes the checks
becomes the pending list with its E; at E it becomes the running list; then each entry comes into force at the end of the
one before; a committed packet whose gate that opens starts (11 R368). -/
def Obligations.GateListsRun : Prop :=
  (∀ (s : State) (path : Path), s.sys.takes path 0x2031 → s.sys.clk.valid = true →
    let p := (s.sys.selOf path 0x2031 0).toNat % 1024
    let l := (s.sys.eg p).adminEntries
    gateListOk l = true → l ≠ [] →
      exec (.gateCommit path 1) s =
        .next { s with
          sys := replied path 0x2031 0 4
            (fun x => x.modEg p fun e =>
              { e with
                pending := some
                  { entries := l, start := x.gateStart (s.sys.eg p).base ({ entries := l } : GateList).cycle } }) s.sys }) ∧
  (∀ (s : State) (port : Port) (g : GateList), (s.sys.eg port.toNat).pending = some g → s.sys.clk.valid = true →
    g.entries ≠ [] →
      let t := s.sys.toExt g.start
      exec (.gateListStart port) s =
        .next { s with
          sys := (t.modEg port.toNat fun e =>
            { e with
              running := some g, pending := none, entry := (g.at t.clk.ext).1
              gates := (g.at t.clk.ext).2.1 }).startNext port.toNat }) ∧
  (∀ (s : State) (port : Port) (g : GateList), (s.sys.eg port.toNat).running = some g →
    (s.sys.eg port.toNat).pending = none → s.sys.clk.valid = true → (g.at s.sys.clk.ext).1 = (s.sys.eg port.toNat).entry →
      let t := s.sys.toExt (s.sys.clk.ext + BitVec.ofNat 64 (g.at s.sys.clk.ext).2.2)
      exec (.gateEntryChange port) s =
        .next { s with
          sys := (t.modEg port.toNat fun e =>
            { e with entry := (g.at t.clk.ext).1, gates := (g.at t.clk.ext).2.1 }).startNext port.toNat })

/-! ## Optical circuit bypass -/

/-- DEMAND_CLOSE, DEMAND_REQ, DEMAND_READ (12 R379, R381, R382, R394): at its boundary the matrix becomes the snapshot and
starts at 0 under the settings written since, with the next number and the time, and leaves for DEST when one is set; a
request is answered with the snapshot; a read writes 4,096 cells of 8 bytes into the region and answers the snapshot's
number.

PLAN_SUBMIT and PLAN_CANCEL (12 R384, R385, R393, R394): a plan that passes the checks joins the plans, PENDING with valid
time and HELD without; one that is HELD or PENDING is CANCELLED. -/
def Obligations.DemandAndPlanCommandsRun : Prop :=
  (∀ (s : State),
    let t := s.sys.toExt (s.sys.dueOnce (17 + s.sys.ocs.exp) s.sys.clk.firstDemand s.sys.clk.lastDemand s.sys.clk.ranDemand)
    let v := (t.modOcs fun o =>
        { o with
          matrix := [], snapshot := o.matrix.map fun e => (e.1, e.2 % 2 ^ 64)
          snap := BitVec.ofNat 32 ((o.snap.toNat + 1) % 2 ^ 31 + (if t.clk.valid then 0 else 2 ^ 31)), snapTime := t.now
          bucket := t.nv.demandBucket, exp := t.nv.demExp, dest := t.nv.demDest, tc := t.nv.demTc }).modClk fun c =>
      { c with
        firstDemand := t.runOf (17 + t.ocs.exp) c.firstDemand c.lastDemand, lastDemand := t.floorTo (17 + t.ocs.exp)
        ranDemand := t.ranOf (17 + t.ocs.exp) c.firstDemand c.lastDemand c.ranDemand }
    exec .demandClose s = .next { s with sys := if s.sys.nv.demDest = 0 then v else v.pushDemand s.sys.nv.demDest } ∧
    v.ocs.plans = s.sys.ocs.plans ∧ v.out = s.sys.out) ∧
  (∀ (s : State) (d : Delivery) (t : Sys), 
    s.sys.takeDelivery (fun d => d.svc == 6 && d.pkt.kind == 9 && beAt d.pkt.payload 0 1 == 2) = some (d, t) →
      exec .demandReq s = .next { s with sys := (t.pushDemand d.pkt.sgei).consume d }) ∧
  (∀ (s : State) (path : Path) (handle : Word) (b : Bulk), s.sys.idleSlot .ocs path →
    s.sys.region path handle 32768 = .ok b → b.dKind = 2 →
    let data := (List.range 4096).flatMap fun i => toBe 8 (getD s.sys.ocs.snapshot i 0)
    exec (.demandRead path handle true) s =
      .next { s with
        stores := { s.stores with bar2 := Memory.writeN s.stores.bar2 b.dAddr.toNat data }
        sys := replied path 0x2042 0 0
          (fun x => (cmdTaken .ocs path 3 [(0, handle)] [] x).done .ocs path [(0, s.sys.ocs.snap)]) s.sys }) ∧
  (∀ (s : State) (path : Path) (handle length : Word) (host : Dma) (b : Bulk) (data : List Byte),
    s.sys.idleSlot .ocs path → s.sys.region path handle length.toNat = .ok b →
    regionRead s.stores path b length.toNat host = .ok data →
    let r := Plan.of data
    let p := { r.1 with
      num := s.sys.ocs.accepted, wsExt := s.sys.nextTime r.1.ws, st := if s.sys.clk.valid then .pending else .held }
    s.sys.planCheck p (r.2 && length.toNat == 32 + 16 * p.entries.length) = none →
      exec (.planSubmit path handle length host) s =
        .next { s with
          sys := replied path 0x2042 0 0
            (fun x =>
              ((cmdTaken .ocs path 1 [(0, handle), (1, length)] [] x).modOcs fun o =>
                  { o with
                    accepted := o.accepted + 1
                    plans := (if o.plans.length < 8 then o.plans else dropEnded o.plans) ++ [p] }).done .ocs path [])
            s.sys }) ∧
  (∀ (s : State) (path : Path) (id : Word) (p : Plan), s.sys.idleSlot .ocs path → s.sys.livePlan id = some p →
    (p.st = .held ∨ p.st = .pending) →
      exec (.planCancel path id) s =
        .next { s with
          sys := replied path 0x2042 0 0
            (fun x =>
              ((cmdTaken .ocs path 2 [(0, id)] [] x).modPlan p.num fun x => { x with st := .cancelled }).done .ocs path [])
            s.sys })

/-- The change sequence (12 R387-R392). At D a PENDING plan whose target version is ACTIVE and not in use drains its ports
and flips the source epoch; at WS the ports take the plan's directions and peers and train in the dark; at WE they come
back; at R the epoch flips back when the other version is ACTIVE; at the limit a plan whose ports are all Up or complete
only ends. -/
def Obligations.PlanStepsRun : Prop :=
  (∀ (s : State) (id : Word) (p : Plan), s.sys.planOf id 0 = some p → p.st = .pending → s.sys.fwd.epoch ≠ p.epoch →
    s.sys.verState p.epoch = 1 →
      let x := s.sys.toExt p.drainAt
      let y := p.entries.foldl
        (fun t e =>
          ((t.leaveUp e.port.toNat).modPort e.port.toNat fun q =>
              { q with st := .draining, drain := none, warm := none, planned := true }).hwLost e.port.toNat false) x
      exec (.planDrain id) s =
        .next { s with
          sys := ((y.modFwd fun f => { f with epoch := p.epoch }).modPlan p.num fun x =>
            { x with st := .draining, tdrain := y.now }).settle }) ∧
  (∀ (s : State) (id : Word) (p : Plan), s.sys.planOf id 1 = some p → p.st = .draining →
      exec (.planMove id) s =
        .next { s with
          sys :=
            ((p.entries.foldl
                (fun t e =>
                  let c : Cabling := getD t.nv.cabling e.port.toNat {}
                  ((t.modNv fun n =>
                      { n with
                        dir := put n.dir e.port.toNat e.dir
                        cabling := put n.cabling e.port.toNat
                          { c with
                            dtype := e.peer.dtype, plane := e.peer.plane, group := e.peer.group, index := e.peer.index
                            pport := e.peer.pport, egei := if e.peer.dtype = 3 then c.egei else 0 } }).jrnl.jrnl).modPort
                    e.port.toNat fun x =>
                      { x with
                        st := .training, dark := true, trained := false, active := 0, warm := none, retryAt := none
                        attempts := 0, mismatches := 0, peerSeen := false })
                (s.sys.toExt p.wsExt)).modPlan p.num fun x => { x with st := .moving }).settle }) ∧
  (∀ (s : State) (id : Word) (p : Plan), s.sys.planOf id 2 = some p → p.st = .moving →
      exec (.planRejoin id) s =
        .next { s with
          sys :=
            ((p.entries.foldl
                (fun t e => if e.dir = 2 then t else t.modPort e.port.toNat fun x => { x with dark := false })
                (s.sys.toExt p.endAt)).modPlan p.num fun x =>
              { x with st := .rejoining, entries := x.entries.map fun e => { e with complete := e.dir == 2 } }).settle }) ∧
  (∀ (s : State) (id : Word) (p : Plan), s.sys.planOf id 3 = some p → p.st = .rejoining → p.reflipRun = false →
    p.kept = false → s.sys.verState (!p.epoch) = 1 →
      let x := s.sys.toExt p.reflipAt
      exec (.planReflip id) s =
        .next { s with
          sys := ((x.modFwd fun f => { f with epoch := !p.epoch }).modPlan p.num fun y =>
            { y with reflipRun := true, treflip := x.now }).planSettle.settle }) ∧
  (∀ (s : State) (id : Word) (p : Plan), s.sys.planOf id 4 = some p → p.st = .rejoining → p.limitRun = false →
    (∀ e ∈ p.entries, e.complete = true ∨ (s.sys.port e.port.toNat).st = .up) →
      exec (.planLimit id) s =
        .next { s with
          sys := ((s.sys.toExt p.limitAt).modPlan p.num fun x =>
            { x with
              limitRun := true
              entries := x.entries.map fun e =>
                { e with failed := !e.complete && (s.sys.port e.port.toNat).st != .up } }).settle })

/-! ## Ports, lanes and cages -/

/-- FORWARDING_RECORD_WRITE, FENCE_LIST_WRITE, PORT_CONFIG_WRITE (03 R87, R92, R102; 13 R399, R400): a record takes DIR and
PFENCE, and a port whose health weight they take to 0 loses its packets and its receivers; a fence list entry takes or drops
its GEI, and what it fences ends; a port's fields take the values that R400 does not refuse. -/
def Obligations.PortObjectsAreWritten : Prop :=
  (∀ (s : State) (path : Path) (port : Port) (v : Word), s.sys.takes path 0x2010 → fld v 15 14 ≠ 3 → fld v 3 0 = 0 →
    fld v 31 16 = 0 → s.sys.rwsOk = .ok () →
      let p := port.toNat
      let d : BitVec 2 := BitVec.ofNat 2 (fld v 15 14)
      let t := if s.sys.dir p = d then s.sys else (s.sys.modNv fun n => { n with dir := put n.dir p d }).jrnl
      let u := t.modFwd fun f => { f with pfence := put f.pfence p (bit v.toNat 13) }
      let w := if s.sys.hw p ≠ 0 ∧ u.hw p = 0 then u.portLost p false else u
      exec (.forwardingRecordWrite path port v) s =
        .next { s with
          sys := replied path 0x2010 (p / 256) (p % 256)
            (fun x => if x.hwFenced p ≠ 0 then (w.graftPort p).settle else w) s.sys }) ∧
  (∀ (s : State) (path : Path) (index : BitVec 13) (gei : Word), s.sys.takes path 0x3040 →
      let i := index.toNat
      exec (.fenceListWrite path index gei) s =
        .next { s with
          sys := replied path 0x3040 (i / 256) (i % 256)
            (fun x =>
              (x.modFwd fun f =>
                { f with fence := if gei = 0 then del f.fence i else put f.fence i gei }).fenceCtxs.pruneFenced.settle)
            s.sys }) ∧
  (∀ (s : State) (path : Path) (v : Word), s.sys.takes path 0x2000 → v.toNat ≤ 1023 →
      exec (.portConfigWrite path 0 v) s =
        .next { s with sys := replied path 0x2000 0 0 (fun x => x.setSel path 0x2000 0 v) s.sys }) ∧
  (∀ (s : State) (path : Path) (v : Word), s.sys.takes path 0x2000 → s.sys.rwsOk = .ok () → v.toNat ≤ 15 →
    let p := (s.sys.selOf path 0x2000 0).toNat % 1024
    (s.sys.port p).st = .disabled → s.sys.widthBad p v.toNat = false →
      exec (.portConfigWrite path 1 v) s =
        .next { s with
          sys := replied path 0x2000 0 1
            (fun x =>
              (x.modNv fun n =>
                { n with portCfg := put n.portCfg p { s.sys.pcfg p with width := v.toNat } }).jrnl.tryEnable p) s.sys }) ∧
  (∀ (s : State) (path : Path) (v : Word), s.sys.takes path 0x2000 → s.sys.rwsOk = .ok () → v.toNat ≤ 3 →
      let p := (s.sys.selOf path 0x2000 0).toNat % 1024
      exec (.portConfigWrite path 2 v) s =
        .next { s with
          sys := replied path 0x2000 0 2
            (fun x =>
              (x.modNv fun n =>
                { n with portCfg := put n.portCfg p { s.sys.pcfg p with cls := BitVec.ofNat 4 v.toNat } }).jrnl.tryEnable p)
            s.sys }) ∧
  (∀ (s : State) (path : Path), s.sys.takes path 0x2000 → s.sys.rwsOk = .ok () →
      let p := (s.sys.selOf path 0x2000 0).toNat % 1024
      exec (.portConfigWrite path 3 1) s =
        .next { s with
          sys := replied path 0x2000 0 3
            (fun x =>
              (x.modNv fun n =>
                { n with portCfg := put n.portCfg p { s.sys.pcfg p with enable := true } }).jrnl.tryEnable p) s.sys }) ∧
  (∀ (s : State) (path : Path), s.sys.takes path 0x2000 → s.sys.rwsOk = .ok () →
    let p := (s.sys.selOf path 0x2000 0).toNat % 1024
    (s.sys.port p).st ≠ .up → (s.sys.port p).st ≠ .seasoning → (s.sys.port p).st ≠ .draining →
      exec (.portConfigWrite path 3 0) s =
        .next { s with
          sys := replied path 0x2000 0 3
            (fun x =>
              (((x.modNv fun n =>
                { n with portCfg := put n.portCfg p { s.sys.pcfg p with enable := false } }).jrnl).endTest p).modPort p fun q =>
                { q with st := .disabled, trained := false, warm := none, active := 0, retryAt := none }) s.sys }) ∧
  (∀ (s : State) (path : Path) (v : Word), s.sys.takes path 0x2000 → s.sys.rwsOk = .ok () → v.toNat ≤ 1 →
      let p := (s.sys.selOf path 0x2000 0).toNat % 1024
      exec (.portConfigWrite path 4 v) s =
        .next { s with
          sys := replied path 0x2000 0 4
            (fun x =>
              (x.modNv fun n => { n with portCfg := put n.portCfg p { s.sys.pcfg p with degrade := v == 1 } }).jrnl)
            s.sys })

/-- LINK_FAULT, ORDERED_SET_LOSS, LANE_DEGRADE, WARM_RETRAIN_TIMEOUT (02 R69; 13 R415, R418, R419, R421, R647). Of the
causes of Table 13-7, 1-5 are faults: of an UP port a health event, which takes it to TRAINING and is reported with its
notices; in SEASONING it goes to TRAINING, in DRAINING to MAINTENANCE, and in the other states nothing moves, each counted
on its lanes and logged; a planned loss is only counted. Causes 6 and 7 are health events, counted on the active lanes, and
the others do nothing. 4,000 ns without an ordered set on a linked port are a fault of cause 4. A permitted degrade of an UP
port starts a warm retrain on the lanes that remain; at its limit a full training follows and a fault is reported. -/
def Obligations.PortFaultsRun : Prop :=
  (∀ (s : State) (port : Port) (cause : BitVec 4), (s.sys.port port.toNat).planned = true →
    (cause = 1 ∨ cause = 4 ∨ cause = 5) →
      exec (.linkFault port cause) s = .next { s with sys := (s.sys.count 0x9022 port.toNat 0 1).settle }) ∧
  (∀ (s : State) (port : Port) (cause : BitVec 4), 1 ≤ cause.toNat → cause.toNat ≤ 5 →
    ((s.sys.port port.toNat).planned = false ∨ (cause ≠ 1 ∧ cause ≠ 4 ∧ cause ≠ 5)) →
      let p := port.toNat
      let q := s.sys.port p
      let report (loud : Bool) (x : Sys) : Sys :=
        x.linkReport p cause.toNat faultLinkDown loud (widthMask (s.sys.pcfg p).width) q.active
      exec (.linkFault port cause) s =
        .next { s with
          sys :=
            (match q.st with
              | .up => report true (((s.sys.healthEvent p).startTraining p).hwLost p true)
              | .seasoning => report false ((s.sys.startTraining p).hwLost p true)
              | .draining =>
                report false ((s.sys.modPort p fun q => { q with st := .maintenance, drain := none }).portLost p true)
              | _ => report false s.sys).settle }) ∧
  (∀ (s : State) (port : Port) (cause : BitVec 4),
    ((cause = 6 ∨ cause = 7) →
      exec (.linkFault port cause) s =
        .next { s with
          sys := ((s.sys.disturb port.toNat).countLanes port.toNat (s.sys.port port.toNat).active
            (causeItem cause.toNat)).settle }) ∧
    ((cause = 0 ∨ 8 ≤ cause.toNat) → exec (.linkFault port cause) s = .next { s with sys := s.sys.settle })) ∧
  (∀ (s : State) (port : Port), (s.sys.port port.toNat).linked = true →
      exec (.orderedSetLoss port) s =
        exec (.linkFault port 4) { s with sys := s.sys.toMono ((s.sys.port port.toNat).osLast + 4000) }) ∧
  (∀ (s : State) (port : Port),
    let p := port.toNat
    let q := s.sys.port p
    let t := s.sys.toMono (q.osLast + 4000)
    q.linked = true → q.st = .up → q.planned = false →
      exec (.orderedSetLoss port) s =
        .next { s with
          sys :=
            ((((t.healthEvent p).startTraining p).hwLost p true).linkReport p 4 faultLinkDown true
              (widthMask (t.pcfg p).width) q.active).settle }) ∧
  (∀ (s : State) (port : Port) (cause : BitVec 4) (lost : BitVec 8),
    let p := port.toNat
    let q := s.sys.port p
    let left := q.active &&& ~~~lost
    (cause = 5 ∨ cause = 6) → q.st = .up → (cause = 5 → q.planned = false) → q.active &&& lost ≠ 0 →
    s.sys.mayDegrade p left = true →
      let x := if q.planned then s.sys else s.sys.healthEvent p
      exec (.laneDegrade port cause lost) s =
        .next { s with
          sys :=
            (((((x.leaveUp p).modPort p fun q =>
                { q with
                  st := .training, trained := false, warm := some s.sys.clk.mono, warmFromUp := true, active := left
                  retryAt := none }).removeLanes p lost).hwLost p true).linkReport p cause.toNat faultLinkDegraded true
              (q.active &&& lost) left).settle }) ∧
  (∀ (s : State) (port : Port) (t : Nat), (s.sys.port port.toNat).warm = some t →
      let p := port.toNat
      let q := s.sys.port p
      exec (.warmRetrainTimeout port) s =
        .next { s with
          sys := ((s.sys.toMono (t + 200000)).startTraining p).linkReport p q.fault.toNat faultLinkDown q.warmFromUp
            (widthMask (s.sys.pcfg p).width) q.active })

/-- Training and Seasoning (02 R68; 13 R410-R415, R417, R421, R424, R428): a good attempt comes up on the lanes that both
ends can use; a matching LINK_ID starts Seasoning, with history when the record names the peer; a later one that says Up is
held against the cabling map; after a warm retrain the port seasons while its coordinates are valid; after its period, with
a matching LINK_ID, the port is UP, and a peer that is not Up is counted; 30 s in Seasoning are reported once; 60 s of clean
time set HIST; a window sets the BER of its lane, which above 1e-5 on an active lane disturbs the port and above 1e-4 is
cause 6. -/
def Obligations.TrainingRuns : Prop :=
  (∀ (s : State) (port : Port) (o : Training),
    let p := port.toNat
    let mask := o.usable &&& o.peerMask &&& widthMask (s.sys.pcfg p).width
    (s.sys.port p).st = .training → (s.sys.port p).warm = none → (s.sys.port p).dark = false →
    (s.sys.port p).retryAt = none → s.sys.released p = true → s.sys.portsOn = true → s.sys.dieUp (p / 64) = true →
    o.ok = true → mask ≠ 0 → ((s.sys.pcfg p).degrade = true ∨ mask = widthMask (s.sys.pcfg p).width) →
      exec (.trainingComplete port o) s =
        .next { s with
          sys := ((s.sys.countLanes p (widthMask (s.sys.pcfg p).width) 2).linkTrained p mask).modPort p fun q =>
            { q with delay := (linkDelay o.probes).getD q.delay, peerSeen := false } }) ∧
  (∀ (s : State) (port : Port) (bytes : List Byte),
    let p := port.toNat
    let w := beAt bytes 2 5
    let peer : PeerId :=
      { dtype := bv 4 w 32, plane := bv 4 w 36, group := bv 8 w 24, index := bv 8 w 16, pport := bv 10 w 0 }
    let st : BitVec 8 := BitVec.ofNat 8 (beAt bytes 7 1)
    let c : Cabling := getD s.sys.nv.cabling p {}
    (s.sys.port p).st = .training → (s.sys.port p).trained = true → (s.sys.port p).warm = none →
    bytes.length = 16 → osOk bytes = true → beAt bytes 0 1 = 3 → s.sys.nv.coordValid = true →
    s.sys.boot.mode = .ready → c.dtype ≠ 0 → c.peer = peer →
      exec (.linkIdReceive port bytes) s =
        .next { s with
          sys :=
            ((s.sys.modPort p fun q =>
                { q with osLast := s.sys.clk.mono, peer, peerState := st, peerSeen := true }).enterSeasoning p
              ((s.sys.season p).peer == peer && (s.sys.season p).hist)).settle }) ∧
  (∀ (s : State) (port : Port) (bytes : List Byte),
    let p := port.toNat
    let w := beAt bytes 2 5
    let peer : PeerId :=
      { dtype := bv 4 w 32, plane := bv 4 w 36, group := bv 8 w 24, index := bv 8 w 16, pport := bv 10 w 0 }
    ((s.sys.port p).st = .seasoning ∨ (s.sys.port p).st = .up ∨ (s.sys.port p).st = .draining) →
    (s.sys.port p).test = none → bytes.length = 16 → osOk bytes = true → beAt bytes 0 1 = 3 → beAt bytes 7 1 = 2 →
      exec (.linkIdReceive port bytes) s =
        .next { s with
          sys :=
            (((s.sys.modPort p fun q =>
                  { q with osLast := s.sys.clk.mono, peer, peerState := 2, peerSeen := true }).idCheck p).tellUp p).settle }) ∧
  (∀ (s : State) (port : Port) (t : Nat), (s.sys.port port.toNat).retryAt = some t →
      exec (.trainingRetry port) s =
        .next { s with sys := (s.sys.toMono t).modPort port.toNat fun q => { q with retryAt := none } }) ∧
  (∀ (s : State) (port : Port) (usable peerMask : BitVec 8),
    let q := s.sys.port port.toNat
    q.warm.isSome = true → q.active &&& usable &&& peerMask ≠ 0 →
      exec (.warmRetrainComplete port usable peerMask) s =
        .next { s with
          sys :=
            let t := s.sys.linkTrained port.toNat (q.active &&& usable &&& peerMask)
            if s.sys.nv.coordValid then t.enterSeasoning port.toNat (q.warmFromUp || q.seasonHist) else t }) ∧
  (∀ (s : State) (port : Port),
    let p := port.toNat
    let q := s.sys.port p
    let t := s.sys.toMono (q.seasonStart + (if q.seasonHist then 100000000 else 2000000000))
    q.st = .seasoning → s.sys.peerMatches p = true →
      let u := t.modPort p fun q =>
        { q with st := .up, cleanStart := some t.clk.mono, cleanHeld := 0, trainReported := false, seasonReported := false }
      let v := if q.seasonHist ∨ s.sys.season p = { peer := q.peer, hist := false } then u
        else (u.modNv fun n => { n with season := put n.season p { peer := q.peer, hist := false } }).jrnl
      let w := if q.peerState = 2 then v else v.count 0x9022 p 1 1
      exec (.seasoningComplete port) s = .next { s with sys := ((w.fillTokens p).planSettle).tellUp p }) ∧
  (∀ (s : State) (port : Port),
    let p := port.toNat
    let q := s.sys.port p
    q.st = .seasoning → q.seasonReported = false →
      exec (.seasoningOverdue port) s =
        .next { s with
          sys := ((s.sys.toMono (q.seasonSince + 30000000000)).modPort p fun q =>
            { q with seasonReported := true }).fault faultLinkSeason (p / 64) p false [0, q.active.setWidth 32] }) ∧
  (∀ (s : State) (port : Port) (t : Nat), (s.sys.port port.toNat).cleanStart = some t →
    (s.sys.port port.toNat).st = .up → (s.sys.season port.toNat).hist = false →
      exec (.cleanTime60s port) s =
        .next { s with
          sys := ((s.sys.toMono (t + 60000000000)).modNv fun n =>
            { n with season := put n.season port.toNat { s.sys.season port.toNat with hist := true } }).jrnl }) ∧
  (∀ (s : State) (port : Port) (lane : BitVec 3) (corrected : Word),
      let p := port.toNat
      let n := corrected.toNat
      let t := (s.sys.modPorts fun q =>
        { q with lane := modify q.lane (p + lane.toNat) {} fun x => { x with ber := berOf n } }).count 0x9030
        (p + lane.toNat) 0 n
      exec (.laneBerWindow port lane corrected) s =
        .next { s with
          sys :=
            (if (s.sys.port p).active.getLsbD lane.toNat = false ∨ n * 100000 ≤ berWindowBits then t
              else if n * 10000 ≤ berWindowBits then t.disturb p
              else t.laneLoss p 6 (BitVec.ofNat 8 (2 ^ lane.toNat))).settle }) ∧
  (∀ (s : State) (lane : BitVec 10) (margin : Word) (p : Nat), s.sys.portOfLane lane.toNat = some p →
    ((s.sys.port p).st = .up ∨ (s.sys.port p).st = .seasoning) →
    (s.sys.port p).active.getLsbD (lane.toNat - p) = true →
      exec (.eyeMarginMeasure lane margin) s =
        .next { s with
          sys := s.sys.modPorts fun q => { q with lane := modify q.lane lane.toNat {} fun x => { x with margin } } })

/-- The port command object (13 R414, R423-R427): PORT_DRAIN, PORT_RESUME, PORT_FORGET, LANE_TEST, DIE_BIST, CMIS_READ and
CMIS_WRITE in the states that take them, and the ends of a drain, a test and a BIST. -/
def Obligations.PortCommandsRun : Prop :=
  (∀ (s : State) (path : Path) (port : Word), s.sys.idleSlot .port path →
    let p := fld port 9 0
    (s.sys.port p).st = .up →
      exec (.portDrain path port) s =
        .next { s with
          sys := replied path 0x2004 0 0
            (fun x => ((cmdTaken .port path 1 [(0, port)] [] x).startDrain p).settle.done .port path []) s.sys }) ∧
  (∀ (s : State) (path : Path) (port : Word), s.sys.idleSlot .port path →
    let p := fld port 9 0
    (s.sys.port p).st = .maintenance → (s.sys.port p).test = none → s.sys.bistHolds p = false →
      exec (.portResume path port) s =
        .next { s with
          sys := replied path 0x2004 0 0
            (fun x => ((cmdTaken .port path 2 [(0, port)] [] x).startTraining p).settle.done .port path []) s.sys }) ∧
  (∀ (s : State) (path : Path) (port : Word), s.sys.idleSlot .port path → s.sys.rwsOk = .ok () →
      exec (.portForget path port) s =
        .next { s with
          sys := replied path 0x2004 0 0
            (fun x =>
              ((((x.setArgs .port path [(0, port)]).modNv fun n =>
                      { n with season := del n.season (fld port 9 0) }).jrnl.accept .port path
                  (BitVec.ofNat 32 (3 * 2 ^ 24)) []).settle).done .port path []) s.sys }) ∧
  (∀ (s : State) (path : Path) (port pattern duration : Word), s.sys.idleSlot .port path →
    let p := fld port 9 0
    let n := fld pattern 3 0
    1 ≤ n → n ≤ 4 → (s.sys.port p).st = .maintenance → (s.sys.port p).test = none → 1 ≤ duration.toNat →
    duration.toNat ≤ 60000 →
      exec (.laneTest path port pattern duration) s =
        .next { s with
          sys := replied path 0x2004 0 0
            (fun x =>
              (cmdTaken .port path 4 [(0, port), (1, pattern), (2, duration)] [] x).modPort p fun q =>
                { q with
                  test := some
                    { path, pattern := BitVec.ofNat 4 n, stop := s.sys.clk.mono + duration.toNat * 1000000 } })
            s.sys }) ∧
  (∀ (s : State) (path : Path) (die : Word), s.sys.idleSlot .port path →
    let d := fld die 3 0
    s.sys.dieQuiet d = true → get? s.sys.ports.bist d = none →
      exec (.dieBist path die) s =
        .next { s with
          sys := replied path 0x2004 0 0
            (fun x => (cmdTaken .port path 5 [(0, die)] [] x).modPorts fun q => { q with bist := put q.bist d path })
            s.sys }) ∧
  (∀ (s : State) (path : Path) (cage address length : Word) (answer : List Byte) (u : CageUnit), s.sys.idleSlot .port path →
    1 ≤ length.toNat → length.toNat ≤ 128 → (s.sys.cage (fld cage 6 0)).unit = some u →
      exec (.cmisRead path cage address length (some answer)) s =
        .next { s with
          sys := replied path 0x2004 0 0
            (fun x =>
              ((cmdTaken .port path 6 [(0, cage), (1, address), (2, length)] [] x).emit
                (.cmisRead (BitVec.ofNat 7 (fld cage 6 0)) ((address.setWidth 24).setWidth 32) length.toNat)).done .port path
                (cmisWords (bytesAt answer 0 length.toNat))) s.sys }) ∧
  (∀ (s : State) (path : Path) (cage address length : Word) (data : List Word) (u : CageUnit), s.sys.idleSlot .port path →
    1 ≤ length.toNat → length.toNat ≤ 120 → (s.sys.cage (fld cage 6 0)).unit = some u →
      let args := [(0, cage), (1, address), (2, length)] ++
        (List.range (min data.length 30)).map fun i => (3 + i, nth data i 0)
      let arg (n : Nat) : Word := ((s.sys.setArgs .port path args).slot .port path).arg n
      exec (.cmisWrite path cage address length data true) s =
        .next { s with
          sys := replied path 0x2004 0 0
            (fun x =>
              ((cmdTaken .port path 7 args [] x).emit
                (.cmisWrite (BitVec.ofNat 7 (fld (arg 0) 6 0)) (((arg 1).setWidth 24).setWidth 32)
                  ((wordsToBytes ((List.range 30).map fun i => arg (3 + i))).take length.toNat))).settle.done .port path [])
            s.sys }) ∧
  (∀ (s : State) (port : Port) (t : Nat), (s.sys.port port.toNat).st = .draining →
    (s.sys.port port.toNat).drain = some t → (s.sys.eg port.toNat).idle = true →
      exec (.drainComplete port) s =
        .next { s with
          sys := (s.sys.toMono (t + (s.sys.port port.toNat).drainUs * 1000 + 2097152)).modPort port.toNat fun q =>
            { q with st := .maintenance, drain := none } }) ∧
  (∀ (s : State) (port : Port) (errors : List Word) (t : LaneTest), (s.sys.port port.toNat).test = some t →
      exec (.laneTestEnd port errors) s =
        .next { s with
          sys := ((s.sys.toMono t.stop).modPort port.toNat fun q => { q with test := none }).done .port t.path
            ((List.range 8).map fun i => (i, nth errors i 0)) }) ∧
  (∀ (s : State) (die : Die) (failed : Word) (path : Path), get? s.sys.ports.bist die.toNat = some path →
      let d := die.toNat
      let t := s.sys.modPorts fun q =>
        { q with
          bist := del q.bist d
          bistFailed := if failed = 0 then q.bistFailed.filter fun x => x != d else insertNat d q.bistFailed }
      exec (.dieBistComplete die failed) s =
        .next { s with
          sys :=
            (if failed = 0 then (s.sys.diePorts d).foldl (fun a p => a.tryEnable p) t
              else t.faultUnit faultDieBist d []).done .port path [(0, failed)] })

/-- Cages and neighbours (13 R406, R407, R419; 22 R628-R632): an inserted unit is power-checked and joins the queue; removed
or over its limit it is a fault of its ports, and the queue goes on; its alarms are logged under a code that the spec leaves
open (log 22), with bytes 32-35 zero (20 R602), and its monitors are read; a loss of J2 powers every cage off, and its
return powers them again; a neighbour's fault notice goes to the sink and the error log. -/
def Obligations.CagesRun : Prop :=
  (∀ (s : State) (cage : BitVec 7) (unit : CageUnit), s.sys.portsOn = true → s.sys.boot.j2Lost = false →
      exec (.cageInsert cage unit) s =
        .next { s with
          sys := (s.sys.modCage cage.toNat fun _ => { unit := some unit }).findUnit cage.toNat }) ∧
  (∀ (s : State) (cage : BitVec 7) (u : CageUnit), (s.sys.cage cage.toNat).unit = some u → s.sys.portsOn = true →
      let t := (s.sys.modCage cage.toNat fun _ => {}).modPorts fun q =>
        { q with cageQueue := q.cageQueue.filter fun x => x != cage.toNat }
      exec (.cageRemove cage) s =
        .next { s with
          sys := (((t.cagePorts cage.toNat).foldl (fun t p => t.linkFault p 1) t).settle).queuePass }) ∧
  (∀ (s : State) (cage : BitVec 7) (u : CageUnit), (s.sys.cage cage.toNat).unit = some u →
    (s.sys.cage cage.toNat).off = false → s.sys.portsOn = true → s.sys.boot.j2Lost = false →
      exec (.cageOvercurrent cage) s =
        .next { s with
          sys :=
            ((((s.sys.modCage cage.toNat fun x =>
                  { x with off := true, lowPower := true, released := false }).modPorts fun q =>
                { q with cageQueue := q.cageQueue.filter fun x => x != cage.toNat }).powerNotice cage.toNat).cageFault
              cage.toNat).queuePass }) ∧
  (∀ (s : State) (cage : BitVec 7) (u : CageUnit) (alarms : Word), (s.sys.cage cage.toNat).unit = some u →
    s.sys.portsOn = true →
      exec (.cmisInterrupt cage alarms) s =
        .next { s with
          sys := s.sys.log (Config.cmisAlarmCode alarms) 0x03 (cage.toNat / 8) (8 * cage.toNat) 0 0 [] }) ∧
  (∀ (s : State) (cage : BitVec 7) (u : CageUnit) (monitors : CmisMonitors), (s.sys.cage cage.toNat).unit = some u →
    s.sys.portsOn = true →
      exec (.cmisPoll cage monitors) s = .next { s with sys := s.sys.modCage cage.toNat fun x => { x with monitors } }) ∧
  (∀ (s : State), s.sys.boot.j2Lost = false → s.sys.portsOn = true →
      let u := (s.sys.modBoot fun b => { b with j2Lost := true }).modPorts fun q =>
        { q with cage := q.cage.map fun e => (e.1, { e.2 with lowPower := true, released := false }), cageQueue := [] }
      exec (.j2Loss true) s = .next { s with sys := (u.upPorts.foldl (fun a p => a.linkFault p 1) u).settle }) ∧
  (∀ (s : State), s.sys.boot.j2Lost = true → s.sys.portsOn = true →
      exec (.j2Loss false) s =
        .next { s with sys := (s.sys.modBoot fun b => { b with j2Lost := false }).powerCages }) ∧
  (∀ (s : State) (d : Delivery) (t : Sys), s.sys.takeDelivery (fun d => d.svc == 5 && d.pkt.kind == 7) = some (d, t) →
      let l := d.pkt.payload
      exec .faultNoticeReceive s =
        .next { s with
          sys := ((t.tally itemNoticeSink (t.portOf d)).log (wordAt l 0) 0x03 20 (beAt l 12 4 / 2 ^ 22) 4
            ((wordAt l 4).setWidth 64) []).consume d })

/-! ## Memory and dies -/

/-- PATROL_SCRUB_READ, HBM_UNCORRECTABLE, SRAM_UNCORRECTABLE, SRAM_BANK_ROTATE, STACK_LOSS, STACK_REMAP_COMPLETE, DIE_LOSS
(01 R34; 14 R437-R444, R447, R448). An uncorrectable unit is counted, poisoned and logged, its row is spared and its item is
given up; the patrol reads on from where it stands, in the order of the addresses (the model's choice: log 132), reports a
poisoned unit again, and counts a corrected error on its stack and row; a damaged table item stays so for 10 µs; a lost
stack ends the HBM services; a lost die takes its links, its packets or contexts, its stack and the dies that it isolates.
-/
def Obligations.MemoryEventsRun : Prop :=
  (∀ (s : State) (address : BitVec 48) (item : HbmItem), s.sys.hbmHas address.toNat = true →
      let addr := address.toNat
      let m := hbmMap s.sys.liveStacks addr
      let t := s.sys.modStack m.1 fun x =>
        { x with ue := if x.ue = 0xFFFFFFFFFFFFFFFF then x.ue else x.ue + 1, cycleUe := x.cycleUe + 1 }
      let u := (t.count 0x9050 m.1 0 1).modMem fun y => { y with poisoned := put y.poisoned (addr / 256) item }
      exec (.hbmUncorrectable address item) s =
        .next { s with
          sys :=
            ((u.log Config.memErrorCode 0x05 m.1 0 2 (BitVec.ofNat 64 addr)
              [BitVec.ofNat 32 (regionAt (regionSizes s.sys.mem.alloc) 0 addr * 2 ^ 24 + m.1 * 2 ^ 16)]).spareRow m.1
              (m.2 / 1024) addr).itemLost item }) ∧
  (∀ (s : State) (address : BitVec 48) (item : HbmItem),
    let u := address.toNat / 256
    address.toNat < s.sys.allocated → s.sys.mem.patrolNext < s.sys.units → s.sys.mem.patrolNext ≤ u →
    (∀ e ∈ s.sys.mem.poisoned, e.1 < s.sys.mem.patrolNext ∨ u < e.1) →
      let t := s.sys.modMem fun m => { m with patrolNext := u + 1 }
      exec (.patrolScrubRead address .clean item) s = .next { s with sys := t.patrolEnd } ∧
      exec (.patrolScrubRead address .corrected item) s =
        .next { s with sys := (t.correctable address.toNat).patrolEnd } ∧
      exec (.patrolScrubRead address .uncorrectable item) s =
        .next { s with sys := (t.uncorrectable address.toNat item).patrolEnd }) ∧
  (∀ (s : State) (address : BitVec 48) (result : ScrubResult) (item held : HbmItem),
    let u := address.toNat / 256
    address.toNat < s.sys.allocated → s.sys.mem.patrolNext < s.sys.units → s.sys.mem.patrolNext ≤ u →
    (s.sys.mem.poisoned.filter fun e => decide (s.sys.mem.patrolNext ≤ e.1) && decide (e.1 ≤ u)) = [(u, held)] →
      exec (.patrolScrubRead address result item) s =
        .next { s with
          sys := ((s.sys.modMem fun m => { m with patrolNext := u + 1 }).uncorrectable (u * 256) held).patrolEnd }) ∧
  (∀ (s : State) (id : Nat) (r : PktRec), s.sys.pktRec id = some r →
      exec (.sramUncorrectable (.packet id)) s = .next { s with sys := (s.sys.sramError r.die).losePacket id }) ∧
  (∀ (s : State) (ctx tile : Nat),
      let t := s.sys.sramError (16 + ctx % 4)
      exec (.sramUncorrectable (.tile ctx tile)) s =
        .next { s with
          sys := if (s.sys.ctx ctx).any fun x => x.st == .active && (get? x.tiles tile).isSome then t.resetTile ctx tile 0
            else t }) ∧
  (∀ (s : State) (die : Die) (i : TableItem),
      exec (.sramUncorrectable (.tableItem die i)) s =
        .next { s with
          sys := (s.sys.sramError die.toNat).modMem fun m =>
            { m with
              damaged :=
                (m.damaged.filter fun e => decide (s.sys.clk.mono < e.2.2)) ++
                  [(die.toNat, i, s.sys.clk.mono + 10000)] } }) ∧
  (∀ (s : State) (i : Nat) (f : Flow), get? s.sys.flows.ctx i = some f →
      exec (.sramUncorrectable (.flow i)) s = .next { s with sys := (s.sys.sramError (16 + f.home)).loseFlow i }) ∧
  (∀ (s : State) (pool : SramPool), s.sys.mem.cfg.rotate = true →
    let k := poolKey pool
    s.sys.mem.noSpare.contains k.1 = false →
      let b := getD s.sys.mem.nextBank k.1 0
      let t := s.sys.toMono (getD s.sys.mem.rotated k.1 0 + s.sys.bankPeriod k.2.2)
      let u := t.modMem fun m => { m with rotated := put m.rotated k.1 t.clk.mono }
      exec (.sramBankRotate pool true) s =
        .next { s with
          sys := u.modMem fun m =>
            { m with
              nextBank := put m.nextBank k.1 ((b + 1) % (k.2.2 + 1)), spareBank := put m.spareBank k.1 b } } ∧
      exec (.sramBankRotate pool false) s =
        .next { s with
          sys := (u.modMem fun m => { m with noSpare := insertNat k.1 m.noSpare }).faultUnit faultSramBank k.2.1
            [] }) ∧
  (∀ (s : State) (stack : Nat) (cause : BitVec 8), stack < 20 → get? s.sys.nv.stackLost stack = none →
      let t := (s.sys.modNv fun n =>
        { n with stackLost := put n.stackLost stack cause, spill := { n.spill with enable := false } }).jrnl.jrnl
      let u := (t.modMem fun m =>
          { m with
            alloc := 255, remapping := true, poisoned := [], patrolNext := 0, patrolStart := s.sys.clk.mono }).modSw fun w =>
        { w with spillCfg := { w.spillCfg with enable := false } }
      exec (.stackLoss stack cause) s =
        .next { s with sys := u.stopServices.dropSpill.freeFlows.faultUnit faultHbmLost stack [cause.setWidth 32] }) ∧
  (∀ (s : State),
      exec .stackRemapComplete s = .next { s with sys := s.sys.modMem fun m => { m with remapping := false } }) ∧
  (∀ (s : State) (unit : Nat), unit < 20 → s.sys.boot.lostDies.contains unit = false → s.sys.boot.mode ≠ .off →
    s.sys.boot.mode ≠ .held →
      let t := (s.sys.modBoot fun b =>
        { b with lostDies := insertNat unit b.lostDies, dieResets := del b.dieResets unit }).dropLinks unit
      let v := if unit < 16 then t.dropDie unit else t.dropCore (unit - 16)
      exec (.dieLoss unit) s =
        .next { s with
          sys :=
            (((((v.loseStack unit 0 false).dropFences unit).faultUnit faultDieLost unit []).loseCollierDie
              unit).loseIsolated 20).settle })

/-! ## The Felt -/

/-- FELT_FLIT_RECEIVE, FELT_NAK_RECEIVE, ROUTE_FENCE_RETURN, FELT_RECENTRE (15 R456-R458, R461, R462, R468). A flit with a
bad CRC owes a NAK and is counted, and the eighth in a row from that end pauses its lane module; a good flit frees what it
acknowledges; the one expected next is taken with the early ones that follow it, one that comes early on another module
waits for it, and a gap owes a NAK; a NAK sends the rest of the retry buffer again; a fence that comes back ends its hold; a
module recentres once a second. -/
def Obligations.FeltFlitsRun : Prop :=
  (∀ (s : State) (link : Nat) (far : Bool) (lmod : Nat) (flit : List Byte), link < 38 → s.sys.linkLive link = true →
    (FlitHead.of flit).ok = false →
      let key := 2 * lmod + b2n far
      let n := getD (s.sys.link link).crcFails key 0 + 1
      let t := ((s.sys.modLink link fun x => { x with crcFails := put x.crcFails key n }).count 0x9050 (dirTo link far) 2
        1).returnNak link far
      exec (.feltFlitReceive link far lmod flit) s =
        .next { s with sys := if 8 ≤ n then t.pauseModule link lmod else t }) ∧
  (∀ (s : State) (link : Nat) (far : Bool) (lmod : Nat) (flit : List Byte), link < 38 → s.sys.linkLive link = true →
    let h := FlitHead.of flit
    h.ok = true →
      let t := (s.sys.modLink link fun x => { x with crcFails := del x.crcFails (2 * lmod + b2n far) }).feltAck link (!far) h
      let d := (t.link link).dir far
      let ahead := (h.seq - d.rxNext).toNat
      exec (.feltFlitReceive link far lmod flit) s =
        .next { s with
          sys :=
            (if h.ftype = 0 ∨ 2048 ≤ ahead then t
              else if ahead = 0 then t.takeRun link far 256 flit
              else if d.nak then t
              else if ahead < (t.modsOn link).length then
                t.modDir link far fun d =>
                  { d with early := (d.early.filter fun e => e.1 != h.seq) ++ [(h.seq, flit)] }
              else t.returnNak link far).pumpAll }) ∧
  (∀ (s : State) (link : Nat) (far : Bool) (flit : List Byte), link < 38 → s.sys.linkLive link = true →
    let h := FlitHead.of flit
    h.ok = true → h.nak = true →
      exec (.feltNakReceive link far flit) s =
        .next { s with
          sys :=
            ((s.sys.modDir link (!far) fun d =>
              { d with
                retry := d.retry.filter fun x => !seqLe x.seq h.ackSeq
                sent := d.sent.filter fun x => !seqLe x.1 h.ackSeq }).resend link (!far)).pumpAll }) ∧
  (∀ (s : State) (source dest : Nat), source < 20 → dest < 20 →
    (s.sys.felt.fences.any fun e => e.1 == source && e.2.1 == dest) = true →
      exec (.routeFenceReturn source dest) s =
        .next { s with
          sys := (s.sys.modFelt fun t =>
            { t with fences := t.fences.filter fun e => !(e.1 == source && e.2.1 == dest) }).releasePair source dest
              s.sys.felt.held.length }) ∧
  (∀ (s : State) (link lmod : Nat), link < 38 → s.sys.linkUp link = true →
    (s.sys.agreed link).mask.getLsbD lmod = true →
      let t := s.sys.toMono (getD (s.sys.link link).recentred lmod 0 + 1000000000)
      exec (.feltRecentre link lmod) s =
        .next { s with sys := t.modLink link fun x => { x with recentred := put x.recentred lmod t.clk.mono } })

/-- FELT_PROPOSE, FELT_CONFIRM, FELT_AGREE_TIMEOUT, FELT_RETRAIN_RETRY, FELT_LINK_DOWN (15 R460, R462, R464-R466): a
proposed record is kept at its end and quiesces the link, and with both each end confirms the agreed record; two
confirmations of it put the link into service (a link that has not trained since the full reset frees the lanes its spares
had taken, 15 R467); after 200 µs without agreement, and on a loss, the link is down and trains again once a second; dies
that no route reaches any more are lost.

FELT_MODULE_PAUSE, FELT_LANE_REPAIR, FELT_MODTEST, FELT_MODTEST_END, FELT_RETRAIN (15 R458, R466, R469): a paused module
sends what it held on the others; one with a dead clock or more than four failed lanes is cleared, else each failed lane
takes a spare, which is agreed and reported, and the module goes on; a test pauses its module and ends with the lanes that
failed; a retrain quiesces its link. -/
def Obligations.FeltAgreementAndRepairsRun : Prop :=
  (∀ (s : State) (link : Nat) (far : Bool) (record : List Byte) (r : FeltRec), link < 38 →
    FeltRec.of link record = some r →
      let t := (s.sys.modNv fun n =>
        if far then { n with feltFar := put n.feltFar link r } else { n with feltNear := put n.feltNear link r }).jrnl
      let u := t.reroute [] fun t => t.modLink link fun x =>
        { x with
          st := .agreeing, propNear := if far then x.propNear else some r, propFar := if far then some r else x.propFar
          agreeStart := some (x.agreeStart.getD s.sys.clk.mono), retryAt := none }
      exec (.feltPropose link far record) s =
        .next { s with
          sys :=
            match (u.link link).propNear, (u.link link).propFar with
            | some a, some b =>
              (u.sayRecord link false (u.agreeOf link a b)).sayRecord link true (u.agreeOf link a b)
            | _, _ => u }) ∧
  (∀ (s : State) (link : Nat) (far : Bool) (record : List Byte) (a b r : FeltRec), link < 38 →
    FeltRec.of link record = some r → (s.sys.link link).propNear = some a → (s.sys.link link).propFar = some b →
    (s.sys.link link).st = .agreeing → s.sys.agreeOf link a b = r → r.mask ≠ 0 →
    (if far then (s.sys.link link).confNear else (s.sys.link link).confFar) = some r →
      let t := s.sys.modLink link fun x => if far then { x with confFar := some r } else { x with confNear := some r }
      let u := t.enterService link r
      exec (.feltConfirm link far record) s =
        .next { s with sys := if u.boot.mode = .ready then (u.loseIsolated 20).settle else u }) ∧
  (∀ (s : State) (link : Nat) (t : Nat), link < 38 → (s.sys.link link).agreeStart = some t →
    (s.sys.link link).st = .agreeing →
      let u := (s.sys.toMono (t + 200000)).linkDown link true
      exec (.feltAgreeTimeout link) s =
        .next { s with sys := if u.boot.mode = .ready then (u.loseIsolated 20).settle else u }) ∧
  (∀ (s : State) (link : Nat) (near far : List (Nat × List Nat)) (t : Nat), link < 38 → (s.sys.link link).st = .down →
    (s.sys.link link).retryAt = some t → s.sys.boot.lostDies.contains (linkEnds link).1 = false →
    s.sys.boot.lostDies.contains (linkEnds link).2 = false →
      let u := s.sys.toMono t
      let fresh := (s.sys.link link).fresh
      let c := if fresh then [] else (s.sys.link link).cleared
      let a := trainedRec link fresh (getD u.nv.feltNear link {}) c near
      let b := trainedRec link fresh (getD u.nv.feltFar link {}) c far
      let r := agreeRecs link c (if fresh then {} else u.agreed link) a b
      let v := (((u.modNv fun n =>
        { n with feltNear := put n.feltNear link a, feltFar := put n.feltFar link b }).jrnl).sayRecord link false
          a).sayRecord link true b
      exec (.feltRetrainRetry link near far) s =
        .next { s with
          sys :=
            if r.mask = 0 then v.linkDown link true
            else ((v.sayRecord link false r).sayRecord link true r).enterService link r }) ∧
  (∀ (s : State) (link : Nat), link < 38 → s.sys.linkUp link = true →
      let u := s.sys.linkDown link false
      exec (.feltLinkDown link) s =
        .next { s with sys := if u.boot.mode = .ready then (u.loseIsolated 20).settle else u }) ∧
  (∀ (s : State) (link lmod : Nat) (clockLost : Bool) (failed : List Nat), link < 38 →
      let t := (s.sys.pauseModule link lmod).modLink link fun x =>
        { x with crcFails := x.crcFails.filter fun e => e.1 / 2 != lmod }
      let u :=
        if clockLost = true ∨ 4 < failed.length then t.clearModule link lmod
        else
          ((failed.foldl (fun u lane => if lane < 68 then u.repairLane link lmod lane else u) t).modLink link fun x =>
            { x with paused := x.paused.filter fun i => i != lmod }).pumpAll
      exec (.feltModulePause link lmod clockLost failed) s =
        .next { s with sys := if u.boot.mode = .ready then (u.loseIsolated 20).settle else u }) ∧
  (∀ (s : State) (link lmod lane : Nat) (lanes : List Nat), link < 38 → lane < 68 →
    let r := s.sys.agreed link
    r.mask.getLsbD lmod = true → steerLane (r.lanes lmod) lane = some lanes → lanes ≠ r.lanes lmod →
      let u := (((s.sys.pauseModule link lmod).agreeModule link
        { r with gen := r.gen + 1, repair := put r.repair lmod lanes }).modLink link fun x =>
          { x with paused := x.paused.filter fun i => i != lmod }).feltFault link Config.feltRepairCode
      exec (.feltLaneRepair link lmod lane) s =
        .next { s with sys := if u.boot.mode = .ready then (u.loseIsolated 20).settle else u }) ∧
  (∀ (s : State) (link lmod lane : Nat), link < 38 → lane < 68 → (s.sys.agreed link).mask.getLsbD lmod = true →
    steerLane ((s.sys.agreed link).lanes lmod) lane = none →
      let u := s.sys.clearModule link lmod
      exec (.feltLaneRepair link lmod lane) s =
        .next { s with sys := if u.boot.mode = .ready then (u.loseIsolated 20).settle else u }) ∧
  (∀ (s : State) (path : Path) (link lmod duration : Word), s.sys.idleSlot .felt path →
    let l := fld link 5 0
    let m := fld lmod 4 0
    let us := duration.toNat
    let x := s.sys.link l
    let mask := (s.sys.agreed l).mask
    l ≤ 37 → m < linkMods l → 4 ≤ us → us ≤ 100000 → s.sys.linkUp l = true → mask.getLsbD m = true →
    mask ≠ BitVec.ofNat 32 (2 ^ m) → x.test = none → x.retrain = [] →
      exec (.feltModtest path link lmod duration) s =
        .next { s with
          sys := replied path 0x2051 0 0
            (fun y =>
              ((cmdTaken .felt path 1 [(0, link), (1, lmod), (2, duration)] [] y).modLink l fun x =>
                { x with
                  test := some { path, lmod := m, start := s.sys.clk.mono, duration := us * 1000 } }).pauseModule l m)
            s.sys }) ∧
  (∀ (s : State) (link : Nat) (failed : List Nat) (x : FeltTest), link < 38 → (s.sys.link link).test = some x →
      let mask (lo hi : Nat) : Word :=
        BitVec.ofNat 32
          (sum (((List.range 69).filter fun i => lo ≤ i && i < hi && failed.contains i).map fun i => 2 ^ (i - lo)))
      let t := (s.sys.toMono (x.start + x.duration)).modLink link fun x => { x with test := none }
      let u := (t.laneCheck link x.lmod (failed.contains 68) (failed.filter fun i => i < 68)).done .felt x.path
        [(0, mask 0 32), (1, mask 64 69)]
      exec (.feltModtestEnd link failed) s =
        .next { s with sys := if u.boot.mode = .ready then (u.loseIsolated 20).settle else u }) ∧
  (∀ (s : State) (path : Path) (link : Word), s.sys.idleSlot .felt path →
    let l := fld link 5 0
    l ≤ 37 →
      exec (.feltRetrain path link) s =
        .next { s with
          sys := replied path 0x2051 0 0
            (fun y =>
              ((cmdTaken .felt path 2 [(0, link)] [] y).quiesce l).modLink l fun x =>
                { x with retrain := x.retrain ++ [path] })
            s.sys })

/-! ## Fabric time -/

/-- TIME_OS_RECEIVE, TIME_OS_TIMEOUT, PTP_MESSAGE_RECEIVE, PTP_SOURCE_TIMEOUT, PPS_IN_EDGE, PPS_TIMEOUT, REF10M_DETECT (16
R477, R480, R481, R487, R489). A valid TIME of an UP port that is not in holdover counts toward the fourth that qualifies
the port, and measures its offset. On a management port an Announce is held against the last of each other sender, and a
change of master starts afresh (which master is chosen is the model's choice beyond the comparison of IEEE 1588: log 179); a
Sync of the master with its time of departure known, at once or by its Follow_Up, asks for the delay, and the answer
completes an exchange, whose four timestamps give the offset. A PPS_IN edge is captured, and counts once the high half of
the time is set. Silence for 65,536 ns, three Sync intervals or 1.5 s disqualifies. A signal on REF10M_IN is in use where
REFSEL is 1, and a holdover then takes its rate; its failure in use is logged.

TIME_STEP_APPLY, HOLDOVER_LIMIT, PPS_OUT_EDGE, SETTIME_LO, EXTHI_READ (16 R483-R485, R490-R492). A step moves the time at
its boundary, sets the time-valid flag, is logged, and reported when it is large and not the first; after one back the next
refill comes at the next boundary; HOLDLIM is reported once; PPS_OUT rises at a second plus PPSOFF and falls 10 µs later;
SETTIME_LO names a step to SETTIME, which every die is told of (01 R31, 16 R483); EXTHI latches EXTLO. -/
def Obligations.TimeRuns : Prop :=
  (∀ (s : State) (port : Port) (bytes : List Byte),
    let p := port.toNat
    let q := s.sys.port p
    let t := s.sys.modPort p fun q => { q with osLast := s.sys.clk.mono }
    let x := getD s.sys.clk.links p {}
    let off := (s.sys.now - wordAt bytes 4).toInt - q.delay - getD s.sys.nv.asym p 0
    q.st = .up → q.linked = true → bytes.length = 16 → osOk bytes = true → beAt bytes 0 1 = 2 → s.sys.timeOn = true →
    bit (beAt bytes 2 1) 7 = true → bit (beAt bytes 2 1) 6 = false →
      exec (.timeOsReceive port bytes) s =
        .next { s with
          sys :=
            ((t.modClk fun c =>
              { c with
                links := put c.links p
                  { good := x.good + 1, qualified := x.qualified || 4 ≤ x.good + 1, last := c.mono } }).measure 3 p
              (BitVec.ofInt 32 off).toInt).sourceChange }) ∧
  (∀ (s : State) (port : Port) (x : LinkSrc), get? s.sys.clk.links port.toNat = some x →
      exec (.timeOsTimeout port) s =
        .next { s with
          sys := ((s.sys.toMono (x.last + 65536)).modClk fun c =>
            { c with links := del c.links port.toNat }).sourceChange }) ∧
  (∀ (s : State) (portB : Bool) (m : PtpMsg) (a : PtpAnnounce), s.sys.timeOn = true →
    m.ieee8023 = s.sys.clk.cfg.ptpXport → m.domain = s.sys.clk.cfg.ptpDomain.setWidth 8 → m.body = .announce a →
      let x := s.sys.clk.ptp portB
      let y := { x with masters := (x.masters.filter fun n => n.sender != m.sender) ++ [{ a with sender := m.sender }] }
      exec (.ptpMessageReceive portB m) s =
        .next { s with
          sys :=
            (s.sys.modClk fun c => c.setPtp portB
              (if y.master = x.master then y
                else { y with good := 0, qualified := false, logInterval := 0, sync := none, req := none })).sourceChange }) ∧
  (∀ (s : State) (portB : Bool) (m : PtpMsg) (seq : BitVec 16) (origin : Word64) (two : Bool) (corr interval : Int),
    s.sys.timeOn = true → m.ieee8023 = s.sys.clk.cfg.ptpXport → m.domain = s.sys.clk.cfg.ptpDomain.setWidth 8 →
    (s.sys.clk.ptp portB).master = some m.sender → m.body = .sync seq two origin corr interval → -7 ≤ interval →
    interval ≤ 0 →
      let x := s.sys.clk.ptp portB
      let y := { x with
        good := if x.sync.isSome then 0 else x.good, logInterval := interval, req := none
        sync := some (seq, s.sys.clk.ext - BitVec.ofInt 64 corr, if two then none else some origin) }
      exec (.ptpMessageReceive portB m) s =
        .next { s with
          sys :=
            if two then s.sys.modClk fun c => c.setPtp portB y
            else (s.sys.modClk fun c => c.setPtp portB
              { y with req := some (x.reqSeq, c.ext), reqSeq := x.reqSeq + 1 }).emit (.delayReq portB x.reqSeq) }) ∧
  (∀ (s : State) (portB : Bool) (m : PtpMsg) (seq : BitVec 16) (t2 origin : Word64) (corr : Int),
    s.sys.timeOn = true → m.ieee8023 = s.sys.clk.cfg.ptpXport → m.domain = s.sys.clk.cfg.ptpDomain.setWidth 8 →
    (s.sys.clk.ptp portB).master = some m.sender → m.body = .followUp seq origin corr →
    (s.sys.clk.ptp portB).sync = some (seq, t2, none) →
      let x := s.sys.clk.ptp portB
      exec (.ptpMessageReceive portB m) s =
        .next { s with
          sys :=
            (s.sys.modClk fun c => c.setPtp portB
              { x with
                sync := some (seq, t2 - BitVec.ofInt 64 corr, some origin), req := some (x.reqSeq, c.ext)
                reqSeq := x.reqSeq + 1 }).emit (.delayReq portB x.reqSeq) }) ∧
  (∀ (s : State) (portB : Bool) (m : PtpMsg) (seq q : BitVec 16) (t1 t2 t3 received : Word64) (corr : Int),
    s.sys.timeOn = true → m.ieee8023 = s.sys.clk.cfg.ptpXport → m.domain = s.sys.clk.cfg.ptpDomain.setWidth 8 →
    (s.sys.clk.ptp portB).master = some m.sender → m.body = .delayResp seq received corr true →
    (s.sys.clk.ptp portB).sync = some (q, t2, some t1) → (s.sys.clk.ptp portB).req = some (seq, t3) →
      let x := s.sys.clk.ptp portB
      exec (.ptpMessageReceive portB m) s =
        .next { s with
          sys :=
            ((s.sys.modClk fun c => c.setPtp portB
              { x with
                good := x.good + 1, qualified := x.qualified || 4 ≤ x.good + 1, last := s.sys.clk.mono
                sync := none, req := none }).measure (1 + b2n portB) 0
              (((t2 - t1).toInt - (received - BitVec.ofInt 64 corr - t3).toInt) / 2)).sourceChange }) ∧
  (∀ (s : State) (portB : Bool), (s.sys.clk.ptp portB).qualified = true →
      let x := s.sys.clk.ptp portB
      exec (.ptpSourceTimeout portB) s =
        .next { s with
          sys := ((s.sys.toMono (x.last + 3 * (1000000000 / 2 ^ (-x.logInterval).toNat))).modClk fun c =>
            c.setPtp portB
              { x with
                good := 0, qualified := false, logInterval := 0, sync := none, req := none
                masters := x.masters.filter fun a => x.master != some a.sender }).sourceChange }) ∧
  (∀ (s : State), s.sys.boot.mode = .ready →
      let cap := s.sys.clk.ext - BitVec.ofNat 64 s.sys.clk.cfg.ppsInDly
      let good :=
        match s.sys.clk.ppsLast with
        | some t =>
          if 999999000 ≤ s.sys.clk.mono - t ∧ s.sys.clk.mono - t ≤ 1000001000 ∧ s.sys.clk.ppsGood ≠ 0 then
            s.sys.clk.ppsGood + 1
          else 1
        | none => 1
      let t := s.sys.modClk fun c => { c with ppsCapture := cap, ppsCount := c.ppsCount + 1, ppsLast := some c.mono }
      exec .ppsInEdge s =
        .next { s with
          sys :=
            if s.sys.timeOn = true ∧ s.sys.clk.highSet = true then
              ((t.modClk fun c => { c with ppsGood := good, ppsQualified := c.ppsQualified || 4 ≤ good }).measure 4 0
                (ppsOffset cap)).sourceChange
            else t }) ∧
  (∀ (s : State) (t : Nat), s.sys.clk.ppsLast = some t →
      exec .ppsTimeout s =
        .next { s with
          sys := ((s.sys.toMono (t + 1500000000)).modClk fun c =>
            { c with ppsGood := 0, ppsQualified := false, ppsLast := none }).sourceChange }) ∧
  (∀ (s : State) (present : Bool),
      let t := s.sys.modClk fun c =>
        let d := { c with refPresent := present, refInUse := present && c.cfg.refSel }
        if c.holdover then { d with rate := if d.refInUse then 0 else meanRate c.rates } else d
      exec (.ref10mDetect present) s =
        .next { s with
          sys :=
            if s.sys.clk.refInUse = true ∧ present = false then t.log Config.refLostCode 0x03 16 0 0 0 [] else t }) ∧
  (∀ (s : State) (st : Step), s.sys.clk.step = some st →
      let t := (s.sys.toExt st.boundary).modClk fun c =>
        { c with
          ext := c.ext + BitVec.ofInt 64 st.delta, steps := c.steps + 1, valid := true, corrected := true
          stepInWindow := true, step := none, meas := [], highSet := c.highSet || st.high
          ptpA := { c.ptpA with sync := none, req := none }, ptpB := { c.ptpB with sync := none, req := none } }
      let d := twos 64 st.delta
      let detail : List Word := [0, 0, 0, 0, BitVec.ofNat 32 (d / 2 ^ 32), BitVec.ofNat 32 d]
      let u :=
        if t.clk.cfg.stepThr < st.delta.natAbs ∧ !st.first then t.faultUnit faultTimeStep 16 detail
        else t.log faultTimeStep 0x03 16 0 0 0 detail
      let v := if st.delta < 0 then u.modClk fun c => { c with lastRefill := u.floorTo 10 } else u
      exec .timeStepApply s =
        .next { s with
          sys :=
            (if s.sys.clk.valid then v.gatesStep else v.ppsValid.gatesValid.plansValid.countersValid).planOverdue.settle }) ∧
  (∀ (s : State), s.sys.clk.holdover = true → s.sys.clk.holdReported = false →
      exec .holdoverLimit s =
        .next { s with
          sys := ((s.sys.toMono (s.sys.clk.holdStart + s.sys.clk.cfg.holdLim * 1000000000)).modClk fun c =>
            { c with holdReported := true }).faultUnit faultTimeHoldover 16 [] }) ∧
  (∀ (s : State), s.sys.clk.ppsOut = true →
      exec .ppsOutEdge s =
        .next { s with
          sys := ((s.sys.toMono (s.sys.clk.ppsRise + 10000)).modClk fun c => { c with ppsOut := false }).emit
            (.ppsOut false) }) ∧
  (∀ (s : State), s.sys.clk.ppsOut = false → s.sys.clk.valid = true →
      let c := s.sys.clk
      let t := s.sys.toExt (s.sys.dueOf (nextPps c.cfg.ppsOff) c.firstPps c.lastPps c.ranPps)
      let here := nextPps c.cfg.ppsOff (t.clk.ext - 1000000000)
      let goes := here == c.lastPps + 1000000000
      exec .ppsOutEdge s =
        .next { s with
          sys := (t.modClk fun c =>
            { c with
              ppsOut := true, ppsRise := c.mono
              firstPps := if goes then c.firstPps else here, lastPps := here
              ranPps := if goes then c.ranPps else (c.firstPps, c.lastPps) :: c.ranPps }).emit
            (.ppsOut true) }) ∧
  (∀ (s : State) (path : Path) (value : Word), s.sys.takes path 0x7001 →
    (prioList s.sys.clk.cfg.srcPrio).contains 5 = true → s.sys.earlierQualified = false → s.sys.timeOn = true →
      exec (.settimeLo path value) s =
        .next { s with
          sys := replied path 0x7001 0 9
            (fun x =>
              let t := (x.modClk fun c => { c with dictQualified := true }).chooseSource
              let delta := ((t.clk.setHi ++ value) - t.boundarySoon).toInt
              (t.modClk fun c =>
                { c with
                  step := some { boundary := t.boundarySoon, delta, first := !t.clk.corrected, high := true } }).tellDies
                (toBe 8 t.boundarySoon.toNat ++ toBe 8 (twos 64 delta))) s.sys }) ∧
  (∀ (s : State) (path : Path), s.sys.shows path 0x7000 →
      exec (.exthiRead path) s =
        .next { s with
          sys :=
            (s.sys.modClk fun c => { c with extLo := put c.extLo (pathNum path) s.sys.now }).answer path
              (s.sys.sessionOpen path) (dictAddr 0x7000 0 1) 1 0 (toBe 4 (s.sys.clk.ext.toNat / 2 ^ 32)) })

/-! ## Power and cooling -/

/-- CONTROL_CYCLE (17 R504 and the rules that a cycle carries out): at its boundary the settings that wait take effect, the
time unit corrects, the readings are taken, and in READY the operating points move, warn levels are watched, and the limit
and the next grants come into force. -/
def Obligations.ControlCycleRuns : Prop :=
  ∀ (s : State) (m : CycleInput), s.sys.boot.mode = .ready →
    let t := ((s.sys.toExt (s.sys.dueOnce 17 s.sys.clk.firstCycle s.sys.clk.lastCycle s.sys.clk.ranCycle)).newCycle.timeCycle).takeCycle m
    t.boot.mode = .ready ∧
    (let v := (List.range 4).foldl (fun a c => a.movePoint c) t.stackCheck
     let w := (List.range 20).foldl (fun a i => (a.warn (.die i)).warn (.stack i)) v
     let x := (if w.hearth.change then w.applyProfile else w).hearthCycle m
     exec (.controlCycle m) s =
      .next { s with sys := (x.takeCodewords m.codewords).fenceCtxs.pruneFenced.settle })

/-- GRANT_TIMEOUT, WARMUP_END, SENSOR_FAIL, SENSOR_SAMPLE_10MS, DIP_END, BUDGET_STALE, FACSTATUS, BUDGET (01 R30; 17 R495,
R501, R507, R509, R511; 18 R527, R542): a die without a new grant grants zero, a core die with its Vats and units; a failed
sensor is reported once; the coolant's warn levels are watched; a dip is counted and logged; a budget of the shelf that is
meant for this module and fresh is taken, before READY too, and one below 2,600 W is reported; FACSTATUS leaves as an
Ethernet frame. -/
def Obligations.PowerEventsRun : Prop :=
  (∀ (s : State) (core : Nat), core < 4 → s.sys.boot.mode = .ready →
      let t := (s.sys.toMono (s.sys.hearth.lastGrant + 1048576)).modHearth fun h =>
        { h with noGrant := insertNat (16 + core) h.noGrant }
      exec (.grantTimeout (16 + core)) s =
        .next { s with
          sys :=
            (t.modHearth fun h =>
              { h with
                vatLevel := setNth h.vatLevel core 0, tokTag := h.tokTag.filter fun e => e.1 / 65536 != core }).modGraphs
              fun g => { g with units := put g.units core 0 } }) ∧
  (∀ (s : State) (die : Nat), die < 16 → s.sys.boot.mode = .ready →
      exec (.grantTimeout die) s =
        .next { s with
          sys := (s.sys.toMono (s.sys.hearth.lastGrant + 1048576)).modHearth fun h =>
            { h with noGrant := insertNat die h.noGrant } }) ∧
  (∀ (s : State), s.sys.boot.warm = true →
      exec .warmupEnd s =
        .next { s with
          sys := (s.sys.toMono (s.sys.boot.readyAt + 30000000000)).modBoot fun b => { b with warm := false } }) ∧
  (∀ (s : State) (x : Sensor), Sys2Proof.Machine.sensorOk x = true → s.sys.hearth.sensorFailed.contains x = false →
      exec (.sensorFail x) s =
        .next { s with
          sys := (s.sys.modHearth fun h => { h with sensorFailed := h.sensorFailed ++ [x] }).faultUnit
            faultThermSensor (sensorUnit x) [] }) ∧
  (∀ (s : State) (inlet outlet : BitVec 32) (flow : Word),
      exec (.sensorSample10ms inlet outlet flow) s =
        .next { s with
          sys :=
            (((s.sys.modHearth fun h =>
              { h with tinlet := inlet.toInt, toutlet := outlet.toInt, flow := flow.toNat }).warn .inlet).warn
                .flow).tryPowerOn }) ∧
  (∀ (s : State), s.sys.boot.dip = true → s.sys.boot.stopped = false → s.sys.boot.waiting = false →
      exec .dipEnd s =
        .next { s with
          sys :=
            (((s.sys.modBoot fun b => { b with dip := false }).modHearth fun h =>
              { h with dips := s.sys.bump h.dips }).log Config.dipCode 0x03 20 0 0 0 []).modBoot fun b =>
                { b with lowInput := false } }) ∧
  (∀ (s : State), s.sys.hearth.stale = false → s.sys.boot.mode = .ready →
      exec .budgetStale s =
        .next { s with
          sys := ((s.sys.toMono (s.sys.hearth.facLast + 10000000000)).modHearth fun h =>
            { h with stale := true }).faultUnit faultPwrBudget 20 [] }) ∧
  (∀ (s : State), s.sys.boot.mode = .ready → s.sys.boot.bothLost = false →
      exec .facstatus s =
        .next { s with
          sys := s.sys.emit (.message .facility (facFrame 0xFFFFFFFFFFFF
            (dictMsg 0x11 0 0 0 0 (s.sys.facWords.flatMap fun w => toBe 4 w.toNat)))) }) ∧
  (∀ (s : State) (frame : List Byte), s.sys.facilityOn = true → 60 ≤ frame.length → beAt frame 12 2 = 0x88B5 →
    let b := frame.drop 14
    beAt b 0 1 = 0x10 → beAt b 12 4 = 12 → beAt b 8 4 = 0 →
    (beAt (b.drop 16) 0 4 % 2 = 1 ∨ beAt (b.drop 16) 0 4 / 4096 = s.sys.coord) →
    (∀ q, s.sys.mg.budgetSeq = some q → serialAfter (wordAt (b.drop 16) 8) q = true) →
      let w := wordAt (b.drop 16) 4
      let x := s.sys.modMg fun m => { m with facPeer := BitVec.ofNat 48 (beAt frame 6 6) }
      let t := (x.modHearth fun h =>
        { h with facBudget := w.toNat, facSeen := true, stale := false, facLast := s.sys.clk.mono }).modMg fun m =>
          { m with budgetSeq := some (wordAt (b.drop 16) 8) }
      exec (.budget frame) s =
        .next { s with sys := if w.toNat < 2600 then t.faultUnit faultPwrBudget 20 [] else t })

/-- PROFILE_SELECT_WRITE (17 R516, R522): SELECT takes a profile number or 255, and the profile that it names waits for the
next full reset when it is not the one in force; each parameter takes a value in its range, and one of the profile in force
takes effect at the next control cycle. -/
def Obligations.ProfilesAreWritten : Prop :=
  (∀ (s : State) (path : Path) (v : Word), s.sys.takes path 0xA000 → s.sys.rwsOk = .ok () →
    (v.toNat ≤ 3 ∨ v = 255) →
      exec (.profileSelectWrite path 0xA000 0 v) s =
        .next { s with
          sys := replied path 0xA000 0 0
            (fun x =>
              let t := (x.modNv fun n => { n with select := v.toNat }).jrnl
              t.modHearth fun h =>
                { h with pendingProfile := if t.selected = h.inForce then 255 else t.selected }) s.sys }) ∧
  (∀ (s : State) (path : Path) (index : BitVec 16) (v : Word), s.sys.takes path index.toNat →
    (index = 0xA001 ∨ index = 0xA002) → v.toNat ≤ 3 →
      exec (.profileSelectWrite path index 0 v) s =
        .next { s with sys := replied path index.toNat 0 0 (fun x => x.setSel path index.toNat 0 v) s.sys }) ∧
  (∀ (s : State) (path : Path) (index : BitVec 16) (v : Word), s.sys.takes path index.toNat → s.sys.rwsOk = .ok () →
      let p := (s.sys.selOf path index.toNat 0).toNat % 4
      let n := v.toNat
      let quantum (i : Nat) : BitVec 16 × Nat × Nat × Nat × (Profile → Profile) :=
        (0xA002, i + 1, 4160, 1048576, fun q => { q with sched := { q.sched with quantum := setNth q.sched.quantum i n } })
      let rate (i : Nat) : BitVec 16 × Nat × Nat × Nat × (Profile → Profile) :=
        (0xA002, i + 0x10, if i = 6 then 1 else 0, 1024, fun q =>
          { q with sched := { q.sched with rate := setNth q.sched.rate i n } })
      let burst (i : Nat) : BitVec 16 × Nat × Nat × Nat × (Profile → Profile) :=
        (0xA002, i + 0x20, 4160, 4194304, fun q => { q with sched := { q.sched with burst := setNth q.sched.burst i n } })
      let base : List (BitVec 16 × Nat × Nat × Nat × (Profile → Profile)) :=
        [(0xA001, 1, 0, 1, fun q => { q with vfirst := n }), (0xA001, 2, 1, 15, fun q => { q with wspill := n }),
          (0xA001, 3, 1, 15, fun q => { q with wbc := n }), (0xA001, 4, 1, 15, fun q => { q with wpar := n }),
          (0xA001, 5, 0, 64, fun q => { q with units := n })]
      ∀ e ∈ base ++ (List.range 6).map quantum ++ (List.range 7).map rate ++ (List.range 7).map burst,
        e.1 = index → e.2.2.1 ≤ n → n ≤ e.2.2.2.1 →
          exec (.profileSelectWrite path index (BitVec.ofNat 8 e.2.1) v) s =
            .next { s with
              sys := replied path index.toNat 0 e.2.1
                (fun x =>
                  let t := (x.modNv fun m => { m with profiles := modNth m.profiles p e.2.2.2.2 }).jrnl
                  if p = t.hearth.inForce then t.modHearth fun h => { h with change := true } else t) s.sys })

/-! ## Counters, samples and the error log -/

/-- COUNTER_FREEZE, COUNTER_UNFREEZE, COUNTER_SNAPSHOT, COUNTER_CLEAR, COUNTER_CLEAR_SATURATING, ATACT, COUNTER_ACTION_APPLY
(20 R588-R592): a write of CTRL queues its action for the first boundary of 1,024 ns at least 2 µs away; ATACT arms one for
ATTIME; the action runs at its boundary.

COUNTER_OVERFLOW_SAMPLE, SAMPLE_RECORD_READ, ERROR_LOG_READ, BANDWIDTH_WINDOW_CLOSE (20 R593-R595, R603): an overflow with
SAMPLE reloads its counter and records the packet, with a free SKID of at most 64; a read of RECORD answers the record that
SEQ names and moves SEQ on; a window turns the bytes of every port into its bandwidth. -/
def Obligations.CounterAndSampleCommandsRun : Prop :=
  (∀ (s : State) (path : Path), s.sys.takes path 0x9000 →
      let queue (a : CtrAction) : Host.Outcome State Fault Refusal :=
        .next { s with
          sys := replied path 0x9000 0 0
            (fun x => x.modCnt fun c => { c with actions := c.actions ++ [(a, boundaryAt (s.sys.clk.ext + 2000))] }) s.sys }
      exec (.counterFreeze path) s = queue .freeze ∧ exec (.counterUnfreeze path) s = queue .unfreeze ∧
      exec (.counterSnapshot path) s = queue .snapshot ∧ exec (.counterClear path) s = queue .clear ∧
      ((path = .pcie ∨ (s.sys.sessionOpen path = true ∧ s.sys.rights path = 3)) →
        exec (.counterClearSaturating path) s = queue (.clearSat path))) ∧
  (∀ (s : State) (path : Path) (value : Word), s.sys.takes path 0x9000 → value.toNat ≤ 3 →
      exec (.atact path value) s =
        .next { s with
          sys := replied path 0x9000 0 2
            (fun x => x.modCnt fun c =>
              { c with
                atAct := BitVec.ofNat 2 value.toNat, armed := value != 0, atExt := s.sys.extOf c.atTime }) s.sys }) ∧
  (∀ (s : State) (a : CtrAction) (at' : Word64) (rest : List (CtrAction × Word64)),
    s.sys.cnt.actions = (a, at') :: rest → (s.sys.cnt.armed = false ∨ s.sys.clk.valid = false) →
      exec .counterActionApply s =
        .next { s with sys := ((s.sys.toExt at').modCnt fun c => { c with actions := rest }).counterAct a }) ∧
  (∀ (s : State), s.sys.cnt.actions = [] → s.sys.cnt.armed = true → s.sys.clk.valid = true →
      exec .counterActionApply s =
        .next { s with
          sys := ((s.sys.toExt (boundaryAt s.sys.cnt.atExt)).modCnt fun c => { c with armed := false }).counterAct
            (armedAction s.sys.cnt.atAct) }) ∧
  (∀ (s : State) (unit : BitVec 8) (ctr : BitVec 3) (port : Port) (header : List Byte),
    let c := getD (s.sys.unitCtr unit.toNat).cfg ctr.toNat 0
    unit.toNat ≤ 20 → (unit.toNat = 20 → ctr.toNat < 4) → fld c 31 31 = 1 → fld c 29 29 = 1 → s.sys.cnt.frozen = false →
    (s.sys.unitCtr unit.toNat).owed = [] →
      let t := s.sys.modCnt fun x =>
        { x with
          unit := modify x.unit unit.toNat {} fun u => { u with pc := put u.pc ctr.toNat (getD u.reload ctr.toNat 0) } }
      ∃ skid, skid ≤ 64 ∧
        exec (.counterOverflowSample unit ctr port header) s =
          .next { s with
            sys := t.draw.2.addSample
              { num := s.sys.cnt.sampleNext, time := s.sys.now, unit := unit, port := port
                event := BitVec.ofNat 8 (fld c 23 16), ctr := ctr, header := withSkid header skid } }) ∧
  (∀ (s : State) (path : Path) (r : Sample), s.sys.shows path 0x9080 →
    (s.sys.cnt.samples.find? fun r => r.num.toNat == (s.sys.selOf path 0x9080 3).toNat) = some r →
      exec (.sampleRecordRead path) s =
        .next { s with
          sys := (s.sys.setSel path 0x9080 3 (s.sys.selOf path 0x9080 3 + 1)).answer path (s.sys.sessionOpen path)
            (dictAddr 0x9080 0 4) 1 0 r.bytes }) ∧
  (∀ (s : State) (path : Path) (r : LogRec), s.sys.shows path 0xF000 →
    (s.sys.nv.log.find? fun r => r.num.toNat == (s.sys.selOf path 0xF000 0).toNat) = some r →
      exec (.errorLogRead path) s =
        .next { s with
          sys := (s.sys.setSel path 0xF000 0 (s.sys.selOf path 0xF000 0 + 1)).answer path (s.sys.sessionOpen path)
            (dictAddr 0xF000 0 3) 1 0 r.bytes }) ∧
  (∀ (s : State),
      let k := 17 + s.sys.cnt.wexp
      let t := s.sys.toExt (s.sys.dueOnce k s.sys.clk.firstWindow s.sys.clk.lastWindow s.sys.clk.ranWindow)
      ∃ u, exec .bandwidthWindowClose s = .next u ∧ u.pending = s.pending ∧ u.stores = s.stores ∧
        u.sys.ports.port =
          s.sys.ports.port.map (fun e =>
            (e.1, { e.2 with
              rxBw := e.2.rxBytes * 1000 / 2 ^ k % 2 ^ 32, txBw := e.2.txBytes * 1000 / 2 ^ k % 2 ^ 32, rxBytes := 0
              txBytes := 0 })) ∧
        u.sys.cnt =
          { s.sys.cnt with
            wend := t.now, wflags := BitVec.ofNat 2 (b2n t.clk.stepInWindow + 2 * b2n (!t.clk.valid))
            wexp := s.sys.nv.wexp } ∧
        u.sys.clk.stepInWindow = false ∧ u.sys.nv = s.sys.nv ∧ u.sys.sw = s.sys.sw)

/-! ## The Collier and the journal -/

/-- COLLIER_FAILOVER, FAILOVER, HEARTBEAT_TIMEOUT, STANDBY_LOSS, STANDBY_READY (18 R524-R526; 21 R609). A standby takes
over: the active pair changes, the count and cause enter the journal, sessions end, and a real failure is reported and
leaves no standby; without one a real failure stops both pairs and a commanded one is refused.

JOURNAL_FLUSH, JOURNAL_COMPACT, JOURNAL_CLEAR (18 R555-R559): a flush appends the buffered records to the active half; one
that fails, or meets a full half, fails the journal, which is reported; a compaction writes what is live as one record (its
form is the model's choice: log 163) with a higher epoch into the other half, erases the old one, keeps the newest 65,536
log records and counts the others as dropped; CLEAR is armed while every port is DISABLED or in MAINTENANCE. -/
def Obligations.CollierAndJournalRun : Prop :=
  (∀ (s : State),
      let turn (c : BitVec 2) (x : Sys) : Sys :=
        let real := c != 3
        let t := x.modBoot fun b =>
          { b with
            cd2Active := !b.cd2Active, standby := if real then 2 else 1
            pair0Failed := b.pair0Failed || (real && !b.cd2Active), pair2Failed := b.pair2Failed || (real && b.cd2Active) }
        let v := ((((t.modNv fun n => { n with failovers := n.failovers + 1, fcause := c }).jrnl).endSession .eth).endSession
          .inband).moveServices
        (if real then v.faultUnit faultCollierFailover 20 [] else v).planOverdue
      s.sys.collierOn = true → s.sys.boot.standby ≠ 2 →
      (∀ (cause : BitVec 2), exec (.collierFailover cause) s = .next { s with sys := turn cause s.sys }) ∧
      exec .heartbeatTimeout s = .next { s with sys := turn 1 s.sys } ∧
      (∀ (path : Path), s.sys.takes path 0x1030 → s.sys.boot.standby = 0 →
        exec (.failover path 1) s = .next { s with sys := turn 3 (replied path 0x1030 0 3 id s.sys) })) ∧
  (∀ (s : State), s.sys.collierOn = true → s.sys.boot.standby = 2 →
      let t := s.sys.modBoot fun b => { b with bothLost := true, standby := 2, pair0Failed := true, pair2Failed := true }
      let u := (t.faultUnit faultCollierFailover 20 []).modHearth fun h => { h with vatLevel := [0, 0, 0, 0] }
      (∀ (cause : BitVec 2), cause ≠ 3 → exec (.collierFailover cause) s = .next { s with sys := u }) ∧
      exec .heartbeatTimeout s = .next { s with sys := u }) ∧
  (∀ (s : State), s.sys.collierOn = true → s.sys.boot.standby ≠ 2 →
      exec .standbyLoss s =
        .next { s with
          sys :=
            (s.sys.modBoot fun b =>
              { b with
                standby := 2, pair0Failed := b.pair0Failed || b.cd2Active
                pair2Failed := b.pair2Failed || !b.cd2Active }).faultUnit faultCollierStandby 20 [] }) ∧
  (∀ (s : State), s.sys.collierOn = true → s.sys.boot.standby = 1 →
      exec .standbyReady s = .next { s with sys := s.sys.modBoot fun b => { b with standby := 0 } }) ∧
  (∀ (s : State), s.sys.collierOn = true → s.sys.jr.failed = false → s.sys.jr.used + s.sys.jr.buffered ≤ 33554432 →
      exec (.journalFlush true) s =
        .next { s with
          sys := s.sys.modJr fun j =>
            { j.setHalf j.onB { j.half j.onB with recs := (j.half j.onB).recs ++ j.buf } with
              buf := [], used := j.used + j.buffered, buffered := 0, lastFlush := s.sys.now } }) ∧
  (∀ (s : State), s.sys.collierOn = true → s.sys.jr.failed = false →
      exec (.journalFlush false) s =
        .next { s with sys := (s.sys.modJr fun j => { j with failed := true }).faultUnit faultJournal 20 [] }) ∧
  (∀ (s : State), 25165824 ≤ s.sys.jr.used → s.sys.jr.failed = false → s.sys.powerWarned = false →
    s.sys.collierOn = true →
      let extra := s.sys.nv.logExcess
      ∃ u, exec (.journalCompact true) s = .next u ∧ u.pending = s.pending ∧ u.stores = s.stores ∧
        u.sys.nv =
          { s.sys.nv with
            log := s.sys.nv.log.drop extra, dropped := s.sys.nv.dropped + BitVec.ofNat 32 extra
            epoch := s.sys.nv.epoch + 1 } ∧
        u.sys.jr.onB = !s.sys.jr.onB ∧
        u.sys.jr.half (!s.sys.jr.onB) =
          { valid := true, epoch := u.sys.nv.epoch
            recs := [{ seq := s.sys.jr.seq, bytes := u.sys.jr.used, content := u.sys.nv }] } ∧
        u.sys.jr.half s.sys.jr.onB = {} ∧ u.sys.jr.buf = [] ∧ u.sys.jr.buffered = 0 ∧ u.sys.jr.used ≤ 33554432 ∧
        u.sys.jr.lastFlush = s.sys.now ∧
        u.sys.boot = s.sys.boot ∧ u.sys.ports = s.sys.ports ∧ u.sys.sw = s.sys.sw) ∧
  (∀ (s : State) (path : Path), s.sys.takes path 0x1041 → s.sys.portsQuiet = true →
      exec (.journalClear path 1) s =
        .next { s with
          sys := replied path 0x1041 0 1 (fun x => (x.modNv fun n => { n with clearArmed := true }).jrnl) s.sys })

/-! ## Firmware, attestation and sessions -/

/-- FW_STAGE, FW_STAGE_COMPLETE, FW_ACTIVATE, FW_COMMIT, FW_REVERT (19 R561-R563, R572-R574): a stage takes its bytes and
first makes the slot that does not run invalid; at its end the image is kept, or the stage fails as R562 and R572 say,
logged with the hash of the key that the image names; activation puts an image other than the running one on trial; a commit
ends the trial and writes the raised floor to both copies under the floor key (without that key they stand as they are, the
model's choice: log 181); a revert names the other image.

ATTEST, SESSION_HELLO, SESSION_CONFIRM, SESSION_END, HANDSHAKE_TIMEOUT, SESSION_TIMEOUT (19 R570, R575, R576): the report
with the nonce goes into the region; a HELLO of a trusted key is answered and one of another is refused; a good signature
over H2 opens the session with its two keys and both SEQ at 0; a session ends by STEP 3, and 60 s after its last valid
message; a handshake ends 5 s after its HELLO. -/
def Obligations.SecurityRuns : Prop :=
  (∀ (s : State) (path : Path) (handle length : Word) (host : Dma) (b : Bulk) (bytes : List Byte),
    s.sys.idleSlot .sec path → (path = .pcie ∨ s.sys.rights path = 3) → s.sys.sec.onTrial = false → s.sys.sec.stage = none →
    s.sys.region path handle length.toNat = .ok b → regionRead s.stores path b length.toNat host = .ok bytes →
      exec (.fwStage path handle length host) s =
        .next { s with
          sys := replied path 0x8040 0 0
            (fun x =>
              ((cmdTaken .sec path 1 [(0, handle), (1, length)] (usesOf path handle) x).setImage (!s.sys.sec.running)
                {}).modSec fun c => { c with stage := some { path, handle, bytes } }) s.sys }) ∧
  (∀ (s : State) (j : StageJob), s.sys.sec.stage = some j →
      let t := s.sys.modSec fun c => { c with stage := none }
      exec .fwStageComplete s =
        .next { s with
          sys :=
            match s.sys.imageRefusal j.bytes with
            | some e =>
              t.failedKey .sec j.path e (if j.bytes.length < 1384 then [] else Config.sha3 (bytesAt j.bytes 72 1312))
            | none =>
              (t.setImage (!s.sys.sec.running) (Image.of j.bytes)).done .sec j.path
                [(0, (Image.of j.bytes).fwver), (1, (Image.of j.bytes).svn)] }) ∧
  (∀ (s : State) (path : Path) (image : Word), s.sys.idleSlot .sec path → (path = .pcie ∨ s.sys.rights path = 3) →
    let b := bit image.toNat 0
    s.sys.sec.stage = none → (s.sys.image b).valid = true →
      exec (.fwActivate path image) s =
        .next { s with
          sys := replied path 0x8040 0 0
            (fun x =>
              ((cmdTaken .sec path 2 [(0, image)] [] x).modSec fun c =>
                { c with
                  next := b, trial := b != c.running, fails := if b != c.running then 0 else c.fails }).done .sec path [])
            s.sys }) ∧
  (∀ (s : State) (path : Path), s.sys.idleSlot .sec path → (path = .pcie ∨ s.sys.rights path = 3) →
    s.sys.sec.onTrial = true →
      let x := s.sys.image s.sys.sec.running
      let f : FloorCopy :=
        { floor := if s.sys.floorNow.toNat < x.svn.toNat then x.svn else s.sys.floorNow
          revoked := s.sys.revokedNow ||| x.revoke, ok := true }
      let keyed := if s.sys.boot.cd2Active then s.sys.sec.key2 else s.sys.sec.key0
      exec (.fwCommit path) s =
        .next { s with
          sys := replied path 0x8040 0 0
            (fun y =>
              let t := (cmdTaken .sec path 3 [] [] y).modSec fun c =>
                { c with
                  trial := false, onTrial := false, floorA := if keyed then f else c.floorA
                  floorB := if keyed then f else c.floorB }
              t.done .sec path [(0, t.floorNow)]) s.sys }) ∧
  (∀ (s : State) (path : Path), s.sys.idleSlot .sec path → (path = .pcie ∨ s.sys.rights path = 3) →
    s.sys.sec.onTrial = true →
      exec (.fwRevert path) s =
        .next { s with
          sys := replied path 0x8040 0 0
            (fun y =>
              ((cmdTaken .sec path 4 [] [] y).modSec fun c =>
                { c with next := !c.running, trial := false, onTrial := false }).done .sec path []) s.sys }) ∧
  (∀ (s : State) (path : Path) (nonce : List Word) (handle : Word) (b : Bulk), s.sys.idleSlot .sec path →
    s.sys.identityOk = true → s.sys.region path handle 2816 = .ok b → b.dKind = 2 →
      let args := ((List.range 8).map fun i => (i, nth nonce i 0)) ++ [(8, handle)]
      let report := s.sys.report ((List.range 8).flatMap fun i => toBe 4 (nth nonce i 0).toNat)
      exec (.attest path nonce handle true) s =
        .next { s with
          stores := { s.stores with bar2 := Memory.writeN s.stores.bar2 b.dAddr.toNat report }
          sys := replied path 0x8040 0 0 (fun x => (cmdTaken .sec path 5 args [] x).done .sec path [(0, 2788)]) s.sys }) ∧
  (∀ (s : State) (path : Path) (gei : Word), s.sys.takes path 0x8020 → path ≠ .pcie →
    (path = .inband → gei = s.sys.nv.owner) → s.sys.sessionOpen path = false →
      exec (.sessionHello path gei) s =
        let b := fit 2528 (getD s.sys.mg.secIn (pathNum path) [])
        let n := s.sys.free.counter
        let c := fit 1088 (Config.kemCipher (bytesAt b 1312 1184) n) ++ fit 32 (Config.nonce (n + 1))
        let die := 2 * b2n s.sys.boot.cd2Active
        let h1 := Config.sha3 (b ++ c ++ s.sys.akRecord die)
        .next { s with
          sys :=
            if s.sys.trusted (Config.sha3 (bytesAt b 0 1312)) = true ∧ s.sys.identityOk = true then
              replied path 0x8020 0 0
                (fun x =>
                  ((x.draw.2.draw.2).setSession path
                    { st := 1, since := s.sys.clk.mono, keyHash := Config.sha3 (bytesAt b 0 1312), pub := bytesAt b 0 1312
                      h1, secret := Config.kemSecret (bytesAt b 1312 1184) n }).modMg fun m =>
                    { m with
                      secOut := put m.secOut (pathNum path)
                        (fit 3840 (c ++ fit 2420 (Config.mldsaSign (s.sys.akSeed die) h1))) }) s.sys
            else s.sys.refuse path secAuth 0x8020 0 0 }) ∧
  (∀ (s : State) (path : Path), s.sys.takes path 0x8020 → path ≠ .pcie → (s.sys.session path).st = 1 →
    s.sys.clk.mono ≤ (s.sys.session path).since + 5000000000 →
      exec (.sessionConfirm path) s =
        let x := s.sys.session path
        let h2 := Config.sha3 (x.h1 ++ [1])
        let keys := fit 64 (Config.kmac x.secret h2 512 (ascii "GZS-SESSION"))
        .next { s with
          sys :=
            if Config.mldsaVerify x.pub h2 (fit 2420 (getD s.sys.mg.secIn (pathNum path) [])) = true then
              (s.sys.setSession path
                { x with
                  st := 2, last := s.sys.clk.mono, rxKey := keys.take 32, txKey := keys.drop 32, rxSeq := 0
                  txSeq := 0 }).answer path (s.sys.sessionOpen path) (dictAddr 0x8020 0 0) 1 0 []
            else s.sys.refuse path secSignature 0x8020 0 0 }) ∧
  (∀ (s : State) (path : Path), s.sys.takes path 0x8020 → path ≠ .pcie → (s.sys.session path).st ≠ 0 →
      exec (.sessionEnd path) s =
        .next { s with sys := (replied path 0x8020 0 0 id s.sys).endSession path }) ∧
  (∀ (s : State) (path : Path), (s.sys.session path).st = 1 →
      exec (.handshakeTimeout path) s =
        .next { s with sys := (s.sys.toMono ((s.sys.session path).since + 5000000000)).endSession path }) ∧
  (∀ (s : State) (path : Path), (s.sys.session path).st = 2 →
      exec (.sessionTimeout path) s =
        .next { s with sys := (s.sys.toMono ((s.sys.session path).last + 60000000000)).endSession path })

/-! ## Kindling, resets and power -/

/-- FULL_RESET, KINDLING_PHASE_COMPLETE, RESET, ORDERLY_SHUTDOWN, COLLIER_WATCHDOG_EXPIRE, TRIAL_TIMEOUT, RESET_N_ASSERT (17
R497, R510; 19 R563, R564, R573; 21 R605, R606, R618, R620; 22 R624, R635): a full reset flushes the journal, but for
power-on, starts Kindling and counts a boot, which is in flash at once; power-on waits until the input is at least 41 V,
MATE_N has been low for 100 ms and the coolant flows; each phase that ends starts the next, and one that is stuck squelches
the ports; a reset ends a thermal shutdown when the module is cool; a shutdown fails what is BUSY and holds the module.

DIERESET, DIE_WATCHDOG_EXPIRE, DIE_RESET_EXIT, DIE_RESET_TIMEOUT (21 R611-R613): a port die whose ports are quiet resets by
command; by itself it reports a fault of each of its UP ports; its links go down, what it held is dropped and its counters
read 0; leaving reset, its counters read 0, its links train again in full or are down, and the time unit sends it the time;
after 10 ms it is lost. -/
def Obligations.ResetsAndDieResetsRun : Prop :=
  (∀ (s : State) (cause : BitVec 4) (millivolts : Nat), cause.toNat ≤ 7 → cause ≠ 0 → s.sys.boot.mode ≠ .off →
    (s.sys.boot.mode ≠ .thermal ∨ s.sys.cool = true) →
      let t := (s.sys.modBoot fun b => { b with resetN := false }).flush true
      exec (.fullReset cause millivolts) s =
        .next { s with
          sys := (((t.startKindling cause).modNv fun n => { n with boots := n.boots + 1 }).jrnl).flush true }) ∧
  (∀ (s : State) (millivolts : Nat),
      let r := ((s.sys.modBoot fun b => { b with resetN := false }).dark .held).modBoot fun b =>
        { b with waiting := true, lowInput := decide (millivolts < 41000) }
      let t := r.toMono (match r.boot.mateFell with | some t => t + 100000000 | none => 0)
      exec (.fullReset 0 millivolts) s =
        .next { s with
          sys :=
            if 41000 ≤ millivolts ∧ r.boot.mateHigh = false ∧ r.coolantFlows = true then
              (((t.startKindling 0).modNv fun n => { n with boots := n.boots + 1 }).jrnl).flush true
            else r }) ∧
  (∀ (s : State) (r : KindlingResult), s.sys.boot.mode = .kindling → s.sys.boot.bothLost = false →
    (s.sys.boot.phase = 1 → exec (.kindlingPhaseComplete r) s = .next { s with sys := (s.sys.romPhase r).squelchStuck }) ∧
    (s.sys.boot.phase = 2 → exec (.kindlingPhaseComplete r) s = .next { s with sys := (s.sys.journalPhase r).squelchStuck }) ∧
    (s.sys.boot.phase = 3 → exec (.kindlingPhaseComplete r) s = .next { s with sys := (s.sys.feltPhase r).squelchStuck }) ∧
    (s.sys.boot.phase = 4 → exec (.kindlingPhaseComplete r) s = .next { s with sys := (s.sys.memoryPhase r).squelchStuck }) ∧
    (s.sys.boot.phase = 5 →
      ∃ t, exec (.kindlingPhaseComplete r) s = .next t ∧ t.pending = s.pending ∧ t.stores = s.stores ∧
        t.sys.boot.mode = .ready ∧ t.sys.boot.phase = 6 ∧ t.sys.boot.warm = true ∧
        t.sys.boot.tready = BitVec.ofNat 32 s.sys.clk.mono ∧ t.sys.hearth.lastGrant = s.sys.clk.mono)) ∧
  (∀ (s : State) (path : Path), s.sys.takes path 0x1050 → (s.sys.boot.mode ≠ .thermal ∨ s.sys.cool = true) →
      exec (.reset path 1) s =
        .next { s with
          sys := (replied path 0x1050 0 3 id s.sys).fullReset
            (match (replied path 0x1050 0 3 id s.sys).boot.mode with | .thermal => 3 | .shutdown => 4 | _ => 2) }) ∧
  (∀ (s : State) (path : Path), s.sys.takes path 0x1050 → s.sys.boot.mode ≠ .thermal →
      let t := replied path 0x1050 0 3 id s.sys
      exec (.orderlyShutdown path) s =
        .next { s with
          sys := (((t.failBusy mgtState).flush true).dark .shutdown).modBoot fun b => { b with phase := 7 } }) ∧
  (∀ (s : State), s.sys.boot.bothLost = true → s.sys.nv.autoReset = true →
      exec .collierWatchdogExpire s =
        .next { s with
          sys := if s.sys.sec.onTrial then s.sys.failTrial 5 else s.sys.fullReset 5 }) ∧
  (∀ (s : State), s.sys.sec.onTrial = true → s.sys.boot.mode = .kindling →
      let t := (s.sys.toMono 300000000000).modSec fun c => { c with fails := s.sys.sec.fails + 1 }
      exec .trialTimeout s =
        .next { s with
          sys :=
            if s.sys.sec.fails + 1 < 2 then t.fullReset s.sys.boot.cause
            else
              ((t.modSec fun c => { c with next := !c.running, trial := false }).fullReset 6).faultUnit
                faultSecFallback 20 [] }) ∧
  (∀ (s : State), s.sys.boot.mode ≠ .off → (s.sys.boot.mode ≠ .thermal ∨ s.sys.cool = true) →
      exec .resetNAssert s =
        .next { s with
          sys := ((s.sys.modBoot fun b => { b with resetN := true, stopped := false }).flush true).dark .held }) ∧
  (∀ (s : State) (path : Path) (value : Word), s.sys.takes path 0x1050 → value.toNat ≤ 15 → s.sys.diesOn = true →
    s.sys.dieQuiet value.toNat = true → s.sys.boot.dieResets = [] → s.sys.dieUp value.toNat = true →
      let d := value.toNat
      exec (.diereset path value) s =
        .next { s with
          sys := replied path 0x1050 0 4
            (fun x =>
              let u := (((x.modBoot fun b =>
                { b with dieResets := put b.dieResets d s.sys.clk.mono }).dropLinks d).dropDie d).clearDie d
              if u.noPortDie then u.fullReset 7 else (u.loseIsolated 20).settle) s.sys }) ∧
  (∀ (s : State) (die : Die), s.sys.diesOn = true → s.sys.dieUp die.toNat = true →
      let d := die.toNat
      let up := (s.sys.diePorts d).filter fun p => (s.sys.port p).st == .up
      let t := up.foldl (fun t p => t.healthEvent p)
        (s.sys.modBoot fun b => { b with dieResets := put b.dieResets d s.sys.clk.mono })
      let v := up.foldl
        (fun v p =>
          v.linkReport p Config.dieResetCause.toNat faultLinkDown true (widthMask (s.sys.pcfg p).width) (s.sys.port p).active)
        ((t.dropLinks d).dropDie d)
      let w := v.clearDie d
      exec (.dieWatchdogExpire die) s =
        .next { s with sys := if w.noPortDie then w.fullReset 7 else (w.loseIsolated 20).settle }) ∧
  (∀ (s : State) (die : Die) (felt : List (Nat × List (Nat × List Nat) × List (Nat × List Nat))),
    (get? s.sys.boot.dieResets die.toNat).isSome = true →
      let d := die.toNat
      let t := (s.sys.modBoot fun b => { b with dieResets := del b.dieResets d }).zeroDie d
      let ok (u : Nat) : Bool := !t.boot.lostDies.contains u && (get? t.boot.dieResets u).isNone
      let links := (dieLinks d).filter fun l => ok (linkEnds l).1 && ok (linkEnds l).2
      let u := links.foldl
        (fun v l =>
          match felt.find? fun x => x.1 == l with
          | some x => v.trainLink l x.2.1 x.2.2
          | none => v.linkDown l true) t
      exec (.dieResetExit die felt) s =
        .next { s with
          sys :=
            ((u.loseIsolated 20).sendControl 16 d (toBe 8 u.clk.ext.toNat ++ toBe 4 (twos 32 u.clk.rate))).settle }) ∧
  (∀ (s : State) (die : Die) (t : Nat), get? s.sys.boot.dieResets die.toNat = some t →
      exec (.dieResetTimeout die) s =
        .next { s with
          sys := (((s.sys.toMono (t + 10000000)).loseDie die.toNat).loseIsolated 20).settle })

/-- PWR_FAIL_EARLY_ASSERT, PWR_FAIL_EARLY_RELEASE, MATE_N_CHANGE, INPUT_LOSS, INPUT_DIP, THERMAL_TRIP, PERST_N_ASSERT,
PERST_N_RELEASE (17 R494-R497, R510; 21 R619; 22 R627, R636): the first of the two signals that warn of a loss of power is
reported, fails a stage in progress and flushes the journal, and stops Kindling; the release of the last one lets a stopped
Kindling start again once the input is at least 41 V; the input's loss darkens the module; a dip is noted; a die's trip
sends its notice and shuts the module down and a stack's loses the stack; PERST_N empties the mailbox and resets the MSI-X
table. -/
def Obligations.PowerSignalsRun : Prop :=
  (∀ (s : State), s.sys.powerWarned = false → s.sys.collierOn = true →
      let warned (f : Boot → Boot) : Sys :=
        let t := ((s.sys.modBoot f).msix 3).faultUnit faultPwrEarly 20 []
        let u :=
          match t.sec.stage with
          | some j => (t.modSec fun c => { c with stage := none }).failed .sec j.path pwrFailing
          | none => t
        let v := u.flush true
        if v.boot.mode = .kindling then v.stopKindling else v.modBoot fun b => { b with failing := true }
      exec .pwrFailEarlyAssert s = .next { s with sys := warned (fun b => { b with pfe := true }) } ∧
      exec (.mateNChange true) s =
        .next { s with sys := (warned fun b => { b with mateHigh := true, mateFell := none }).tryPowerOn }) ∧
  (∀ (s : State), s.sys.powerWarned = false → s.sys.collierOn = false → s.sys.boot.mode = .kindling →
      exec .pwrFailEarlyAssert s =
        .next { s with sys := (s.sys.modBoot fun b => { b with pfe := true }).stopKindling } ∧
      exec (.mateNChange true) s =
        .next { s with
          sys := ((s.sys.modBoot fun b => { b with mateHigh := true, mateFell := none }).stopKindling).tryPowerOn }) ∧
  (∀ (s : State), s.sys.boot.pfe = true → s.sys.boot.mateHigh = false →
      let t := s.sys.modBoot fun b => { b with pfe := false, failing := false }
      exec .pwrFailEarlyRelease s =
        .next { s with
          sys := if s.sys.boot.stopped = true ∧ s.sys.boot.lowInput = false then t.startKindling t.boot.cause else t }) ∧
  (∀ (s : State) (millivolts : Nat), s.sys.boot.mode ≠ .off → 41000 ≤ millivolts → millivolts ≤ 72000 →
    s.sys.boot.stopped = true → s.sys.powerWarned = false →
      exec (.inputDip millivolts) s =
        .next { s with sys := (s.sys.modBoot fun b => { b with lowInput := false }).startKindling s.sys.boot.cause }) ∧
  (∀ (s : State),
      exec .inputLoss s =
        .next { s with sys := (s.sys.dark .off).modBoot fun b => { b with waiting := false, lowInput := true } }) ∧
  (∀ (s : State) (millivolts : Nat), s.sys.boot.mode ≠ .off → millivolts < 40000 →
      exec (.inputDip millivolts) s =
        .next { s with sys := s.sys.modBoot fun b => { b with dip := true, lowInput := true } }) ∧
  (∀ (s : State) (millivolts : Nat), s.sys.boot.mode ≠ .off → 72000 < millivolts →
      exec (.inputDip millivolts) s = exec .inputLoss s) ∧
  (∀ (s : State) (die : Nat), die < 20 → (s.sys.boot.mode = .ready ∨ s.sys.boot.mode = .kindling) →
      exec (.thermalTrip (.die die)) s =
        .next { s with sys := ((s.sys.faultUnit faultThermTrip 20 []).sendNotices.flush true).dark .thermal }) ∧
  (∀ (s : State) (stack : Nat), stack < 20 → s.sys.boot.mode = .ready →
      exec (.thermalTrip (.stack stack)) s = .next { s with sys := s.sys.loseStack stack 5 true }) ∧
  (∀ (s : State),
      exec .perstNAssert s =
        .next { s with
          sys := (s.sys.modBoot fun b => { b with perst := true }).modMg fun m =>
            { m with
              reqIndex := 0, reqBlock := 0, reqSub := 0, reqOp := 0, reqCount := 1, mbState := 0, mbDone := 0, mbAbort := 0
              mbData := [], pba := 0, msixTab := [], msixOn := false, goIgnored := 0 } } ∧
      exec .perstNRelease s = .next { s with sys := s.sys.modBoot fun b => { b with perst := false } })

/-! ## The dictionary -/

/-- MAILBOX_READ, MAILBOX_WRITE, REGISTER_WRITE, READ, WRITE (18 R533, R535, R537-R539): a run that fits its space is
carried out sub-index by sub-index up to the first that fails, and then answered; a reserved REQOP is refused with
GZ_MGT_RESERVED, and a GO while the mailbox is busy is ignored and counted; a well-formed message outside a session makes
the request that it spells. What the control host has put into BAR2 and the MSI-X table before comes with a command (the
model's choice: log 178).

DEFINE, STAGING_DATA_ACCESS (18 R545, R546): a DEFINE of a region that no case of R546 refuses raises GEN and names the
region by a new handle; with KIND 0 it frees the slot; a word written to DATA0 of a message path goes into its staging at
OFFSET, which moves past it, every other byte of every staging and of BAR2 stands, and a word read comes from there. -/
def Obligations.RunsAndStagingRun : Prop :=
  (∀ (s : State) (index : BitVec 16) (block sub count : BitVec 8), s.sys.pcieUp = true → s.sys.mg.mbState ≠ 1 →
    s.sys.boot.bothLost = false →
    let m := s.sys.mailbox index block sub 1 count
    let q : Req :=
      { path := .pcie, write := false, index := index.toNat, block := block.toNat, sub := sub.toNat
        count := count.toNat, data := fit 768 s.sys.mg.mbData }
    m.shows .pcie index.toNat → 1 ≤ count.toNat → count.toNat ≤ 192 →
    (runBytes index.toNat block.toNat sub.toNat count.toNat).1 ≤ 768 →
      let r := q.finish (readRun .pcie q.index q.block q.sub q.count { mach := (s.stores, m) })
      exec (.mailboxRead 1 index block { sub, count }) s = .next { s with stores := r.1, sys := r.2 }) ∧
  (∀ (s : State) (op : BitVec 8) (index : BitVec 16) (block sub count : BitVec 8), s.sys.pcieUp = true →
    s.sys.mg.mbState ≠ 1 → s.sys.boot.bothLost = false → op ≠ 1 → op ≠ 2 →
    let m := s.sys.mailbox index block sub op count
    let a := dictAddr index.toNat block.toNat sub.toNat
    m.shows .pcie index.toNat →
      exec (.mailboxRead op index block { sub, count }) s =
        .next { s with
          sys :=
            ((m.reqError .pcie mgtReserved 1 a op.toNat).respond .pcie false 0 a 0 mgtReserved []).event 20 0x43 0 1 }) ∧
  (∀ (s : State) (op : BitVec 8) (index : BitVec 16) (block sub count : BitVec 8) (data : List Byte) (world : World),
    s.sys.pcieUp = true → s.sys.mg.mbState = 1 →
      let t := s.sys.modMg fun x => { x with goIgnored := x.goIgnored + 1 }
      exec (.mailboxRead op index block { sub, count }) s = .next { s with sys := t } ∧
      exec (.mailboxWrite index block sub count data world) s = .next { s with sys := t }) ∧
  (∀ (s : State) (index : BitVec 16) (block sub count : BitVec 8) (data : List Byte) (world : World),
    s.sys.pcieUp = true → s.sys.mg.mbState ≠ 1 → s.sys.boot.bothLost = false →
    let m := (s.sys.mailbox index block sub 2 count).modMg fun x =>
      { x with mbData := fit 768 (data ++ x.mbData.drop data.length) }
    let e := World.enter world (s.stores, m)
    let q : Req :=
      { path := .pcie, write := true, index := index.toNat, block := block.toNat, sub := sub.toNat, count := count.toNat
        data := m.mg.mbData, world }
    e.2.takes .pcie index.toNat → 1 ≤ count.toNat → count.toNat ≤ 192 →
    (runBytes index.toNat block.toNat sub.toNat count.toNat).1 ≤ 768 →
      let r := q.finish (writeRun .pcie q.index q.block world q.sub q.count q.data { mach := e })
      exec (.mailboxWrite index block sub count data world) s = .next { s with stores := r.1, sys := r.2 }) ∧
  (∀ (s : State) (path : Path) (index : BitVec 16) (block sub : BitVec 8) (value : List Byte) (world : World) (x : Span),
    (path = .pcie → s.sys.pcieUp = true ∧ s.sys.mg.mbState ≠ 1 ∧ s.sys.boot.bothLost = false) →
    let e := World.enter world (s.stores, s.sys)
    e.2.takes path index.toNat → place index.toNat block.toNat sub.toNat = .ok x → x.packed ≤ 768 →
    (path ≠ .pcie → value.length = x.packed) →
      let q : Req :=
        { path, write := true, index := index.toNat, block := block.toNat, sub := sub.toNat, count := 1, data := value
          world, prot := s.sys.sessionOpen path }
      let r := q.finish (writeRun path q.index q.block world q.sub 1 value { mach := e })
      exec (.registerWrite path index block sub value world) s = .next { s with stores := r.1, sys := r.2 }) ∧
  (∀ (s : State) (b : List Byte) (d : DictMsg), d = DictMsg.of false b → d.mtype = 1 → d.ok = true →
    d.trailer = none → s.sys.sessionOpen .eth = false → s.sys.shows .eth (fld d.addr 31 16) →
      let q := d.req .eth { dma := .failed, cmis := none } false
      let r := q.run (s.stores, s.sys)
      exec (.read (.eth b)) s = .next { s with stores := r.1, sys := r.2 }) ∧
  (∀ (s : State) (b : List Byte) (d : DictMsg) (world : World), d = DictMsg.of false b → d.mtype = 2 → d.ok = true →
    let e := World.enter world (s.stores, s.sys)
    d.trailer = none → e.2.sessionOpen .eth = false → e.2.takes .eth (fld d.addr 31 16) →
      let q := d.req .eth world false
      let r := q.run e
      exec (.write (.eth b) world) s = .next { s with stores := r.1, sys := r.2 }) ∧
  (∀ (s : State) (path : Path), s.sys.takes path 0x1020 →
    let slot := fld (s.sys.selOf path 0x1020 0) 3 0
    let b := s.sys.bulkOf path
    s.sys.bulkUsed (bulkKey path slot) = false → b.kind = 0 →
      exec (.define path 1) s =
        .next { s with
          sys := replied path 0x1020 0 4
            (fun x => x.modBulk path fun y =>
              { y with gen := y.gen + 1, handle := 0, dKind := 0, dAddr := 0, dLen := 0 }) s.sys }) ∧
  (∀ (s : State) (path : Path), s.sys.takes path 0x1020 →
    let slot := fld (s.sys.selOf path 0x1020 0) 3 0
    let b := s.sys.bulkOf path
    s.sys.bulkUsed (bulkKey path slot) = false → b.kind ≠ 0 → (b.kind = 3 ↔ path ≠ .pcie) →
    b.addr.toNat % 64 = 0 → b.len.toNat % 64 = 0 → 64 ≤ b.len.toNat → b.len.toNat ≤ 268435456 →
    (b.kind = 1 ∨ b.addr.toNat + b.len.toNat ≤ 16777216) →
      exec (.define path 1) s =
        .next { s with
          sys := replied path 0x1020 0 4
            (fun x => x.modBulk path fun y =>
              { y with
                gen := y.gen + 1
                handle := BitVec.ofNat 32 (pathNum path * 2 ^ 28 + (y.gen + 1).toNat * 2 ^ 20 + slot)
                dKind := y.kind, dAddr := y.addr, dLen := y.len.toNat, era := x.mg.era }) s.sys }) ∧
  (∀ (s : State) (path : Path) (w : Word), path ≠ .pcie → s.sys.takes path 0x1020 →
    let o := (getD s.sys.mg.offset (pathNum path) 0).toNat
    o + 4 ≤ 16777216 →
      ∃ t, exec (.stagingDataAccess path 0x40 1 (some [w])) s = .next t ∧ t.pending = s.pending ∧
        t.stores = s.stores.modStaging s.sys.mg.era path (fun m => Memory.writeN m o (toBe 4 w.toNat)) ∧
        t.stores.bar2 = s.stores.bar2 ∧
        Memory.readN (t.stores.stagingOf s.sys.mg.era path) o 4 = toBe 4 w.toNat ∧
        (∀ (q : Path) (a : Nat), q ≠ path ∨ a < o ∨ o + 4 ≤ a →
          Memory.read (t.stores.stagingOf s.sys.mg.era q) a = Memory.read (s.stores.stagingOf s.sys.mg.era q) a)) ∧
  (∀ (s : State) (path : Path), path ≠ .pcie → s.sys.shows path 0x1020 →
    let o := (getD s.sys.mg.offset (pathNum path) 0).toNat
    o + 4 ≤ 16777216 →
      exec (.stagingDataAccess path 0x40 1 none) s =
        .next { s with
          sys :=
            (s.sys.modMg fun m =>
              { m with offset := modify m.offset (pathNum path) 0 fun x => x + 4 }).answer path (s.sys.sessionOpen path)
              (dictAddr 0x1020 0 0x40) 1 0 (Memory.readN (s.stores.stagingOf s.sys.mg.era path) o 4) })

/-! ## The machine -/

/-- A step with a command at the front of the queue is that command on the rest of the queue (the model's own form). -/
def Obligations.StepRunsTheFrontCommand : Prop :=
  ∀ (c : Instr) (s : State), step { s with pending := c :: s.pending } = exec c s

/-- On an empty queue the module idles: only its clock moves, by 1 ns (the model's choice, log 1). -/
def Obligations.AnEmptyQueueIdles : Prop :=
  ∀ (s : State), s.pending = [] →
    ∃ t, step s = .next t ∧ t.pending = [] ∧ t.stores = s.stores ∧ t.sys = { s.sys with clk := t.sys.clk } ∧
      t.sys.clk = { s.sys.clk with ext := s.sys.clk.ext + 1, mono := s.sys.clk.mono + 1 }

/-- The state after reset meets the invariant: its byte memories are in canonical form (18 R536, R545). -/
def Obligations.ResetMeetsTheInvariant : Prop :=
 State.reset.Inv

/-- Every step keeps the invariant, from every state that meets it: the byte memories stay in canonical form. -/
def Obligations.EveryStepKeepsTheInvariant : Prop :=
  ∀ (s t : State), s.Inv → step s = .next t → t.Inv

/-- Every well-formed command answers a next state and leaves the queue as it was, and no command does anything but answer
such a state or stop at a unit, link, stack or sensor that the module does not have. -/
def Obligations.CommandsAnswerAndKeepTheQueue : Prop :=
  (∀ (i : Instr) (s : State), i.wf = true → ∃ t, exec i s = .next t ∧ t.pending = s.pending) ∧
  (∀ (i : Instr) (s : State), (∃ t, exec i s = .next t ∧ t.pending = s.pending) ∨ exec i s = .fault .noUnit)

/-- A packet whose fields agree with its lengths is read back, field by field, from the bytes that it is sent as (02 R36,
R38, R55, R57). -/
def Obligations.PacketsRoundTrip : Prop :=
  ∀ (p : Pkt),
    (match p.ext with
      | .none => p.hlen = 4
      | .sr _ => p.hlen = 6
      | .coll _ => p.hlen = 7
      | .raw _ => False) →
    p.payload.length = p.plen.toNat → p.pad.length = (4 - p.plen.toNat % 4) % 4 → (p.plen = 0 → p.pcrc = 0) →
      Pkt.parse p.bytes = p

/-- What reset leaves, as the spec's tables give it: Kindling in PHASE 0x1 (21 Table 21-2), no command and no byte stored,
every port DISABLED with the default width (13 Tables 13-2, 13-9), version 0 ACTIVE, version 1 FREE (03, the start-up
paragraph) and source epoch 0 (R84), seeds 0 (04 R112), the fault notice list empty with LOCAL 1 (13 R416), and the
journal's defaults of the drain bound, the spill, memory and time settings, the budget, OWNER, NODEID and AUTORESET (03 R81;
05 R168, R178; 14 R450; 16 R491; 17 R519; 18 R540, R541). -/
def Obligations.ResetValues : Prop :=
  let x := State.reset.sys
  State.reset.pending = [] ∧ State.reset.stores = {} ∧ x.boot.mode = .kindling ∧ x.boot.phase = 1 ∧
  (∀ p, (x.port p).st = .disabled ∧ (x.pcfg p).width = (if p % 8 = 0 then 8 else 0) ∧ (x.pcfg p).enable = true ∧
    (x.pcfg p).degrade = true ∧ x.dir p = 2 ∧ x.hw p = 0) ∧
  x.verState false = 1 ∧ x.verState true = 0 ∧
  (∀ v, (x.tab.seqVer v).seed = 0 ∧ (x.tab.seqVer v).em = [] ∧ (x.tab.seqVer v).lpm = []) ∧
  x.fwd.epoch = false ∧ x.nv.fnl = [0, 0, 0, 0, 0, 0, 0, 0] ∧ x.nv.fnlLocal = 1 ∧ x.nv.drainBound = 2000 ∧
  x.nv.flowIdle = 50000 ∧ x.nv.spill = { high := 75, low := 50, qmin := 4, enable := true } ∧
  x.nv.mem = { scrubHrs := 24, spareThr := 3, rotate := true, rotHrs := 24, startTest := false } ∧
  x.nv.time.stepThr = 1000 ∧ x.nv.time.holdLim = 10 ∧ x.nv.budget = 4200 ∧ x.nv.budgetSrc = 2 ∧ x.nv.owner = 0 ∧
  x.nv.nodeId = 1 ∧ x.nv.autoReset = false ∧ x.clk.valid = false ∧ x.flows.ctx = [] ∧ x.graphs.graph = [] ∧
  x.bc.objs = [] ∧ x.ocs.plans = []

/-- The frame of a request: its answer on the PCIe, Ethernet or facility path moves nothing but the path's own registers and
sessions, the Collier's counters and what leaves the module; and a request of a port, a table entry, a context, a graph or a
budget that the path's gate refuses moves nothing else than that and the error log, nor any byte of memory (18 R534, R535,
R550). -/
def Obligations.RequestsLeaveTheRest : Prop :=
  (∀ (path : Path) (index block sub : Nat) (f : Sys → Sys) (s : Sys), path ≠ .inband →
    let t := replied path index block sub f s
    let u := f s
    t.free = u.free ∧ t.clk = u.clk ∧ t.boot = u.boot ∧ t.nv = u.nv ∧ t.jr = u.jr ∧ t.tab = u.tab ∧ t.fwd = u.fwd ∧
    t.ports = u.ports ∧ t.sw = u.sw ∧ t.flows = u.flows ∧ t.coll = u.coll ∧ t.graphs = u.graphs ∧ t.bc = u.bc ∧
    t.vault = u.vault ∧ t.ocs = u.ocs ∧ t.mem = u.mem ∧ t.felt = u.felt ∧ t.hearth = u.hearth ∧ t.sec = u.sec) ∧
  (∀ (s : State) (path : Path) (c : Word) (a b : Word) (ver : Bool) (jtag : BitVec 16) (i : Instr) (index : Nat),
    (i, index) ∈
      [(Instr.portDrain path a, 0x2004), (.portForget path a, 0x2004), (.fenceListWrite path 0 a, 0x3040),
        (.hashSeedWrite path ver a, 0x3010), (.emDelete path ver a, 0x3020), (.jobDeactivate path jtag, 0x4010),
        (.graphCancel path a b, 0x4020), (.bcClose path jtag a, 0x5020), (.quireFree path a, 0x5040),
        (.planCancel path a, 0x2042), (.feltRetrain path a, 0x2051), (.settimeLo path a, 0x7001), (.fwCommit path, 0x8040),
        (.counterClear path, 0x9000), (.journalClear path a, 0x1041), (.diereset path a, 0x1050), (.define path a, 0x1020)] →
    path ≠ .inband → s.sys.gate path index true = .refused c →
      ∃ t, exec i s = .next t ∧ t.pending = s.pending ∧ t.stores = s.stores ∧ t.sys.free = s.sys.free ∧
        t.sys.clk = s.sys.clk ∧ t.sys.boot = s.sys.boot ∧ t.sys.tab = s.sys.tab ∧ t.sys.fwd = s.sys.fwd ∧
        t.sys.ports = s.sys.ports ∧ t.sys.sw = s.sys.sw ∧ t.sys.flows = s.sys.flows ∧ t.sys.coll = s.sys.coll ∧
        t.sys.graphs = s.sys.graphs ∧ t.sys.bc = s.sys.bc ∧ t.sys.vault = s.sys.vault ∧ t.sys.ocs = s.sys.ocs ∧
        t.sys.mem = s.sys.mem ∧ t.sys.felt = s.sys.felt ∧ t.sys.hearth = s.sys.hearth ∧ t.sys.sec = s.sys.sec ∧
        t.sys.mg.slots = s.sys.mg.slots) ∧
  (∀ (s : State) (path : Path) (a b : Word) (ver : Bool) (jtag : BitVec 16) (i : Instr),
    i ∈
      [Instr.portDrain path a, .portForget path a, .fenceListWrite path 0 a, .hashSeedWrite path ver a,
        .emDelete path ver a, .jobDeactivate path jtag, .graphCancel path a b, .bcClose path jtag a, .quireFree path a,
        .planCancel path a, .feltRetrain path a, .settimeLo path a, .fwCommit path, .counterClear path,
        .journalClear path a, .diereset path a, .define path a] →
    s.sys.boot.bothLost = true → exec i s = .next s)

/-- The frame of the byte memories (18 R536, R545, R547): no command changes a byte of BAR2 or of a staging of the present
era but a write of the mailbox, of a message or of a sub-index, a write of staging words, DEMAND_READ and ATTEST; the last
two change only the bytes that they store, 32,768 and 2,788 from the address of the region that their handle names. -/
def Obligations.MemoryChangesOnlyWhereCommandsStore : Prop :=
  (∀ (i : Instr) (s t : State), exec i s = .next t →
    match i with
    | .mailboxWrite _ _ _ _ _ _ | .write _ _ | .registerWrite _ _ _ _ _ _ | .demandRead _ _ _ | .attest _ _ _ _ => True
    | .stagingDataAccess _ _ _ w => w = none → t.stores = s.stores
    | .mailboxRead op _ _ _ => op ≠ 2 → t.stores = s.stores
    | _ => t.stores = s.stores) ∧
  (∀ (s t : State) (path : Path) (nonce : List Word) (handle : Word) (ok : Bool) (i : Instr) (need len a : Nat),
    (i, need, len) ∈ [(Instr.demandRead path handle ok, 32768, 32768), (.attest path nonce handle ok, 2816, 2788)] →
    exec i s = .next t →
      let hit (kind : Nat) : Prop :=
        ∃ b, s.sys.region path handle need = .ok b ∧ b.dKind.toNat = kind ∧ b.dAddr.toNat ≤ a ∧ a < b.dAddr.toNat + len
      (¬ hit 2 → Memory.read t.stores.bar2 a = Memory.read s.stores.bar2 a) ∧
      (∀ q, q ≠ path ∨ ¬ hit 3 →
        Memory.read (t.stores.stagingOf s.sys.mg.era q) a = Memory.read (s.stores.stagingOf s.sys.mg.era q) a))

/-- A run that does not fit the space for its values (18 R539): on the PCIe path 768 bytes, on a message path 3,072. It is
refused with GZ_MGT_RANGE before any sub-index is read or written, COUNT and DONECNT are 0, and no memory changes. -/
def Obligations.RunsThatDoNotFitAreRefused : Prop :=
  (∀ (q : Req) (m : Stores × Sys), m.2.gate q.path q.index q.write = .opened →
    (if q.path = .pcie then 768 else 3072) < (runBytes q.index q.block q.sub q.count).1 →
      q.run m =
        (m.1,
          ((if q.prot then (m.2.reqError q.path mgtRange 1 q.addr q.op).heard q.path
            else m.2.reqError q.path mgtRange 1 q.addr q.op).respond q.path q.prot q.tag q.addr 0 mgtRange []).event 20 0x43 0
            1)) ∧
  (∀ (s : State) (index : BitVec 16) (block sub count : BitVec 8), s.sys.pcieUp = true → s.sys.mg.mbState ≠ 1 →
    s.sys.boot.bothLost = false → (s.sys.mailbox index block sub 1 count).gate .pcie index.toNat false = .opened →
    768 < (runBytes index.toNat block.toNat sub.toNat count.toNat).1 →
      ∃ t, exec (.mailboxRead 1 index block { sub, count }) s = .next t ∧ t.pending = s.pending ∧ t.stores = s.stores ∧
        t.sys.mg.mbDone = 0 ∧ t.sys.mg.mbAbort = mgtRange ∧ t.sys.mg.mbState = 3 ∧ t.sys.ports = s.sys.ports ∧
        t.sys.tab = s.sys.tab ∧ t.sys.mg.slots = s.sys.mg.slots ∧ t.sys.mg.sel = s.sys.mg.sel) ∧
  (∀ (s : State) (index : BitVec 16) (block sub count : BitVec 8) (data : List Byte) (world : World),
    s.sys.pcieUp = true → s.sys.mg.mbState ≠ 1 → s.sys.boot.bothLost = false → world.bar2 = [] → world.msix = [] →
    world.msixOn = none → (s.sys.mailbox index block sub 2 count).gate .pcie index.toNat true = .opened →
    768 < (runBytes index.toNat block.toNat sub.toNat count.toNat).1 →
      ∃ t, exec (.mailboxWrite index block sub count data world) s = .next t ∧ t.pending = s.pending ∧
        t.stores = s.stores ∧ t.sys.mg.mbDone = 0 ∧ t.sys.mg.mbAbort = mgtRange ∧ t.sys.mg.mbState = 3 ∧
        t.sys.ports = s.sys.ports ∧ t.sys.tab = s.sys.tab ∧ t.sys.mg.slots = s.sys.mg.slots ∧
        t.sys.mg.sel = s.sys.mg.sel)

/-- The hash seed of a version (04 R112, R144): both are 0 after reset and read back as they stand; a write to the target of
a copy that is BUSY is refused with GZ_TBL_BUSY, one of a FREE version with no exact-match entry and no prefix is accepted,
and any other is refused with GZ_TBL_STATE. -/
def Obligations.HashSeedIsWrittenWhileEmpty : Prop :=
  (∀ ver, (State.reset.sys.tab.ver ver).seed = 0) ∧
  (∀ (path : Path) (s : Sys) (st : Stores) (ver : Bool),
      readSub path 0x3010 0 (b2n ver) (st, s) = .ok (toBe 4 (s.tab.ver ver).seed.toNat, s)) ∧
  (∀ (s : State) (path : Path) (ver : Bool) (value : Word), s.sys.takes path 0x3010 →
      exec (.hashSeedWrite path ver value) s =
        .next { s with
          sys :=
            if s.sys.copying ver = true then s.sys.refuse path tblBusy 0x3010 0 (b2n ver)
            else if s.sys.verState ver = 0 ∧ (s.sys.tab.seqVer ver).em = [] ∧ (s.sys.tab.seqVer ver).lpm = [] then
              replied path 0x3010 0 (b2n ver) (fun x => x.modTab fun t => t.modVer ver fun v => { v with seed := value })
                s.sys
            else s.sys.refuse path tblState 0x3010 0 (b2n ver) })

/-- The refill of a shaper (11 R360): it gains F × 25 × a bytes, where a is the number of active lanes at that refill, up to
a depth that is the greater of BURST and the gain plus 4,160 bytes; a full bucket holds the depth, so tokens never exceed
it. -/
def Obligations.ShapersGainUpToTheirDepth : Prop :=
  ∀ (s : Sys) (port c : Nat), c < 7 →
    let g := nth (s.schedOf port).rate c 0 * 25 * popcount8 (s.port port).active
    let depth := max (nth (s.schedOf port).burst c 0) (g + 4160)
    nth ((s.refillPort port).eg port).tokens c 0 = min (nth (s.eg port).tokens c 0 + g) depth ∧
    nth ((s.fillTokens port).eg port).tokens c 0 = depth ∧
    nth ((s.refillPort port).eg port).tokens c 0 ≤ depth ∧
    (s.refillPort port).port port = s.port port ∧ (s.refillPort port).schedOf port = s.schedOf port

/-- CTRL 0x5 (20 R591): it is accepted over PCIe and over a session with rights 0b11; on any other path it is refused with
GZ_SEC_RIGHTS; the clear, when it takes effect, is logged. -/
def Obligations.SaturatingClearNeedsRights : Prop :=
  (∀ (s : State) (path : Path), s.sys.takes path 0x9000 →
      exec (.counterClearSaturating path) s =
        .next { s with
          sys :=
            if path = .pcie ∨ (s.sys.sessionOpen path = true ∧ s.sys.rights path = 3) then
              replied path 0x9000 0 0
                (fun x => x.modCnt fun c => { c with actions := c.actions ++ [(.clearSat path, s.sys.boundarySoon)] }) s.sys
            else s.sys.refuse path secRights 0x9000 0 0 }) ∧
  (∀ (s : Sys) (path : Path),
      ∃ t : Sys, s.counterAct (.clearSat path) =
        t.log Config.clearCode 0x06 20 0 0 0 [BitVec.ofNat 32 (pathNum path * 2 ^ 24)] ∧
        (∀ e ∈ t.cnt.fixed, saturates (e.1 / 2 ^ 48) = false) ∧ t.cnt.unit = s.cnt.unit)

/-- A write of a version's state (03 R80, 04 R129): FREE goes to ACTIVE, ACTIVE to RETIRING for one drain bound while the
other version is ACTIVE, unless a long command writes to the version; every other write is refused with an abort code, which
leaves both states as they were, whatever the version holds; and a RETIRING version is FREE once its drain bound has
elapsed. -/
def Obligations.VersionsMoveAsTheyMay : Prop :=
  (∀ (s : State) (path : Path) (ver : Bool) (value : Word), s.sys.takes path 0x3002 →
    let up := value = 1 ∧ s.sys.verState ver = 0
    let down := value = 2 ∧ s.sys.verState ver = 1 ∧ s.sys.verState (!ver) = 1
    (s.sys.longOn ver = false → up →
      exec (.versionStateWrite path ver value) s =
        .next { s with sys := replied path 0x3002 0 (b2n ver) (Sys.setVer ver 1 none) s.sys }) ∧
    (s.sys.longOn ver = false → down →
      exec (.versionStateWrite path ver value) s =
        .next { s with
          sys := replied path 0x3002 0 (b2n ver) (Sys.setVer ver 2 (some (s.sys.startInterval s.sys.drainNs))) s.sys }) ∧
    ((s.sys.longOn ver = true ∨ ¬ (up ∨ down)) →
      ∃ code t, exec (.versionStateWrite path ver value) s = .next t ∧ t.pending = s.pending ∧ t.stores = s.stores ∧
        t.sys = s.sys.refuse path code 0x3002 0 (b2n ver) ∧
        (path ≠ .inband → ∀ v, t.sys.verState v = s.sys.verState v))) ∧
  (∀ (s : State) (ver : Bool) (i : Interval), (if ver then s.sys.fwd.retire1 else s.sys.fwd.retire0) = some i →
    s.sys.verState ver = 2 →
      ∃ t, exec (.versionRetireExpire ver) s = .next t ∧ t.pending = s.pending ∧ t.stores = s.stores ∧
        t.sys.verState ver = 0 ∧ t.sys.verState (!ver) = s.sys.verState (!ver) ∧ t.sys.tab = s.sys.tab ∧
        t.sys.clk = (s.sys.toEnd i).clk)

/-- A grant at its sender (05 R158): it is accepted only when its SEQ follows that of the last accepted one; any other
changes no flow and is counted; the limit becomes the later of the old one and LIMIT, so a grant never shrinks a window. -/
def Obligations.GrantsNeverShrinkAWindow : Prop :=
  ∀ (s : State) (core : Core) (d : Delivery) (t : Sys) (i : Nat) (f : Flow),
    s.sys.takeDelivery (fun d => d.core == core.toNat && d.pkt.kind == 6) = some (d, t) →
    t.findFlow d.pkt.sgei d.pkt.flow true = some (i, f) → get? t.flows.ctx i = some f → f.st ≠ .stale →
    t.isCached core.toNat i = true →
    let u := t.touch core.toNat i
    let g := GrantBody.of d.pkt.payload
    (serialAfter d.pkt.seq f.gseq = false →
      exec (.creditGrantReceive core) s =
        .next { s with sys := (u.tally itemGrantIgnored (u.portOf d)).consume d } ∧
      (u.tally itemGrantIgnored (u.portOf d)).flows.ctx = t.flows.ctx) ∧
    (serialAfter d.pkt.seq f.gseq = true →
      exec (.creditGrantReceive core) s =
        .next { s with
          sys :=
            (((u.takeGrant i d.pkt.seq g).modFlow i fun f => { f with lastIv := u.startInterval 0 }).senderMoved i).consume d } ∧
      ∃ f', get? (u.takeGrant i d.pkt.seq g).flows.ctx i = some f' ∧ f'.gseq = d.pkt.seq ∧
        f'.limit = (if serialAfter g.limit f.limit then g.limit else f.limit) ∧ serialGe f'.limit f.limit = true)

/-- Both CRCs are CRC-32C (02 R43): the reflected polynomial 0x82F63B78, the initial value and the final XOR 0xFFFFFFFF, and
the check value of "123456789"; both are stored big-endian, the header's in bytes 28-31, the payload's after payload and
pad. -/
def Obligations.BothCrcsAreCrc32c : Prop :=
  (∀ (l : List Byte) (b : Byte),
    crc32c (l ++ [b]) ^^^ 0xFFFFFFFF =
      (List.range 8).foldl (fun c _ => if c.getLsbD 0 then (c >>> 1) ^^^ 0x82F63B78 else c >>> 1)
        ((crc32c l ^^^ 0xFFFFFFFF) ^^^ b.setWidth 32)) ∧
  crc32c [] ^^^ 0xFFFFFFFF = 0xFFFFFFFF ∧ crc32c (ascii "123456789") = 0xE3069283 ∧
  (∀ (p : Pkt), p.header.length = 32 ∧ p.header.drop 28 = toBe 4 p.hcrc.toNat ∧
    (p.seal.hcrc = p.seal.crc ∧ (p.plen ≠ 0 → p.seal.pcrc = crc32c (p.payload ++ p.pad))) ∧
    (p.plen ≠ 0 → p.bytes.drop (p.bytes.length - 4) = toBe 4 p.pcrc.toNat))
end

