-- ==== Sys2Proof/Laws/State.lean ====
section
/-! SUPPORT. What each part update and each emission changes and leaves: one lemma per part and update. -/

namespace Sys2Proof.Machine

variable (s : Sys)

@[simp] theorem Sys.modFree_out (f : Free → Free) : (s.modFree f).out = s.out := rfl
@[simp] theorem Sys.modFree_free (f : Free → Free) : (s.modFree f).free = f s.free := rfl
@[simp] theorem Sys.modFree_clk (f : Free → Free) : (s.modFree f).clk = s.clk := rfl
@[simp] theorem Sys.modFree_boot (f : Free → Free) : (s.modFree f).boot = s.boot := rfl
@[simp] theorem Sys.modFree_nv (f : Free → Free) : (s.modFree f).nv = s.nv := rfl
@[simp] theorem Sys.modFree_jr (f : Free → Free) : (s.modFree f).jr = s.jr := rfl
@[simp] theorem Sys.modFree_mg (f : Free → Free) : (s.modFree f).mg = s.mg := rfl
@[simp] theorem Sys.modFree_tab (f : Free → Free) : (s.modFree f).tab = s.tab := rfl
@[simp] theorem Sys.modFree_fwd (f : Free → Free) : (s.modFree f).fwd = s.fwd := rfl
@[simp] theorem Sys.modFree_ports (f : Free → Free) : (s.modFree f).ports = s.ports := rfl
@[simp] theorem Sys.modFree_sw (f : Free → Free) : (s.modFree f).sw = s.sw := rfl
@[simp] theorem Sys.modFree_flows (f : Free → Free) : (s.modFree f).flows = s.flows := rfl
@[simp] theorem Sys.modFree_coll (f : Free → Free) : (s.modFree f).coll = s.coll := rfl
@[simp] theorem Sys.modFree_graphs (f : Free → Free) : (s.modFree f).graphs = s.graphs := rfl
@[simp] theorem Sys.modFree_bc (f : Free → Free) : (s.modFree f).bc = s.bc := rfl
@[simp] theorem Sys.modFree_vault (f : Free → Free) : (s.modFree f).vault = s.vault := rfl
@[simp] theorem Sys.modFree_ocs (f : Free → Free) : (s.modFree f).ocs = s.ocs := rfl
@[simp] theorem Sys.modFree_mem (f : Free → Free) : (s.modFree f).mem = s.mem := rfl
@[simp] theorem Sys.modFree_felt (f : Free → Free) : (s.modFree f).felt = s.felt := rfl
@[simp] theorem Sys.modFree_hearth (f : Free → Free) : (s.modFree f).hearth = s.hearth := rfl
@[simp] theorem Sys.modFree_sec (f : Free → Free) : (s.modFree f).sec = s.sec := rfl
@[simp] theorem Sys.modFree_cnt (f : Free → Free) : (s.modFree f).cnt = s.cnt := rfl

@[simp] theorem Sys.modClk_out (f : Clock → Clock) : (s.modClk f).out = s.out := rfl
@[simp] theorem Sys.modClk_free (f : Clock → Clock) : (s.modClk f).free = s.free := rfl
@[simp] theorem Sys.modClk_clk (f : Clock → Clock) : (s.modClk f).clk = f s.clk := rfl
@[simp] theorem Sys.modClk_boot (f : Clock → Clock) : (s.modClk f).boot = s.boot := rfl
@[simp] theorem Sys.modClk_nv (f : Clock → Clock) : (s.modClk f).nv = s.nv := rfl
@[simp] theorem Sys.modClk_jr (f : Clock → Clock) : (s.modClk f).jr = s.jr := rfl
@[simp] theorem Sys.modClk_mg (f : Clock → Clock) : (s.modClk f).mg = s.mg := rfl
@[simp] theorem Sys.modClk_tab (f : Clock → Clock) : (s.modClk f).tab = s.tab := rfl
@[simp] theorem Sys.modClk_fwd (f : Clock → Clock) : (s.modClk f).fwd = s.fwd := rfl
@[simp] theorem Sys.modClk_ports (f : Clock → Clock) : (s.modClk f).ports = s.ports := rfl
@[simp] theorem Sys.modClk_sw (f : Clock → Clock) : (s.modClk f).sw = s.sw := rfl
@[simp] theorem Sys.modClk_flows (f : Clock → Clock) : (s.modClk f).flows = s.flows := rfl
@[simp] theorem Sys.modClk_coll (f : Clock → Clock) : (s.modClk f).coll = s.coll := rfl
@[simp] theorem Sys.modClk_graphs (f : Clock → Clock) : (s.modClk f).graphs = s.graphs := rfl
@[simp] theorem Sys.modClk_bc (f : Clock → Clock) : (s.modClk f).bc = s.bc := rfl
@[simp] theorem Sys.modClk_vault (f : Clock → Clock) : (s.modClk f).vault = s.vault := rfl
@[simp] theorem Sys.modClk_ocs (f : Clock → Clock) : (s.modClk f).ocs = s.ocs := rfl
@[simp] theorem Sys.modClk_mem (f : Clock → Clock) : (s.modClk f).mem = s.mem := rfl
@[simp] theorem Sys.modClk_felt (f : Clock → Clock) : (s.modClk f).felt = s.felt := rfl
@[simp] theorem Sys.modClk_hearth (f : Clock → Clock) : (s.modClk f).hearth = s.hearth := rfl
@[simp] theorem Sys.modClk_sec (f : Clock → Clock) : (s.modClk f).sec = s.sec := rfl
@[simp] theorem Sys.modClk_cnt (f : Clock → Clock) : (s.modClk f).cnt = s.cnt := rfl

@[simp] theorem Sys.modBoot_out (f : Boot → Boot) : (s.modBoot f).out = s.out := rfl
@[simp] theorem Sys.modBoot_free (f : Boot → Boot) : (s.modBoot f).free = s.free := rfl
@[simp] theorem Sys.modBoot_clk (f : Boot → Boot) : (s.modBoot f).clk = s.clk := rfl
@[simp] theorem Sys.modBoot_boot (f : Boot → Boot) : (s.modBoot f).boot = f s.boot := rfl
@[simp] theorem Sys.modBoot_nv (f : Boot → Boot) : (s.modBoot f).nv = s.nv := rfl
@[simp] theorem Sys.modBoot_jr (f : Boot → Boot) : (s.modBoot f).jr = s.jr := rfl
@[simp] theorem Sys.modBoot_mg (f : Boot → Boot) : (s.modBoot f).mg = s.mg := rfl
@[simp] theorem Sys.modBoot_tab (f : Boot → Boot) : (s.modBoot f).tab = s.tab := rfl
@[simp] theorem Sys.modBoot_fwd (f : Boot → Boot) : (s.modBoot f).fwd = s.fwd := rfl
@[simp] theorem Sys.modBoot_ports (f : Boot → Boot) : (s.modBoot f).ports = s.ports := rfl
@[simp] theorem Sys.modBoot_sw (f : Boot → Boot) : (s.modBoot f).sw = s.sw := rfl
@[simp] theorem Sys.modBoot_flows (f : Boot → Boot) : (s.modBoot f).flows = s.flows := rfl
@[simp] theorem Sys.modBoot_coll (f : Boot → Boot) : (s.modBoot f).coll = s.coll := rfl
@[simp] theorem Sys.modBoot_graphs (f : Boot → Boot) : (s.modBoot f).graphs = s.graphs := rfl
@[simp] theorem Sys.modBoot_bc (f : Boot → Boot) : (s.modBoot f).bc = s.bc := rfl
@[simp] theorem Sys.modBoot_vault (f : Boot → Boot) : (s.modBoot f).vault = s.vault := rfl
@[simp] theorem Sys.modBoot_ocs (f : Boot → Boot) : (s.modBoot f).ocs = s.ocs := rfl
@[simp] theorem Sys.modBoot_mem (f : Boot → Boot) : (s.modBoot f).mem = s.mem := rfl
@[simp] theorem Sys.modBoot_felt (f : Boot → Boot) : (s.modBoot f).felt = s.felt := rfl
@[simp] theorem Sys.modBoot_hearth (f : Boot → Boot) : (s.modBoot f).hearth = s.hearth := rfl
@[simp] theorem Sys.modBoot_sec (f : Boot → Boot) : (s.modBoot f).sec = s.sec := rfl
@[simp] theorem Sys.modBoot_cnt (f : Boot → Boot) : (s.modBoot f).cnt = s.cnt := rfl

@[simp] theorem Sys.modNv_out (f : Persist → Persist) : (s.modNv f).out = s.out := rfl
@[simp] theorem Sys.modNv_free (f : Persist → Persist) : (s.modNv f).free = s.free := rfl
@[simp] theorem Sys.modNv_clk (f : Persist → Persist) : (s.modNv f).clk = s.clk := rfl
@[simp] theorem Sys.modNv_boot (f : Persist → Persist) : (s.modNv f).boot = s.boot := rfl
@[simp] theorem Sys.modNv_nv (f : Persist → Persist) : (s.modNv f).nv = f s.nv := rfl
@[simp] theorem Sys.modNv_jr (f : Persist → Persist) : (s.modNv f).jr = s.jr := rfl
@[simp] theorem Sys.modNv_mg (f : Persist → Persist) : (s.modNv f).mg = s.mg := rfl
@[simp] theorem Sys.modNv_tab (f : Persist → Persist) : (s.modNv f).tab = s.tab := rfl
@[simp] theorem Sys.modNv_fwd (f : Persist → Persist) : (s.modNv f).fwd = s.fwd := rfl
@[simp] theorem Sys.modNv_ports (f : Persist → Persist) : (s.modNv f).ports = s.ports := rfl
@[simp] theorem Sys.modNv_sw (f : Persist → Persist) : (s.modNv f).sw = s.sw := rfl
@[simp] theorem Sys.modNv_flows (f : Persist → Persist) : (s.modNv f).flows = s.flows := rfl
@[simp] theorem Sys.modNv_coll (f : Persist → Persist) : (s.modNv f).coll = s.coll := rfl
@[simp] theorem Sys.modNv_graphs (f : Persist → Persist) : (s.modNv f).graphs = s.graphs := rfl
@[simp] theorem Sys.modNv_bc (f : Persist → Persist) : (s.modNv f).bc = s.bc := rfl
@[simp] theorem Sys.modNv_vault (f : Persist → Persist) : (s.modNv f).vault = s.vault := rfl
@[simp] theorem Sys.modNv_ocs (f : Persist → Persist) : (s.modNv f).ocs = s.ocs := rfl
@[simp] theorem Sys.modNv_mem (f : Persist → Persist) : (s.modNv f).mem = s.mem := rfl
@[simp] theorem Sys.modNv_felt (f : Persist → Persist) : (s.modNv f).felt = s.felt := rfl
@[simp] theorem Sys.modNv_hearth (f : Persist → Persist) : (s.modNv f).hearth = s.hearth := rfl
@[simp] theorem Sys.modNv_sec (f : Persist → Persist) : (s.modNv f).sec = s.sec := rfl
@[simp] theorem Sys.modNv_cnt (f : Persist → Persist) : (s.modNv f).cnt = s.cnt := rfl

@[simp] theorem Sys.modJr_out (f : Journal → Journal) : (s.modJr f).out = s.out := rfl
@[simp] theorem Sys.modJr_free (f : Journal → Journal) : (s.modJr f).free = s.free := rfl
@[simp] theorem Sys.modJr_clk (f : Journal → Journal) : (s.modJr f).clk = s.clk := rfl
@[simp] theorem Sys.modJr_boot (f : Journal → Journal) : (s.modJr f).boot = s.boot := rfl
@[simp] theorem Sys.modJr_nv (f : Journal → Journal) : (s.modJr f).nv = s.nv := rfl
@[simp] theorem Sys.modJr_jr (f : Journal → Journal) : (s.modJr f).jr = f s.jr := rfl
@[simp] theorem Sys.modJr_mg (f : Journal → Journal) : (s.modJr f).mg = s.mg := rfl
@[simp] theorem Sys.modJr_tab (f : Journal → Journal) : (s.modJr f).tab = s.tab := rfl
@[simp] theorem Sys.modJr_fwd (f : Journal → Journal) : (s.modJr f).fwd = s.fwd := rfl
@[simp] theorem Sys.modJr_ports (f : Journal → Journal) : (s.modJr f).ports = s.ports := rfl
@[simp] theorem Sys.modJr_sw (f : Journal → Journal) : (s.modJr f).sw = s.sw := rfl
@[simp] theorem Sys.modJr_flows (f : Journal → Journal) : (s.modJr f).flows = s.flows := rfl
@[simp] theorem Sys.modJr_coll (f : Journal → Journal) : (s.modJr f).coll = s.coll := rfl
@[simp] theorem Sys.modJr_graphs (f : Journal → Journal) : (s.modJr f).graphs = s.graphs := rfl
@[simp] theorem Sys.modJr_bc (f : Journal → Journal) : (s.modJr f).bc = s.bc := rfl
@[simp] theorem Sys.modJr_vault (f : Journal → Journal) : (s.modJr f).vault = s.vault := rfl
@[simp] theorem Sys.modJr_ocs (f : Journal → Journal) : (s.modJr f).ocs = s.ocs := rfl
@[simp] theorem Sys.modJr_mem (f : Journal → Journal) : (s.modJr f).mem = s.mem := rfl
@[simp] theorem Sys.modJr_felt (f : Journal → Journal) : (s.modJr f).felt = s.felt := rfl
@[simp] theorem Sys.modJr_hearth (f : Journal → Journal) : (s.modJr f).hearth = s.hearth := rfl
@[simp] theorem Sys.modJr_sec (f : Journal → Journal) : (s.modJr f).sec = s.sec := rfl
@[simp] theorem Sys.modJr_cnt (f : Journal → Journal) : (s.modJr f).cnt = s.cnt := rfl

@[simp] theorem Sys.modMg_out (f : Mgmt → Mgmt) : (s.modMg f).out = s.out := rfl
@[simp] theorem Sys.modMg_free (f : Mgmt → Mgmt) : (s.modMg f).free = s.free := rfl
@[simp] theorem Sys.modMg_clk (f : Mgmt → Mgmt) : (s.modMg f).clk = s.clk := rfl
@[simp] theorem Sys.modMg_boot (f : Mgmt → Mgmt) : (s.modMg f).boot = s.boot := rfl
@[simp] theorem Sys.modMg_nv (f : Mgmt → Mgmt) : (s.modMg f).nv = s.nv := rfl
@[simp] theorem Sys.modMg_jr (f : Mgmt → Mgmt) : (s.modMg f).jr = s.jr := rfl
@[simp] theorem Sys.modMg_mg (f : Mgmt → Mgmt) : (s.modMg f).mg = f s.mg := rfl
@[simp] theorem Sys.modMg_tab (f : Mgmt → Mgmt) : (s.modMg f).tab = s.tab := rfl
@[simp] theorem Sys.modMg_fwd (f : Mgmt → Mgmt) : (s.modMg f).fwd = s.fwd := rfl
@[simp] theorem Sys.modMg_ports (f : Mgmt → Mgmt) : (s.modMg f).ports = s.ports := rfl
@[simp] theorem Sys.modMg_sw (f : Mgmt → Mgmt) : (s.modMg f).sw = s.sw := rfl
@[simp] theorem Sys.modMg_flows (f : Mgmt → Mgmt) : (s.modMg f).flows = s.flows := rfl
@[simp] theorem Sys.modMg_coll (f : Mgmt → Mgmt) : (s.modMg f).coll = s.coll := rfl
@[simp] theorem Sys.modMg_graphs (f : Mgmt → Mgmt) : (s.modMg f).graphs = s.graphs := rfl
@[simp] theorem Sys.modMg_bc (f : Mgmt → Mgmt) : (s.modMg f).bc = s.bc := rfl
@[simp] theorem Sys.modMg_vault (f : Mgmt → Mgmt) : (s.modMg f).vault = s.vault := rfl
@[simp] theorem Sys.modMg_ocs (f : Mgmt → Mgmt) : (s.modMg f).ocs = s.ocs := rfl
@[simp] theorem Sys.modMg_mem (f : Mgmt → Mgmt) : (s.modMg f).mem = s.mem := rfl
@[simp] theorem Sys.modMg_felt (f : Mgmt → Mgmt) : (s.modMg f).felt = s.felt := rfl
@[simp] theorem Sys.modMg_hearth (f : Mgmt → Mgmt) : (s.modMg f).hearth = s.hearth := rfl
@[simp] theorem Sys.modMg_sec (f : Mgmt → Mgmt) : (s.modMg f).sec = s.sec := rfl
@[simp] theorem Sys.modMg_cnt (f : Mgmt → Mgmt) : (s.modMg f).cnt = s.cnt := rfl

@[simp] theorem Sys.modTab_out (f : Tables → Tables) : (s.modTab f).out = s.out := rfl
@[simp] theorem Sys.modTab_free (f : Tables → Tables) : (s.modTab f).free = s.free := rfl
@[simp] theorem Sys.modTab_clk (f : Tables → Tables) : (s.modTab f).clk = s.clk := rfl
@[simp] theorem Sys.modTab_boot (f : Tables → Tables) : (s.modTab f).boot = s.boot := rfl
@[simp] theorem Sys.modTab_nv (f : Tables → Tables) : (s.modTab f).nv = s.nv := rfl
@[simp] theorem Sys.modTab_jr (f : Tables → Tables) : (s.modTab f).jr = s.jr := rfl
@[simp] theorem Sys.modTab_mg (f : Tables → Tables) : (s.modTab f).mg = s.mg := rfl
@[simp] theorem Sys.modTab_tab (f : Tables → Tables) : (s.modTab f).tab = f s.tab := rfl
@[simp] theorem Sys.modTab_fwd (f : Tables → Tables) : (s.modTab f).fwd = s.fwd := rfl
@[simp] theorem Sys.modTab_ports (f : Tables → Tables) : (s.modTab f).ports = s.ports := rfl
@[simp] theorem Sys.modTab_sw (f : Tables → Tables) : (s.modTab f).sw = s.sw := rfl
@[simp] theorem Sys.modTab_flows (f : Tables → Tables) : (s.modTab f).flows = s.flows := rfl
@[simp] theorem Sys.modTab_coll (f : Tables → Tables) : (s.modTab f).coll = s.coll := rfl
@[simp] theorem Sys.modTab_graphs (f : Tables → Tables) : (s.modTab f).graphs = s.graphs := rfl
@[simp] theorem Sys.modTab_bc (f : Tables → Tables) : (s.modTab f).bc = s.bc := rfl
@[simp] theorem Sys.modTab_vault (f : Tables → Tables) : (s.modTab f).vault = s.vault := rfl
@[simp] theorem Sys.modTab_ocs (f : Tables → Tables) : (s.modTab f).ocs = s.ocs := rfl
@[simp] theorem Sys.modTab_mem (f : Tables → Tables) : (s.modTab f).mem = s.mem := rfl
@[simp] theorem Sys.modTab_felt (f : Tables → Tables) : (s.modTab f).felt = s.felt := rfl
@[simp] theorem Sys.modTab_hearth (f : Tables → Tables) : (s.modTab f).hearth = s.hearth := rfl
@[simp] theorem Sys.modTab_sec (f : Tables → Tables) : (s.modTab f).sec = s.sec := rfl
@[simp] theorem Sys.modTab_cnt (f : Tables → Tables) : (s.modTab f).cnt = s.cnt := rfl

@[simp] theorem Sys.modFwd_out (f : Fwd → Fwd) : (s.modFwd f).out = s.out := rfl
@[simp] theorem Sys.modFwd_free (f : Fwd → Fwd) : (s.modFwd f).free = s.free := rfl
@[simp] theorem Sys.modFwd_clk (f : Fwd → Fwd) : (s.modFwd f).clk = s.clk := rfl
@[simp] theorem Sys.modFwd_boot (f : Fwd → Fwd) : (s.modFwd f).boot = s.boot := rfl
@[simp] theorem Sys.modFwd_nv (f : Fwd → Fwd) : (s.modFwd f).nv = s.nv := rfl
@[simp] theorem Sys.modFwd_jr (f : Fwd → Fwd) : (s.modFwd f).jr = s.jr := rfl
@[simp] theorem Sys.modFwd_mg (f : Fwd → Fwd) : (s.modFwd f).mg = s.mg := rfl
@[simp] theorem Sys.modFwd_tab (f : Fwd → Fwd) : (s.modFwd f).tab = s.tab := rfl
@[simp] theorem Sys.modFwd_fwd (f : Fwd → Fwd) : (s.modFwd f).fwd = f s.fwd := rfl
@[simp] theorem Sys.modFwd_ports (f : Fwd → Fwd) : (s.modFwd f).ports = s.ports := rfl
@[simp] theorem Sys.modFwd_sw (f : Fwd → Fwd) : (s.modFwd f).sw = s.sw := rfl
@[simp] theorem Sys.modFwd_flows (f : Fwd → Fwd) : (s.modFwd f).flows = s.flows := rfl
@[simp] theorem Sys.modFwd_coll (f : Fwd → Fwd) : (s.modFwd f).coll = s.coll := rfl
@[simp] theorem Sys.modFwd_graphs (f : Fwd → Fwd) : (s.modFwd f).graphs = s.graphs := rfl
@[simp] theorem Sys.modFwd_bc (f : Fwd → Fwd) : (s.modFwd f).bc = s.bc := rfl
@[simp] theorem Sys.modFwd_vault (f : Fwd → Fwd) : (s.modFwd f).vault = s.vault := rfl
@[simp] theorem Sys.modFwd_ocs (f : Fwd → Fwd) : (s.modFwd f).ocs = s.ocs := rfl
@[simp] theorem Sys.modFwd_mem (f : Fwd → Fwd) : (s.modFwd f).mem = s.mem := rfl
@[simp] theorem Sys.modFwd_felt (f : Fwd → Fwd) : (s.modFwd f).felt = s.felt := rfl
@[simp] theorem Sys.modFwd_hearth (f : Fwd → Fwd) : (s.modFwd f).hearth = s.hearth := rfl
@[simp] theorem Sys.modFwd_sec (f : Fwd → Fwd) : (s.modFwd f).sec = s.sec := rfl
@[simp] theorem Sys.modFwd_cnt (f : Fwd → Fwd) : (s.modFwd f).cnt = s.cnt := rfl

@[simp] theorem Sys.modPorts_out (f : Ports → Ports) : (s.modPorts f).out = s.out := rfl
@[simp] theorem Sys.modPorts_free (f : Ports → Ports) : (s.modPorts f).free = s.free := rfl
@[simp] theorem Sys.modPorts_clk (f : Ports → Ports) : (s.modPorts f).clk = s.clk := rfl
@[simp] theorem Sys.modPorts_boot (f : Ports → Ports) : (s.modPorts f).boot = s.boot := rfl
@[simp] theorem Sys.modPorts_nv (f : Ports → Ports) : (s.modPorts f).nv = s.nv := rfl
@[simp] theorem Sys.modPorts_jr (f : Ports → Ports) : (s.modPorts f).jr = s.jr := rfl
@[simp] theorem Sys.modPorts_mg (f : Ports → Ports) : (s.modPorts f).mg = s.mg := rfl
@[simp] theorem Sys.modPorts_tab (f : Ports → Ports) : (s.modPorts f).tab = s.tab := rfl
@[simp] theorem Sys.modPorts_fwd (f : Ports → Ports) : (s.modPorts f).fwd = s.fwd := rfl
@[simp] theorem Sys.modPorts_ports (f : Ports → Ports) : (s.modPorts f).ports = f s.ports := rfl
@[simp] theorem Sys.modPorts_sw (f : Ports → Ports) : (s.modPorts f).sw = s.sw := rfl
@[simp] theorem Sys.modPorts_flows (f : Ports → Ports) : (s.modPorts f).flows = s.flows := rfl
@[simp] theorem Sys.modPorts_coll (f : Ports → Ports) : (s.modPorts f).coll = s.coll := rfl
@[simp] theorem Sys.modPorts_graphs (f : Ports → Ports) : (s.modPorts f).graphs = s.graphs := rfl
@[simp] theorem Sys.modPorts_bc (f : Ports → Ports) : (s.modPorts f).bc = s.bc := rfl
@[simp] theorem Sys.modPorts_vault (f : Ports → Ports) : (s.modPorts f).vault = s.vault := rfl
@[simp] theorem Sys.modPorts_ocs (f : Ports → Ports) : (s.modPorts f).ocs = s.ocs := rfl
@[simp] theorem Sys.modPorts_mem (f : Ports → Ports) : (s.modPorts f).mem = s.mem := rfl
@[simp] theorem Sys.modPorts_felt (f : Ports → Ports) : (s.modPorts f).felt = s.felt := rfl
@[simp] theorem Sys.modPorts_hearth (f : Ports → Ports) : (s.modPorts f).hearth = s.hearth := rfl
@[simp] theorem Sys.modPorts_sec (f : Ports → Ports) : (s.modPorts f).sec = s.sec := rfl
@[simp] theorem Sys.modPorts_cnt (f : Ports → Ports) : (s.modPorts f).cnt = s.cnt := rfl

@[simp] theorem Sys.modSw_out (f : Switch → Switch) : (s.modSw f).out = s.out := rfl
@[simp] theorem Sys.modSw_free (f : Switch → Switch) : (s.modSw f).free = s.free := rfl
@[simp] theorem Sys.modSw_clk (f : Switch → Switch) : (s.modSw f).clk = s.clk := rfl
@[simp] theorem Sys.modSw_boot (f : Switch → Switch) : (s.modSw f).boot = s.boot := rfl
@[simp] theorem Sys.modSw_nv (f : Switch → Switch) : (s.modSw f).nv = s.nv := rfl
@[simp] theorem Sys.modSw_jr (f : Switch → Switch) : (s.modSw f).jr = s.jr := rfl
@[simp] theorem Sys.modSw_mg (f : Switch → Switch) : (s.modSw f).mg = s.mg := rfl
@[simp] theorem Sys.modSw_tab (f : Switch → Switch) : (s.modSw f).tab = s.tab := rfl
@[simp] theorem Sys.modSw_fwd (f : Switch → Switch) : (s.modSw f).fwd = s.fwd := rfl
@[simp] theorem Sys.modSw_ports (f : Switch → Switch) : (s.modSw f).ports = s.ports := rfl
@[simp] theorem Sys.modSw_sw (f : Switch → Switch) : (s.modSw f).sw = f s.sw := rfl
@[simp] theorem Sys.modSw_flows (f : Switch → Switch) : (s.modSw f).flows = s.flows := rfl
@[simp] theorem Sys.modSw_coll (f : Switch → Switch) : (s.modSw f).coll = s.coll := rfl
@[simp] theorem Sys.modSw_graphs (f : Switch → Switch) : (s.modSw f).graphs = s.graphs := rfl
@[simp] theorem Sys.modSw_bc (f : Switch → Switch) : (s.modSw f).bc = s.bc := rfl
@[simp] theorem Sys.modSw_vault (f : Switch → Switch) : (s.modSw f).vault = s.vault := rfl
@[simp] theorem Sys.modSw_ocs (f : Switch → Switch) : (s.modSw f).ocs = s.ocs := rfl
@[simp] theorem Sys.modSw_mem (f : Switch → Switch) : (s.modSw f).mem = s.mem := rfl
@[simp] theorem Sys.modSw_felt (f : Switch → Switch) : (s.modSw f).felt = s.felt := rfl
@[simp] theorem Sys.modSw_hearth (f : Switch → Switch) : (s.modSw f).hearth = s.hearth := rfl
@[simp] theorem Sys.modSw_sec (f : Switch → Switch) : (s.modSw f).sec = s.sec := rfl
@[simp] theorem Sys.modSw_cnt (f : Switch → Switch) : (s.modSw f).cnt = s.cnt := rfl

@[simp] theorem Sys.modFlows_out (f : Flows → Flows) : (s.modFlows f).out = s.out := rfl
@[simp] theorem Sys.modFlows_free (f : Flows → Flows) : (s.modFlows f).free = s.free := rfl
@[simp] theorem Sys.modFlows_clk (f : Flows → Flows) : (s.modFlows f).clk = s.clk := rfl
@[simp] theorem Sys.modFlows_boot (f : Flows → Flows) : (s.modFlows f).boot = s.boot := rfl
@[simp] theorem Sys.modFlows_nv (f : Flows → Flows) : (s.modFlows f).nv = s.nv := rfl
@[simp] theorem Sys.modFlows_jr (f : Flows → Flows) : (s.modFlows f).jr = s.jr := rfl
@[simp] theorem Sys.modFlows_mg (f : Flows → Flows) : (s.modFlows f).mg = s.mg := rfl
@[simp] theorem Sys.modFlows_tab (f : Flows → Flows) : (s.modFlows f).tab = s.tab := rfl
@[simp] theorem Sys.modFlows_fwd (f : Flows → Flows) : (s.modFlows f).fwd = s.fwd := rfl
@[simp] theorem Sys.modFlows_ports (f : Flows → Flows) : (s.modFlows f).ports = s.ports := rfl
@[simp] theorem Sys.modFlows_sw (f : Flows → Flows) : (s.modFlows f).sw = s.sw := rfl
@[simp] theorem Sys.modFlows_flows (f : Flows → Flows) : (s.modFlows f).flows = f s.flows := rfl
@[simp] theorem Sys.modFlows_coll (f : Flows → Flows) : (s.modFlows f).coll = s.coll := rfl
@[simp] theorem Sys.modFlows_graphs (f : Flows → Flows) : (s.modFlows f).graphs = s.graphs := rfl
@[simp] theorem Sys.modFlows_bc (f : Flows → Flows) : (s.modFlows f).bc = s.bc := rfl
@[simp] theorem Sys.modFlows_vault (f : Flows → Flows) : (s.modFlows f).vault = s.vault := rfl
@[simp] theorem Sys.modFlows_ocs (f : Flows → Flows) : (s.modFlows f).ocs = s.ocs := rfl
@[simp] theorem Sys.modFlows_mem (f : Flows → Flows) : (s.modFlows f).mem = s.mem := rfl
@[simp] theorem Sys.modFlows_felt (f : Flows → Flows) : (s.modFlows f).felt = s.felt := rfl
@[simp] theorem Sys.modFlows_hearth (f : Flows → Flows) : (s.modFlows f).hearth = s.hearth := rfl
@[simp] theorem Sys.modFlows_sec (f : Flows → Flows) : (s.modFlows f).sec = s.sec := rfl
@[simp] theorem Sys.modFlows_cnt (f : Flows → Flows) : (s.modFlows f).cnt = s.cnt := rfl

@[simp] theorem Sys.modColl_out (f : Coll → Coll) : (s.modColl f).out = s.out := rfl
@[simp] theorem Sys.modColl_free (f : Coll → Coll) : (s.modColl f).free = s.free := rfl
@[simp] theorem Sys.modColl_clk (f : Coll → Coll) : (s.modColl f).clk = s.clk := rfl
@[simp] theorem Sys.modColl_boot (f : Coll → Coll) : (s.modColl f).boot = s.boot := rfl
@[simp] theorem Sys.modColl_nv (f : Coll → Coll) : (s.modColl f).nv = s.nv := rfl
@[simp] theorem Sys.modColl_jr (f : Coll → Coll) : (s.modColl f).jr = s.jr := rfl
@[simp] theorem Sys.modColl_mg (f : Coll → Coll) : (s.modColl f).mg = s.mg := rfl
@[simp] theorem Sys.modColl_tab (f : Coll → Coll) : (s.modColl f).tab = s.tab := rfl
@[simp] theorem Sys.modColl_fwd (f : Coll → Coll) : (s.modColl f).fwd = s.fwd := rfl
@[simp] theorem Sys.modColl_ports (f : Coll → Coll) : (s.modColl f).ports = s.ports := rfl
@[simp] theorem Sys.modColl_sw (f : Coll → Coll) : (s.modColl f).sw = s.sw := rfl
@[simp] theorem Sys.modColl_flows (f : Coll → Coll) : (s.modColl f).flows = s.flows := rfl
@[simp] theorem Sys.modColl_coll (f : Coll → Coll) : (s.modColl f).coll = f s.coll := rfl
@[simp] theorem Sys.modColl_graphs (f : Coll → Coll) : (s.modColl f).graphs = s.graphs := rfl
@[simp] theorem Sys.modColl_bc (f : Coll → Coll) : (s.modColl f).bc = s.bc := rfl
@[simp] theorem Sys.modColl_vault (f : Coll → Coll) : (s.modColl f).vault = s.vault := rfl
@[simp] theorem Sys.modColl_ocs (f : Coll → Coll) : (s.modColl f).ocs = s.ocs := rfl
@[simp] theorem Sys.modColl_mem (f : Coll → Coll) : (s.modColl f).mem = s.mem := rfl
@[simp] theorem Sys.modColl_felt (f : Coll → Coll) : (s.modColl f).felt = s.felt := rfl
@[simp] theorem Sys.modColl_hearth (f : Coll → Coll) : (s.modColl f).hearth = s.hearth := rfl
@[simp] theorem Sys.modColl_sec (f : Coll → Coll) : (s.modColl f).sec = s.sec := rfl
@[simp] theorem Sys.modColl_cnt (f : Coll → Coll) : (s.modColl f).cnt = s.cnt := rfl

@[simp] theorem Sys.modGraphs_out (f : Graphs → Graphs) : (s.modGraphs f).out = s.out := rfl
@[simp] theorem Sys.modGraphs_free (f : Graphs → Graphs) : (s.modGraphs f).free = s.free := rfl
@[simp] theorem Sys.modGraphs_clk (f : Graphs → Graphs) : (s.modGraphs f).clk = s.clk := rfl
@[simp] theorem Sys.modGraphs_boot (f : Graphs → Graphs) : (s.modGraphs f).boot = s.boot := rfl
@[simp] theorem Sys.modGraphs_nv (f : Graphs → Graphs) : (s.modGraphs f).nv = s.nv := rfl
@[simp] theorem Sys.modGraphs_jr (f : Graphs → Graphs) : (s.modGraphs f).jr = s.jr := rfl
@[simp] theorem Sys.modGraphs_mg (f : Graphs → Graphs) : (s.modGraphs f).mg = s.mg := rfl
@[simp] theorem Sys.modGraphs_tab (f : Graphs → Graphs) : (s.modGraphs f).tab = s.tab := rfl
@[simp] theorem Sys.modGraphs_fwd (f : Graphs → Graphs) : (s.modGraphs f).fwd = s.fwd := rfl
@[simp] theorem Sys.modGraphs_ports (f : Graphs → Graphs) : (s.modGraphs f).ports = s.ports := rfl
@[simp] theorem Sys.modGraphs_sw (f : Graphs → Graphs) : (s.modGraphs f).sw = s.sw := rfl
@[simp] theorem Sys.modGraphs_flows (f : Graphs → Graphs) : (s.modGraphs f).flows = s.flows := rfl
@[simp] theorem Sys.modGraphs_coll (f : Graphs → Graphs) : (s.modGraphs f).coll = s.coll := rfl
@[simp] theorem Sys.modGraphs_graphs (f : Graphs → Graphs) : (s.modGraphs f).graphs = f s.graphs := rfl
@[simp] theorem Sys.modGraphs_bc (f : Graphs → Graphs) : (s.modGraphs f).bc = s.bc := rfl
@[simp] theorem Sys.modGraphs_vault (f : Graphs → Graphs) : (s.modGraphs f).vault = s.vault := rfl
@[simp] theorem Sys.modGraphs_ocs (f : Graphs → Graphs) : (s.modGraphs f).ocs = s.ocs := rfl
@[simp] theorem Sys.modGraphs_mem (f : Graphs → Graphs) : (s.modGraphs f).mem = s.mem := rfl
@[simp] theorem Sys.modGraphs_felt (f : Graphs → Graphs) : (s.modGraphs f).felt = s.felt := rfl
@[simp] theorem Sys.modGraphs_hearth (f : Graphs → Graphs) : (s.modGraphs f).hearth = s.hearth := rfl
@[simp] theorem Sys.modGraphs_sec (f : Graphs → Graphs) : (s.modGraphs f).sec = s.sec := rfl
@[simp] theorem Sys.modGraphs_cnt (f : Graphs → Graphs) : (s.modGraphs f).cnt = s.cnt := rfl

@[simp] theorem Sys.modBc_out (f : Bc → Bc) : (s.modBc f).out = s.out := rfl
@[simp] theorem Sys.modBc_free (f : Bc → Bc) : (s.modBc f).free = s.free := rfl
@[simp] theorem Sys.modBc_clk (f : Bc → Bc) : (s.modBc f).clk = s.clk := rfl
@[simp] theorem Sys.modBc_boot (f : Bc → Bc) : (s.modBc f).boot = s.boot := rfl
@[simp] theorem Sys.modBc_nv (f : Bc → Bc) : (s.modBc f).nv = s.nv := rfl
@[simp] theorem Sys.modBc_jr (f : Bc → Bc) : (s.modBc f).jr = s.jr := rfl
@[simp] theorem Sys.modBc_mg (f : Bc → Bc) : (s.modBc f).mg = s.mg := rfl
@[simp] theorem Sys.modBc_tab (f : Bc → Bc) : (s.modBc f).tab = s.tab := rfl
@[simp] theorem Sys.modBc_fwd (f : Bc → Bc) : (s.modBc f).fwd = s.fwd := rfl
@[simp] theorem Sys.modBc_ports (f : Bc → Bc) : (s.modBc f).ports = s.ports := rfl
@[simp] theorem Sys.modBc_sw (f : Bc → Bc) : (s.modBc f).sw = s.sw := rfl
@[simp] theorem Sys.modBc_flows (f : Bc → Bc) : (s.modBc f).flows = s.flows := rfl
@[simp] theorem Sys.modBc_coll (f : Bc → Bc) : (s.modBc f).coll = s.coll := rfl
@[simp] theorem Sys.modBc_graphs (f : Bc → Bc) : (s.modBc f).graphs = s.graphs := rfl
@[simp] theorem Sys.modBc_bc (f : Bc → Bc) : (s.modBc f).bc = f s.bc := rfl
@[simp] theorem Sys.modBc_vault (f : Bc → Bc) : (s.modBc f).vault = s.vault := rfl
@[simp] theorem Sys.modBc_ocs (f : Bc → Bc) : (s.modBc f).ocs = s.ocs := rfl
@[simp] theorem Sys.modBc_mem (f : Bc → Bc) : (s.modBc f).mem = s.mem := rfl
@[simp] theorem Sys.modBc_felt (f : Bc → Bc) : (s.modBc f).felt = s.felt := rfl
@[simp] theorem Sys.modBc_hearth (f : Bc → Bc) : (s.modBc f).hearth = s.hearth := rfl
@[simp] theorem Sys.modBc_sec (f : Bc → Bc) : (s.modBc f).sec = s.sec := rfl
@[simp] theorem Sys.modBc_cnt (f : Bc → Bc) : (s.modBc f).cnt = s.cnt := rfl

@[simp] theorem Sys.modVault_out (f : Vault → Vault) : (s.modVault f).out = s.out := rfl
@[simp] theorem Sys.modVault_free (f : Vault → Vault) : (s.modVault f).free = s.free := rfl
@[simp] theorem Sys.modVault_clk (f : Vault → Vault) : (s.modVault f).clk = s.clk := rfl
@[simp] theorem Sys.modVault_boot (f : Vault → Vault) : (s.modVault f).boot = s.boot := rfl
@[simp] theorem Sys.modVault_nv (f : Vault → Vault) : (s.modVault f).nv = s.nv := rfl
@[simp] theorem Sys.modVault_jr (f : Vault → Vault) : (s.modVault f).jr = s.jr := rfl
@[simp] theorem Sys.modVault_mg (f : Vault → Vault) : (s.modVault f).mg = s.mg := rfl
@[simp] theorem Sys.modVault_tab (f : Vault → Vault) : (s.modVault f).tab = s.tab := rfl
@[simp] theorem Sys.modVault_fwd (f : Vault → Vault) : (s.modVault f).fwd = s.fwd := rfl
@[simp] theorem Sys.modVault_ports (f : Vault → Vault) : (s.modVault f).ports = s.ports := rfl
@[simp] theorem Sys.modVault_sw (f : Vault → Vault) : (s.modVault f).sw = s.sw := rfl
@[simp] theorem Sys.modVault_flows (f : Vault → Vault) : (s.modVault f).flows = s.flows := rfl
@[simp] theorem Sys.modVault_coll (f : Vault → Vault) : (s.modVault f).coll = s.coll := rfl
@[simp] theorem Sys.modVault_graphs (f : Vault → Vault) : (s.modVault f).graphs = s.graphs := rfl
@[simp] theorem Sys.modVault_bc (f : Vault → Vault) : (s.modVault f).bc = s.bc := rfl
@[simp] theorem Sys.modVault_vault (f : Vault → Vault) : (s.modVault f).vault = f s.vault := rfl
@[simp] theorem Sys.modVault_ocs (f : Vault → Vault) : (s.modVault f).ocs = s.ocs := rfl
@[simp] theorem Sys.modVault_mem (f : Vault → Vault) : (s.modVault f).mem = s.mem := rfl
@[simp] theorem Sys.modVault_felt (f : Vault → Vault) : (s.modVault f).felt = s.felt := rfl
@[simp] theorem Sys.modVault_hearth (f : Vault → Vault) : (s.modVault f).hearth = s.hearth := rfl
@[simp] theorem Sys.modVault_sec (f : Vault → Vault) : (s.modVault f).sec = s.sec := rfl
@[simp] theorem Sys.modVault_cnt (f : Vault → Vault) : (s.modVault f).cnt = s.cnt := rfl

@[simp] theorem Sys.modOcs_out (f : Ocs → Ocs) : (s.modOcs f).out = s.out := rfl
@[simp] theorem Sys.modOcs_free (f : Ocs → Ocs) : (s.modOcs f).free = s.free := rfl
@[simp] theorem Sys.modOcs_clk (f : Ocs → Ocs) : (s.modOcs f).clk = s.clk := rfl
@[simp] theorem Sys.modOcs_boot (f : Ocs → Ocs) : (s.modOcs f).boot = s.boot := rfl
@[simp] theorem Sys.modOcs_nv (f : Ocs → Ocs) : (s.modOcs f).nv = s.nv := rfl
@[simp] theorem Sys.modOcs_jr (f : Ocs → Ocs) : (s.modOcs f).jr = s.jr := rfl
@[simp] theorem Sys.modOcs_mg (f : Ocs → Ocs) : (s.modOcs f).mg = s.mg := rfl
@[simp] theorem Sys.modOcs_tab (f : Ocs → Ocs) : (s.modOcs f).tab = s.tab := rfl
@[simp] theorem Sys.modOcs_fwd (f : Ocs → Ocs) : (s.modOcs f).fwd = s.fwd := rfl
@[simp] theorem Sys.modOcs_ports (f : Ocs → Ocs) : (s.modOcs f).ports = s.ports := rfl
@[simp] theorem Sys.modOcs_sw (f : Ocs → Ocs) : (s.modOcs f).sw = s.sw := rfl
@[simp] theorem Sys.modOcs_flows (f : Ocs → Ocs) : (s.modOcs f).flows = s.flows := rfl
@[simp] theorem Sys.modOcs_coll (f : Ocs → Ocs) : (s.modOcs f).coll = s.coll := rfl
@[simp] theorem Sys.modOcs_graphs (f : Ocs → Ocs) : (s.modOcs f).graphs = s.graphs := rfl
@[simp] theorem Sys.modOcs_bc (f : Ocs → Ocs) : (s.modOcs f).bc = s.bc := rfl
@[simp] theorem Sys.modOcs_vault (f : Ocs → Ocs) : (s.modOcs f).vault = s.vault := rfl
@[simp] theorem Sys.modOcs_ocs (f : Ocs → Ocs) : (s.modOcs f).ocs = f s.ocs := rfl
@[simp] theorem Sys.modOcs_mem (f : Ocs → Ocs) : (s.modOcs f).mem = s.mem := rfl
@[simp] theorem Sys.modOcs_felt (f : Ocs → Ocs) : (s.modOcs f).felt = s.felt := rfl
@[simp] theorem Sys.modOcs_hearth (f : Ocs → Ocs) : (s.modOcs f).hearth = s.hearth := rfl
@[simp] theorem Sys.modOcs_sec (f : Ocs → Ocs) : (s.modOcs f).sec = s.sec := rfl
@[simp] theorem Sys.modOcs_cnt (f : Ocs → Ocs) : (s.modOcs f).cnt = s.cnt := rfl

@[simp] theorem Sys.modMem_out (f : Mem → Mem) : (s.modMem f).out = s.out := rfl
@[simp] theorem Sys.modMem_free (f : Mem → Mem) : (s.modMem f).free = s.free := rfl
@[simp] theorem Sys.modMem_clk (f : Mem → Mem) : (s.modMem f).clk = s.clk := rfl
@[simp] theorem Sys.modMem_boot (f : Mem → Mem) : (s.modMem f).boot = s.boot := rfl
@[simp] theorem Sys.modMem_nv (f : Mem → Mem) : (s.modMem f).nv = s.nv := rfl
@[simp] theorem Sys.modMem_jr (f : Mem → Mem) : (s.modMem f).jr = s.jr := rfl
@[simp] theorem Sys.modMem_mg (f : Mem → Mem) : (s.modMem f).mg = s.mg := rfl
@[simp] theorem Sys.modMem_tab (f : Mem → Mem) : (s.modMem f).tab = s.tab := rfl
@[simp] theorem Sys.modMem_fwd (f : Mem → Mem) : (s.modMem f).fwd = s.fwd := rfl
@[simp] theorem Sys.modMem_ports (f : Mem → Mem) : (s.modMem f).ports = s.ports := rfl
@[simp] theorem Sys.modMem_sw (f : Mem → Mem) : (s.modMem f).sw = s.sw := rfl
@[simp] theorem Sys.modMem_flows (f : Mem → Mem) : (s.modMem f).flows = s.flows := rfl
@[simp] theorem Sys.modMem_coll (f : Mem → Mem) : (s.modMem f).coll = s.coll := rfl
@[simp] theorem Sys.modMem_graphs (f : Mem → Mem) : (s.modMem f).graphs = s.graphs := rfl
@[simp] theorem Sys.modMem_bc (f : Mem → Mem) : (s.modMem f).bc = s.bc := rfl
@[simp] theorem Sys.modMem_vault (f : Mem → Mem) : (s.modMem f).vault = s.vault := rfl
@[simp] theorem Sys.modMem_ocs (f : Mem → Mem) : (s.modMem f).ocs = s.ocs := rfl
@[simp] theorem Sys.modMem_mem (f : Mem → Mem) : (s.modMem f).mem = f s.mem := rfl
@[simp] theorem Sys.modMem_felt (f : Mem → Mem) : (s.modMem f).felt = s.felt := rfl
@[simp] theorem Sys.modMem_hearth (f : Mem → Mem) : (s.modMem f).hearth = s.hearth := rfl
@[simp] theorem Sys.modMem_sec (f : Mem → Mem) : (s.modMem f).sec = s.sec := rfl
@[simp] theorem Sys.modMem_cnt (f : Mem → Mem) : (s.modMem f).cnt = s.cnt := rfl

@[simp] theorem Sys.modFelt_out (f : Felt → Felt) : (s.modFelt f).out = s.out := rfl
@[simp] theorem Sys.modFelt_free (f : Felt → Felt) : (s.modFelt f).free = s.free := rfl
@[simp] theorem Sys.modFelt_clk (f : Felt → Felt) : (s.modFelt f).clk = s.clk := rfl
@[simp] theorem Sys.modFelt_boot (f : Felt → Felt) : (s.modFelt f).boot = s.boot := rfl
@[simp] theorem Sys.modFelt_nv (f : Felt → Felt) : (s.modFelt f).nv = s.nv := rfl
@[simp] theorem Sys.modFelt_jr (f : Felt → Felt) : (s.modFelt f).jr = s.jr := rfl
@[simp] theorem Sys.modFelt_mg (f : Felt → Felt) : (s.modFelt f).mg = s.mg := rfl
@[simp] theorem Sys.modFelt_tab (f : Felt → Felt) : (s.modFelt f).tab = s.tab := rfl
@[simp] theorem Sys.modFelt_fwd (f : Felt → Felt) : (s.modFelt f).fwd = s.fwd := rfl
@[simp] theorem Sys.modFelt_ports (f : Felt → Felt) : (s.modFelt f).ports = s.ports := rfl
@[simp] theorem Sys.modFelt_sw (f : Felt → Felt) : (s.modFelt f).sw = s.sw := rfl
@[simp] theorem Sys.modFelt_flows (f : Felt → Felt) : (s.modFelt f).flows = s.flows := rfl
@[simp] theorem Sys.modFelt_coll (f : Felt → Felt) : (s.modFelt f).coll = s.coll := rfl
@[simp] theorem Sys.modFelt_graphs (f : Felt → Felt) : (s.modFelt f).graphs = s.graphs := rfl
@[simp] theorem Sys.modFelt_bc (f : Felt → Felt) : (s.modFelt f).bc = s.bc := rfl
@[simp] theorem Sys.modFelt_vault (f : Felt → Felt) : (s.modFelt f).vault = s.vault := rfl
@[simp] theorem Sys.modFelt_ocs (f : Felt → Felt) : (s.modFelt f).ocs = s.ocs := rfl
@[simp] theorem Sys.modFelt_mem (f : Felt → Felt) : (s.modFelt f).mem = s.mem := rfl
@[simp] theorem Sys.modFelt_felt (f : Felt → Felt) : (s.modFelt f).felt = f s.felt := rfl
@[simp] theorem Sys.modFelt_hearth (f : Felt → Felt) : (s.modFelt f).hearth = s.hearth := rfl
@[simp] theorem Sys.modFelt_sec (f : Felt → Felt) : (s.modFelt f).sec = s.sec := rfl
@[simp] theorem Sys.modFelt_cnt (f : Felt → Felt) : (s.modFelt f).cnt = s.cnt := rfl

@[simp] theorem Sys.modHearth_out (f : Hearth → Hearth) : (s.modHearth f).out = s.out := rfl
@[simp] theorem Sys.modHearth_free (f : Hearth → Hearth) : (s.modHearth f).free = s.free := rfl
@[simp] theorem Sys.modHearth_clk (f : Hearth → Hearth) : (s.modHearth f).clk = s.clk := rfl
@[simp] theorem Sys.modHearth_boot (f : Hearth → Hearth) : (s.modHearth f).boot = s.boot := rfl
@[simp] theorem Sys.modHearth_nv (f : Hearth → Hearth) : (s.modHearth f).nv = s.nv := rfl
@[simp] theorem Sys.modHearth_jr (f : Hearth → Hearth) : (s.modHearth f).jr = s.jr := rfl
@[simp] theorem Sys.modHearth_mg (f : Hearth → Hearth) : (s.modHearth f).mg = s.mg := rfl
@[simp] theorem Sys.modHearth_tab (f : Hearth → Hearth) : (s.modHearth f).tab = s.tab := rfl
@[simp] theorem Sys.modHearth_fwd (f : Hearth → Hearth) : (s.modHearth f).fwd = s.fwd := rfl
@[simp] theorem Sys.modHearth_ports (f : Hearth → Hearth) : (s.modHearth f).ports = s.ports := rfl
@[simp] theorem Sys.modHearth_sw (f : Hearth → Hearth) : (s.modHearth f).sw = s.sw := rfl
@[simp] theorem Sys.modHearth_flows (f : Hearth → Hearth) : (s.modHearth f).flows = s.flows := rfl
@[simp] theorem Sys.modHearth_coll (f : Hearth → Hearth) : (s.modHearth f).coll = s.coll := rfl
@[simp] theorem Sys.modHearth_graphs (f : Hearth → Hearth) : (s.modHearth f).graphs = s.graphs := rfl
@[simp] theorem Sys.modHearth_bc (f : Hearth → Hearth) : (s.modHearth f).bc = s.bc := rfl
@[simp] theorem Sys.modHearth_vault (f : Hearth → Hearth) : (s.modHearth f).vault = s.vault := rfl
@[simp] theorem Sys.modHearth_ocs (f : Hearth → Hearth) : (s.modHearth f).ocs = s.ocs := rfl
@[simp] theorem Sys.modHearth_mem (f : Hearth → Hearth) : (s.modHearth f).mem = s.mem := rfl
@[simp] theorem Sys.modHearth_felt (f : Hearth → Hearth) : (s.modHearth f).felt = s.felt := rfl
@[simp] theorem Sys.modHearth_hearth (f : Hearth → Hearth) : (s.modHearth f).hearth = f s.hearth := rfl
@[simp] theorem Sys.modHearth_sec (f : Hearth → Hearth) : (s.modHearth f).sec = s.sec := rfl
@[simp] theorem Sys.modHearth_cnt (f : Hearth → Hearth) : (s.modHearth f).cnt = s.cnt := rfl

@[simp] theorem Sys.modSec_out (f : Sec → Sec) : (s.modSec f).out = s.out := rfl
@[simp] theorem Sys.modSec_free (f : Sec → Sec) : (s.modSec f).free = s.free := rfl
@[simp] theorem Sys.modSec_clk (f : Sec → Sec) : (s.modSec f).clk = s.clk := rfl
@[simp] theorem Sys.modSec_boot (f : Sec → Sec) : (s.modSec f).boot = s.boot := rfl
@[simp] theorem Sys.modSec_nv (f : Sec → Sec) : (s.modSec f).nv = s.nv := rfl
@[simp] theorem Sys.modSec_jr (f : Sec → Sec) : (s.modSec f).jr = s.jr := rfl
@[simp] theorem Sys.modSec_mg (f : Sec → Sec) : (s.modSec f).mg = s.mg := rfl
@[simp] theorem Sys.modSec_tab (f : Sec → Sec) : (s.modSec f).tab = s.tab := rfl
@[simp] theorem Sys.modSec_fwd (f : Sec → Sec) : (s.modSec f).fwd = s.fwd := rfl
@[simp] theorem Sys.modSec_ports (f : Sec → Sec) : (s.modSec f).ports = s.ports := rfl
@[simp] theorem Sys.modSec_sw (f : Sec → Sec) : (s.modSec f).sw = s.sw := rfl
@[simp] theorem Sys.modSec_flows (f : Sec → Sec) : (s.modSec f).flows = s.flows := rfl
@[simp] theorem Sys.modSec_coll (f : Sec → Sec) : (s.modSec f).coll = s.coll := rfl
@[simp] theorem Sys.modSec_graphs (f : Sec → Sec) : (s.modSec f).graphs = s.graphs := rfl
@[simp] theorem Sys.modSec_bc (f : Sec → Sec) : (s.modSec f).bc = s.bc := rfl
@[simp] theorem Sys.modSec_vault (f : Sec → Sec) : (s.modSec f).vault = s.vault := rfl
@[simp] theorem Sys.modSec_ocs (f : Sec → Sec) : (s.modSec f).ocs = s.ocs := rfl
@[simp] theorem Sys.modSec_mem (f : Sec → Sec) : (s.modSec f).mem = s.mem := rfl
@[simp] theorem Sys.modSec_felt (f : Sec → Sec) : (s.modSec f).felt = s.felt := rfl
@[simp] theorem Sys.modSec_hearth (f : Sec → Sec) : (s.modSec f).hearth = s.hearth := rfl
@[simp] theorem Sys.modSec_sec (f : Sec → Sec) : (s.modSec f).sec = f s.sec := rfl
@[simp] theorem Sys.modSec_cnt (f : Sec → Sec) : (s.modSec f).cnt = s.cnt := rfl

@[simp] theorem Sys.modCnt_out (f : Counters → Counters) : (s.modCnt f).out = s.out := rfl
@[simp] theorem Sys.modCnt_free (f : Counters → Counters) : (s.modCnt f).free = s.free := rfl
@[simp] theorem Sys.modCnt_clk (f : Counters → Counters) : (s.modCnt f).clk = s.clk := rfl
@[simp] theorem Sys.modCnt_boot (f : Counters → Counters) : (s.modCnt f).boot = s.boot := rfl
@[simp] theorem Sys.modCnt_nv (f : Counters → Counters) : (s.modCnt f).nv = s.nv := rfl
@[simp] theorem Sys.modCnt_jr (f : Counters → Counters) : (s.modCnt f).jr = s.jr := rfl
@[simp] theorem Sys.modCnt_mg (f : Counters → Counters) : (s.modCnt f).mg = s.mg := rfl
@[simp] theorem Sys.modCnt_tab (f : Counters → Counters) : (s.modCnt f).tab = s.tab := rfl
@[simp] theorem Sys.modCnt_fwd (f : Counters → Counters) : (s.modCnt f).fwd = s.fwd := rfl
@[simp] theorem Sys.modCnt_ports (f : Counters → Counters) : (s.modCnt f).ports = s.ports := rfl
@[simp] theorem Sys.modCnt_sw (f : Counters → Counters) : (s.modCnt f).sw = s.sw := rfl
@[simp] theorem Sys.modCnt_flows (f : Counters → Counters) : (s.modCnt f).flows = s.flows := rfl
@[simp] theorem Sys.modCnt_coll (f : Counters → Counters) : (s.modCnt f).coll = s.coll := rfl
@[simp] theorem Sys.modCnt_graphs (f : Counters → Counters) : (s.modCnt f).graphs = s.graphs := rfl
@[simp] theorem Sys.modCnt_bc (f : Counters → Counters) : (s.modCnt f).bc = s.bc := rfl
@[simp] theorem Sys.modCnt_vault (f : Counters → Counters) : (s.modCnt f).vault = s.vault := rfl
@[simp] theorem Sys.modCnt_ocs (f : Counters → Counters) : (s.modCnt f).ocs = s.ocs := rfl
@[simp] theorem Sys.modCnt_mem (f : Counters → Counters) : (s.modCnt f).mem = s.mem := rfl
@[simp] theorem Sys.modCnt_felt (f : Counters → Counters) : (s.modCnt f).felt = s.felt := rfl
@[simp] theorem Sys.modCnt_hearth (f : Counters → Counters) : (s.modCnt f).hearth = s.hearth := rfl
@[simp] theorem Sys.modCnt_sec (f : Counters → Counters) : (s.modCnt f).sec = s.sec := rfl
@[simp] theorem Sys.modCnt_cnt (f : Counters → Counters) : (s.modCnt f).cnt = f s.cnt := rfl

@[simp] theorem Sys.emit_out (o : Output) : (s.emit o).out = s.out ++ [o] := rfl
@[simp] theorem Sys.emit_free (o : Output) : (s.emit o).free = s.free := rfl
@[simp] theorem Sys.emit_clk (o : Output) : (s.emit o).clk = s.clk := rfl
@[simp] theorem Sys.emit_boot (o : Output) : (s.emit o).boot = s.boot := rfl
@[simp] theorem Sys.emit_nv (o : Output) : (s.emit o).nv = s.nv := rfl
@[simp] theorem Sys.emit_jr (o : Output) : (s.emit o).jr = s.jr := rfl
@[simp] theorem Sys.emit_mg (o : Output) : (s.emit o).mg = s.mg := rfl
@[simp] theorem Sys.emit_tab (o : Output) : (s.emit o).tab = s.tab := rfl
@[simp] theorem Sys.emit_fwd (o : Output) : (s.emit o).fwd = s.fwd := rfl
@[simp] theorem Sys.emit_ports (o : Output) : (s.emit o).ports = s.ports := rfl
@[simp] theorem Sys.emit_sw (o : Output) : (s.emit o).sw = s.sw := rfl
@[simp] theorem Sys.emit_flows (o : Output) : (s.emit o).flows = s.flows := rfl
@[simp] theorem Sys.emit_coll (o : Output) : (s.emit o).coll = s.coll := rfl
@[simp] theorem Sys.emit_graphs (o : Output) : (s.emit o).graphs = s.graphs := rfl
@[simp] theorem Sys.emit_bc (o : Output) : (s.emit o).bc = s.bc := rfl
@[simp] theorem Sys.emit_vault (o : Output) : (s.emit o).vault = s.vault := rfl
@[simp] theorem Sys.emit_ocs (o : Output) : (s.emit o).ocs = s.ocs := rfl
@[simp] theorem Sys.emit_mem (o : Output) : (s.emit o).mem = s.mem := rfl
@[simp] theorem Sys.emit_felt (o : Output) : (s.emit o).felt = s.felt := rfl
@[simp] theorem Sys.emit_hearth (o : Output) : (s.emit o).hearth = s.hearth := rfl
@[simp] theorem Sys.emit_sec (o : Output) : (s.emit o).sec = s.sec := rfl
@[simp] theorem Sys.emit_cnt (o : Output) : (s.emit o).cnt = s.cnt := rfl

@[simp] theorem State.onSys_pending (t : State) (f : Sys → Sys) : (t.onSys f).pending = t.pending := rfl
@[simp] theorem State.onSys_stores (t : State) (f : Sys → Sys) : (t.onSys f).stores = t.stores := rfl
@[simp] theorem State.onSys_sys (t : State) (f : Sys → Sys) : (t.onSys f).sys = f t.sys := rfl
@[simp] theorem State.onMach_pending (t : State) (f : Stores × Sys → Stores × Sys) : (t.onMach f).pending = t.pending := rfl
@[simp] theorem State.onMach_stores (t : State) (f : Stores × Sys → Stores × Sys) : (t.onMach f).stores = (f (t.stores, t.sys)).1 := rfl
@[simp] theorem State.onMach_sys (t : State) (f : Stores × Sys → Stores × Sys) : (t.onMach f).sys = (f (t.stores, t.sys)).2 := rfl

end Sys2Proof.Machine
end

