-- ==== Sys2Proof/Laws/Quiet.lean ====
section
/-! SUPPORT. What the small shared operations leave: one lemma per operation and part. -/

namespace Sys2Proof.Machine

variable (s : Sys)

@[simp] theorem Sys.advance_out (n : Nat) : (s.advance n).out = s.out := rfl
@[simp] theorem Sys.advance_free (n : Nat) : (s.advance n).free = s.free := rfl
@[simp] theorem Sys.advance_boot (n : Nat) : (s.advance n).boot = s.boot := rfl
@[simp] theorem Sys.advance_nv (n : Nat) : (s.advance n).nv = s.nv := rfl
@[simp] theorem Sys.advance_jr (n : Nat) : (s.advance n).jr = s.jr := rfl
@[simp] theorem Sys.advance_mg (n : Nat) : (s.advance n).mg = s.mg := rfl
@[simp] theorem Sys.advance_tab (n : Nat) : (s.advance n).tab = s.tab := rfl
@[simp] theorem Sys.advance_fwd (n : Nat) : (s.advance n).fwd = s.fwd := rfl
@[simp] theorem Sys.advance_ports (n : Nat) : (s.advance n).ports = s.ports := rfl
@[simp] theorem Sys.advance_sw (n : Nat) : (s.advance n).sw = s.sw := rfl
@[simp] theorem Sys.advance_flows (n : Nat) : (s.advance n).flows = s.flows := rfl
@[simp] theorem Sys.advance_coll (n : Nat) : (s.advance n).coll = s.coll := rfl
@[simp] theorem Sys.advance_graphs (n : Nat) : (s.advance n).graphs = s.graphs := rfl
@[simp] theorem Sys.advance_bc (n : Nat) : (s.advance n).bc = s.bc := rfl
@[simp] theorem Sys.advance_vault (n : Nat) : (s.advance n).vault = s.vault := rfl
@[simp] theorem Sys.advance_ocs (n : Nat) : (s.advance n).ocs = s.ocs := rfl
@[simp] theorem Sys.advance_mem (n : Nat) : (s.advance n).mem = s.mem := rfl
@[simp] theorem Sys.advance_felt (n : Nat) : (s.advance n).felt = s.felt := rfl
@[simp] theorem Sys.advance_hearth (n : Nat) : (s.advance n).hearth = s.hearth := rfl
@[simp] theorem Sys.advance_sec (n : Nat) : (s.advance n).sec = s.sec := rfl
@[simp] theorem Sys.advance_cnt (n : Nat) : (s.advance n).cnt = s.cnt := rfl

@[simp] theorem Sys.tick_out : (s.tick).out = s.out := rfl
@[simp] theorem Sys.tick_free : (s.tick).free = s.free := rfl
@[simp] theorem Sys.tick_boot : (s.tick).boot = s.boot := rfl
@[simp] theorem Sys.tick_nv : (s.tick).nv = s.nv := rfl
@[simp] theorem Sys.tick_jr : (s.tick).jr = s.jr := rfl
@[simp] theorem Sys.tick_mg : (s.tick).mg = s.mg := rfl
@[simp] theorem Sys.tick_tab : (s.tick).tab = s.tab := rfl
@[simp] theorem Sys.tick_fwd : (s.tick).fwd = s.fwd := rfl
@[simp] theorem Sys.tick_ports : (s.tick).ports = s.ports := rfl
@[simp] theorem Sys.tick_sw : (s.tick).sw = s.sw := rfl
@[simp] theorem Sys.tick_flows : (s.tick).flows = s.flows := rfl
@[simp] theorem Sys.tick_coll : (s.tick).coll = s.coll := rfl
@[simp] theorem Sys.tick_graphs : (s.tick).graphs = s.graphs := rfl
@[simp] theorem Sys.tick_bc : (s.tick).bc = s.bc := rfl
@[simp] theorem Sys.tick_vault : (s.tick).vault = s.vault := rfl
@[simp] theorem Sys.tick_ocs : (s.tick).ocs = s.ocs := rfl
@[simp] theorem Sys.tick_mem : (s.tick).mem = s.mem := rfl
@[simp] theorem Sys.tick_felt : (s.tick).felt = s.felt := rfl
@[simp] theorem Sys.tick_hearth : (s.tick).hearth = s.hearth := rfl
@[simp] theorem Sys.tick_sec : (s.tick).sec = s.sec := rfl
@[simp] theorem Sys.tick_cnt : (s.tick).cnt = s.cnt := rfl

@[simp] theorem Sys.toExt_out (t : Word64) : (s.toExt t).out = s.out := by unfold Sys.toExt; split <;> rfl
@[simp] theorem Sys.toExt_free (t : Word64) : (s.toExt t).free = s.free := by unfold Sys.toExt; split <;> rfl
@[simp] theorem Sys.toExt_boot (t : Word64) : (s.toExt t).boot = s.boot := by unfold Sys.toExt; split <;> rfl
@[simp] theorem Sys.toExt_nv (t : Word64) : (s.toExt t).nv = s.nv := by unfold Sys.toExt; split <;> rfl
@[simp] theorem Sys.toExt_jr (t : Word64) : (s.toExt t).jr = s.jr := by unfold Sys.toExt; split <;> rfl
@[simp] theorem Sys.toExt_mg (t : Word64) : (s.toExt t).mg = s.mg := by unfold Sys.toExt; split <;> rfl
@[simp] theorem Sys.toExt_tab (t : Word64) : (s.toExt t).tab = s.tab := by unfold Sys.toExt; split <;> rfl
@[simp] theorem Sys.toExt_fwd (t : Word64) : (s.toExt t).fwd = s.fwd := by unfold Sys.toExt; split <;> rfl
@[simp] theorem Sys.toExt_ports (t : Word64) : (s.toExt t).ports = s.ports := by unfold Sys.toExt; split <;> rfl
@[simp] theorem Sys.toExt_sw (t : Word64) : (s.toExt t).sw = s.sw := by unfold Sys.toExt; split <;> rfl
@[simp] theorem Sys.toExt_flows (t : Word64) : (s.toExt t).flows = s.flows := by unfold Sys.toExt; split <;> rfl
@[simp] theorem Sys.toExt_coll (t : Word64) : (s.toExt t).coll = s.coll := by unfold Sys.toExt; split <;> rfl
@[simp] theorem Sys.toExt_graphs (t : Word64) : (s.toExt t).graphs = s.graphs := by unfold Sys.toExt; split <;> rfl
@[simp] theorem Sys.toExt_bc (t : Word64) : (s.toExt t).bc = s.bc := by unfold Sys.toExt; split <;> rfl
@[simp] theorem Sys.toExt_vault (t : Word64) : (s.toExt t).vault = s.vault := by unfold Sys.toExt; split <;> rfl
@[simp] theorem Sys.toExt_ocs (t : Word64) : (s.toExt t).ocs = s.ocs := by unfold Sys.toExt; split <;> rfl
@[simp] theorem Sys.toExt_mem (t : Word64) : (s.toExt t).mem = s.mem := by unfold Sys.toExt; split <;> rfl
@[simp] theorem Sys.toExt_felt (t : Word64) : (s.toExt t).felt = s.felt := by unfold Sys.toExt; split <;> rfl
@[simp] theorem Sys.toExt_hearth (t : Word64) : (s.toExt t).hearth = s.hearth := by unfold Sys.toExt; split <;> rfl
@[simp] theorem Sys.toExt_sec (t : Word64) : (s.toExt t).sec = s.sec := by unfold Sys.toExt; split <;> rfl
@[simp] theorem Sys.toExt_cnt (t : Word64) : (s.toExt t).cnt = s.cnt := by unfold Sys.toExt; split <;> rfl

@[simp] theorem Sys.toMono_out (t : Nat) : (s.toMono t).out = s.out := rfl
@[simp] theorem Sys.toMono_free (t : Nat) : (s.toMono t).free = s.free := rfl
@[simp] theorem Sys.toMono_boot (t : Nat) : (s.toMono t).boot = s.boot := rfl
@[simp] theorem Sys.toMono_nv (t : Nat) : (s.toMono t).nv = s.nv := rfl
@[simp] theorem Sys.toMono_jr (t : Nat) : (s.toMono t).jr = s.jr := rfl
@[simp] theorem Sys.toMono_mg (t : Nat) : (s.toMono t).mg = s.mg := rfl
@[simp] theorem Sys.toMono_tab (t : Nat) : (s.toMono t).tab = s.tab := rfl
@[simp] theorem Sys.toMono_fwd (t : Nat) : (s.toMono t).fwd = s.fwd := rfl
@[simp] theorem Sys.toMono_ports (t : Nat) : (s.toMono t).ports = s.ports := rfl
@[simp] theorem Sys.toMono_sw (t : Nat) : (s.toMono t).sw = s.sw := rfl
@[simp] theorem Sys.toMono_flows (t : Nat) : (s.toMono t).flows = s.flows := rfl
@[simp] theorem Sys.toMono_coll (t : Nat) : (s.toMono t).coll = s.coll := rfl
@[simp] theorem Sys.toMono_graphs (t : Nat) : (s.toMono t).graphs = s.graphs := rfl
@[simp] theorem Sys.toMono_bc (t : Nat) : (s.toMono t).bc = s.bc := rfl
@[simp] theorem Sys.toMono_vault (t : Nat) : (s.toMono t).vault = s.vault := rfl
@[simp] theorem Sys.toMono_ocs (t : Nat) : (s.toMono t).ocs = s.ocs := rfl
@[simp] theorem Sys.toMono_mem (t : Nat) : (s.toMono t).mem = s.mem := rfl
@[simp] theorem Sys.toMono_felt (t : Nat) : (s.toMono t).felt = s.felt := rfl
@[simp] theorem Sys.toMono_hearth (t : Nat) : (s.toMono t).hearth = s.hearth := rfl
@[simp] theorem Sys.toMono_sec (t : Nat) : (s.toMono t).sec = s.sec := rfl
@[simp] theorem Sys.toMono_cnt (t : Nat) : (s.toMono t).cnt = s.cnt := rfl

@[simp] theorem Sys.toEnd_out (i : Interval) : (s.toEnd i).out = s.out := rfl
@[simp] theorem Sys.toEnd_free (i : Interval) : (s.toEnd i).free = s.free := rfl
@[simp] theorem Sys.toEnd_boot (i : Interval) : (s.toEnd i).boot = s.boot := rfl
@[simp] theorem Sys.toEnd_nv (i : Interval) : (s.toEnd i).nv = s.nv := rfl
@[simp] theorem Sys.toEnd_jr (i : Interval) : (s.toEnd i).jr = s.jr := rfl
@[simp] theorem Sys.toEnd_mg (i : Interval) : (s.toEnd i).mg = s.mg := rfl
@[simp] theorem Sys.toEnd_tab (i : Interval) : (s.toEnd i).tab = s.tab := rfl
@[simp] theorem Sys.toEnd_fwd (i : Interval) : (s.toEnd i).fwd = s.fwd := rfl
@[simp] theorem Sys.toEnd_ports (i : Interval) : (s.toEnd i).ports = s.ports := rfl
@[simp] theorem Sys.toEnd_sw (i : Interval) : (s.toEnd i).sw = s.sw := rfl
@[simp] theorem Sys.toEnd_flows (i : Interval) : (s.toEnd i).flows = s.flows := rfl
@[simp] theorem Sys.toEnd_coll (i : Interval) : (s.toEnd i).coll = s.coll := rfl
@[simp] theorem Sys.toEnd_graphs (i : Interval) : (s.toEnd i).graphs = s.graphs := rfl
@[simp] theorem Sys.toEnd_bc (i : Interval) : (s.toEnd i).bc = s.bc := rfl
@[simp] theorem Sys.toEnd_vault (i : Interval) : (s.toEnd i).vault = s.vault := rfl
@[simp] theorem Sys.toEnd_ocs (i : Interval) : (s.toEnd i).ocs = s.ocs := rfl
@[simp] theorem Sys.toEnd_mem (i : Interval) : (s.toEnd i).mem = s.mem := rfl
@[simp] theorem Sys.toEnd_felt (i : Interval) : (s.toEnd i).felt = s.felt := rfl
@[simp] theorem Sys.toEnd_hearth (i : Interval) : (s.toEnd i).hearth = s.hearth := rfl
@[simp] theorem Sys.toEnd_sec (i : Interval) : (s.toEnd i).sec = s.sec := rfl
@[simp] theorem Sys.toEnd_cnt (i : Interval) : (s.toEnd i).cnt = s.cnt := rfl

@[simp] theorem Sys.count_out (f k i n : Nat) : (s.count f k i n).out = s.out := by unfold Sys.count; split <;> rfl
@[simp] theorem Sys.count_free (f k i n : Nat) : (s.count f k i n).free = s.free := by unfold Sys.count; split <;> rfl
@[simp] theorem Sys.count_clk (f k i n : Nat) : (s.count f k i n).clk = s.clk := by unfold Sys.count; split <;> rfl
@[simp] theorem Sys.count_boot (f k i n : Nat) : (s.count f k i n).boot = s.boot := by unfold Sys.count; split <;> rfl
@[simp] theorem Sys.count_nv (f k i n : Nat) : (s.count f k i n).nv = s.nv := by unfold Sys.count; split <;> rfl
@[simp] theorem Sys.count_jr (f k i n : Nat) : (s.count f k i n).jr = s.jr := by unfold Sys.count; split <;> rfl
@[simp] theorem Sys.count_mg (f k i n : Nat) : (s.count f k i n).mg = s.mg := by unfold Sys.count; split <;> rfl
@[simp] theorem Sys.count_tab (f k i n : Nat) : (s.count f k i n).tab = s.tab := by unfold Sys.count; split <;> rfl
@[simp] theorem Sys.count_fwd (f k i n : Nat) : (s.count f k i n).fwd = s.fwd := by unfold Sys.count; split <;> rfl
@[simp] theorem Sys.count_ports (f k i n : Nat) : (s.count f k i n).ports = s.ports := by unfold Sys.count; split <;> rfl
@[simp] theorem Sys.count_sw (f k i n : Nat) : (s.count f k i n).sw = s.sw := by unfold Sys.count; split <;> rfl
@[simp] theorem Sys.count_flows (f k i n : Nat) : (s.count f k i n).flows = s.flows := by unfold Sys.count; split <;> rfl
@[simp] theorem Sys.count_coll (f k i n : Nat) : (s.count f k i n).coll = s.coll := by unfold Sys.count; split <;> rfl
@[simp] theorem Sys.count_graphs (f k i n : Nat) : (s.count f k i n).graphs = s.graphs := by unfold Sys.count; split <;> rfl
@[simp] theorem Sys.count_bc (f k i n : Nat) : (s.count f k i n).bc = s.bc := by unfold Sys.count; split <;> rfl
@[simp] theorem Sys.count_vault (f k i n : Nat) : (s.count f k i n).vault = s.vault := by unfold Sys.count; split <;> rfl
@[simp] theorem Sys.count_ocs (f k i n : Nat) : (s.count f k i n).ocs = s.ocs := by unfold Sys.count; split <;> rfl
@[simp] theorem Sys.count_mem (f k i n : Nat) : (s.count f k i n).mem = s.mem := by unfold Sys.count; split <;> rfl
@[simp] theorem Sys.count_felt (f k i n : Nat) : (s.count f k i n).felt = s.felt := by unfold Sys.count; split <;> rfl
@[simp] theorem Sys.count_hearth (f k i n : Nat) : (s.count f k i n).hearth = s.hearth := by unfold Sys.count; split <;> rfl
@[simp] theorem Sys.count_sec (f k i n : Nat) : (s.count f k i n).sec = s.sec := by unfold Sys.count; split <;> rfl

@[simp] theorem Sys.event_out (u c p n : Nat) : (s.event u c p n).out = s.out := by unfold Sys.event; dsimp only; (repeat' split) <;> rfl
@[simp] theorem Sys.event_free (u c p n : Nat) : (s.event u c p n).free = s.free := by unfold Sys.event; dsimp only; (repeat' split) <;> rfl
@[simp] theorem Sys.event_clk (u c p n : Nat) : (s.event u c p n).clk = s.clk := by unfold Sys.event; dsimp only; (repeat' split) <;> rfl
@[simp] theorem Sys.event_boot (u c p n : Nat) : (s.event u c p n).boot = s.boot := by unfold Sys.event; dsimp only; (repeat' split) <;> rfl
@[simp] theorem Sys.event_nv (u c p n : Nat) : (s.event u c p n).nv = s.nv := by unfold Sys.event; dsimp only; (repeat' split) <;> rfl
@[simp] theorem Sys.event_jr (u c p n : Nat) : (s.event u c p n).jr = s.jr := by unfold Sys.event; dsimp only; (repeat' split) <;> rfl
@[simp] theorem Sys.event_mg (u c p n : Nat) : (s.event u c p n).mg = s.mg := by unfold Sys.event; dsimp only; (repeat' split) <;> rfl
@[simp] theorem Sys.event_tab (u c p n : Nat) : (s.event u c p n).tab = s.tab := by unfold Sys.event; dsimp only; (repeat' split) <;> rfl
@[simp] theorem Sys.event_fwd (u c p n : Nat) : (s.event u c p n).fwd = s.fwd := by unfold Sys.event; dsimp only; (repeat' split) <;> rfl
@[simp] theorem Sys.event_ports (u c p n : Nat) : (s.event u c p n).ports = s.ports := by unfold Sys.event; dsimp only; (repeat' split) <;> rfl
@[simp] theorem Sys.event_sw (u c p n : Nat) : (s.event u c p n).sw = s.sw := by unfold Sys.event; dsimp only; (repeat' split) <;> rfl
@[simp] theorem Sys.event_flows (u c p n : Nat) : (s.event u c p n).flows = s.flows := by unfold Sys.event; dsimp only; (repeat' split) <;> rfl
@[simp] theorem Sys.event_coll (u c p n : Nat) : (s.event u c p n).coll = s.coll := by unfold Sys.event; dsimp only; (repeat' split) <;> rfl
@[simp] theorem Sys.event_graphs (u c p n : Nat) : (s.event u c p n).graphs = s.graphs := by unfold Sys.event; dsimp only; (repeat' split) <;> rfl
@[simp] theorem Sys.event_bc (u c p n : Nat) : (s.event u c p n).bc = s.bc := by unfold Sys.event; dsimp only; (repeat' split) <;> rfl
@[simp] theorem Sys.event_vault (u c p n : Nat) : (s.event u c p n).vault = s.vault := by unfold Sys.event; dsimp only; (repeat' split) <;> rfl
@[simp] theorem Sys.event_ocs (u c p n : Nat) : (s.event u c p n).ocs = s.ocs := by unfold Sys.event; dsimp only; (repeat' split) <;> rfl
@[simp] theorem Sys.event_mem (u c p n : Nat) : (s.event u c p n).mem = s.mem := by unfold Sys.event; dsimp only; (repeat' split) <;> rfl
@[simp] theorem Sys.event_felt (u c p n : Nat) : (s.event u c p n).felt = s.felt := by unfold Sys.event; dsimp only; (repeat' split) <;> rfl
@[simp] theorem Sys.event_hearth (u c p n : Nat) : (s.event u c p n).hearth = s.hearth := by unfold Sys.event; dsimp only; (repeat' split) <;> rfl
@[simp] theorem Sys.event_sec (u c p n : Nat) : (s.event u c p n).sec = s.sec := by unfold Sys.event; dsimp only; (repeat' split) <;> rfl

@[simp] theorem Sys.msix_free (v : Nat) : (s.msix v).free = s.free := by unfold Sys.msix; (repeat' split) <;> rfl
@[simp] theorem Sys.msix_clk (v : Nat) : (s.msix v).clk = s.clk := by unfold Sys.msix; (repeat' split) <;> rfl
@[simp] theorem Sys.msix_boot (v : Nat) : (s.msix v).boot = s.boot := by unfold Sys.msix; (repeat' split) <;> rfl
@[simp] theorem Sys.msix_nv (v : Nat) : (s.msix v).nv = s.nv := by unfold Sys.msix; (repeat' split) <;> rfl
@[simp] theorem Sys.msix_jr (v : Nat) : (s.msix v).jr = s.jr := by unfold Sys.msix; (repeat' split) <;> rfl
@[simp] theorem Sys.msix_slots (v : Nat) : (s.msix v).mg.slots = s.mg.slots := by unfold Sys.msix; (repeat' split) <;> rfl
@[simp] theorem Sys.msix_lastAbort (v : Nat) : (s.msix v).mg.lastAbort = s.mg.lastAbort := by unfold Sys.msix; (repeat' split) <;> rfl
@[simp] theorem Sys.msix_tab (v : Nat) : (s.msix v).tab = s.tab := by unfold Sys.msix; (repeat' split) <;> rfl
@[simp] theorem Sys.msix_fwd (v : Nat) : (s.msix v).fwd = s.fwd := by unfold Sys.msix; (repeat' split) <;> rfl
@[simp] theorem Sys.msix_ports (v : Nat) : (s.msix v).ports = s.ports := by unfold Sys.msix; (repeat' split) <;> rfl
@[simp] theorem Sys.msix_sw (v : Nat) : (s.msix v).sw = s.sw := by unfold Sys.msix; (repeat' split) <;> rfl
@[simp] theorem Sys.msix_flows (v : Nat) : (s.msix v).flows = s.flows := by unfold Sys.msix; (repeat' split) <;> rfl
@[simp] theorem Sys.msix_coll (v : Nat) : (s.msix v).coll = s.coll := by unfold Sys.msix; (repeat' split) <;> rfl
@[simp] theorem Sys.msix_graphs (v : Nat) : (s.msix v).graphs = s.graphs := by unfold Sys.msix; (repeat' split) <;> rfl
@[simp] theorem Sys.msix_bc (v : Nat) : (s.msix v).bc = s.bc := by unfold Sys.msix; (repeat' split) <;> rfl
@[simp] theorem Sys.msix_vault (v : Nat) : (s.msix v).vault = s.vault := by unfold Sys.msix; (repeat' split) <;> rfl
@[simp] theorem Sys.msix_ocs (v : Nat) : (s.msix v).ocs = s.ocs := by unfold Sys.msix; (repeat' split) <;> rfl
@[simp] theorem Sys.msix_mem (v : Nat) : (s.msix v).mem = s.mem := by unfold Sys.msix; (repeat' split) <;> rfl
@[simp] theorem Sys.msix_felt (v : Nat) : (s.msix v).felt = s.felt := by unfold Sys.msix; (repeat' split) <;> rfl
@[simp] theorem Sys.msix_hearth (v : Nat) : (s.msix v).hearth = s.hearth := by unfold Sys.msix; (repeat' split) <;> rfl
@[simp] theorem Sys.msix_sec (v : Nat) : (s.msix v).sec = s.sec := by unfold Sys.msix; (repeat' split) <;> rfl
@[simp] theorem Sys.msix_cnt (v : Nat) : (s.msix v).cnt = s.cnt := by unfold Sys.msix; (repeat' split) <;> rfl

@[simp] theorem Sys.jrnl_out : (s.jrnl).out = s.out := by simp [Sys.jrnl]
@[simp] theorem Sys.jrnl_free : (s.jrnl).free = s.free := by simp [Sys.jrnl]
@[simp] theorem Sys.jrnl_clk : (s.jrnl).clk = s.clk := by simp [Sys.jrnl]
@[simp] theorem Sys.jrnl_boot : (s.jrnl).boot = s.boot := by simp [Sys.jrnl]
@[simp] theorem Sys.jrnl_nv : (s.jrnl).nv = s.nv := by simp [Sys.jrnl]
@[simp] theorem Sys.jrnl_mg : (s.jrnl).mg = s.mg := by simp [Sys.jrnl]
@[simp] theorem Sys.jrnl_tab : (s.jrnl).tab = s.tab := by simp [Sys.jrnl]
@[simp] theorem Sys.jrnl_fwd : (s.jrnl).fwd = s.fwd := by simp [Sys.jrnl]
@[simp] theorem Sys.jrnl_ports : (s.jrnl).ports = s.ports := by simp [Sys.jrnl]
@[simp] theorem Sys.jrnl_sw : (s.jrnl).sw = s.sw := by simp [Sys.jrnl]
@[simp] theorem Sys.jrnl_flows : (s.jrnl).flows = s.flows := by simp [Sys.jrnl]
@[simp] theorem Sys.jrnl_coll : (s.jrnl).coll = s.coll := by simp [Sys.jrnl]
@[simp] theorem Sys.jrnl_graphs : (s.jrnl).graphs = s.graphs := by simp [Sys.jrnl]
@[simp] theorem Sys.jrnl_bc : (s.jrnl).bc = s.bc := by simp [Sys.jrnl]
@[simp] theorem Sys.jrnl_vault : (s.jrnl).vault = s.vault := by simp [Sys.jrnl]
@[simp] theorem Sys.jrnl_ocs : (s.jrnl).ocs = s.ocs := by simp [Sys.jrnl]
@[simp] theorem Sys.jrnl_mem : (s.jrnl).mem = s.mem := by simp [Sys.jrnl]
@[simp] theorem Sys.jrnl_felt : (s.jrnl).felt = s.felt := by simp [Sys.jrnl]
@[simp] theorem Sys.jrnl_hearth : (s.jrnl).hearth = s.hearth := by simp [Sys.jrnl]
@[simp] theorem Sys.jrnl_sec : (s.jrnl).sec = s.sec := by simp [Sys.jrnl]

@[simp] theorem Sys.countError_free (t : BitVec 8) (u : Nat) (c : Word) : (s.countError t u c).free = s.free := by unfold Sys.countError; (repeat' split) <;> simp
@[simp] theorem Sys.countError_clk (t : BitVec 8) (u : Nat) (c : Word) : (s.countError t u c).clk = s.clk := by unfold Sys.countError; (repeat' split) <;> simp
@[simp] theorem Sys.countError_boot (t : BitVec 8) (u : Nat) (c : Word) : (s.countError t u c).boot = s.boot := by unfold Sys.countError; (repeat' split) <;> simp
@[simp] theorem Sys.countError_mg (t : BitVec 8) (u : Nat) (c : Word) : (s.countError t u c).mg = s.mg := by unfold Sys.countError; (repeat' split) <;> simp
@[simp] theorem Sys.countError_tab (t : BitVec 8) (u : Nat) (c : Word) : (s.countError t u c).tab = s.tab := by unfold Sys.countError; (repeat' split) <;> simp
@[simp] theorem Sys.countError_fwd (t : BitVec 8) (u : Nat) (c : Word) : (s.countError t u c).fwd = s.fwd := by unfold Sys.countError; (repeat' split) <;> simp
@[simp] theorem Sys.countError_ports (t : BitVec 8) (u : Nat) (c : Word) : (s.countError t u c).ports = s.ports := by unfold Sys.countError; (repeat' split) <;> simp
@[simp] theorem Sys.countError_sw (t : BitVec 8) (u : Nat) (c : Word) : (s.countError t u c).sw = s.sw := by unfold Sys.countError; (repeat' split) <;> simp
@[simp] theorem Sys.countError_flows (t : BitVec 8) (u : Nat) (c : Word) : (s.countError t u c).flows = s.flows := by unfold Sys.countError; (repeat' split) <;> simp
@[simp] theorem Sys.countError_coll (t : BitVec 8) (u : Nat) (c : Word) : (s.countError t u c).coll = s.coll := by unfold Sys.countError; (repeat' split) <;> simp
@[simp] theorem Sys.countError_graphs (t : BitVec 8) (u : Nat) (c : Word) : (s.countError t u c).graphs = s.graphs := by unfold Sys.countError; (repeat' split) <;> simp
@[simp] theorem Sys.countError_bc (t : BitVec 8) (u : Nat) (c : Word) : (s.countError t u c).bc = s.bc := by unfold Sys.countError; (repeat' split) <;> simp
@[simp] theorem Sys.countError_vault (t : BitVec 8) (u : Nat) (c : Word) : (s.countError t u c).vault = s.vault := by unfold Sys.countError; (repeat' split) <;> simp
@[simp] theorem Sys.countError_ocs (t : BitVec 8) (u : Nat) (c : Word) : (s.countError t u c).ocs = s.ocs := by unfold Sys.countError; (repeat' split) <;> simp
@[simp] theorem Sys.countError_mem (t : BitVec 8) (u : Nat) (c : Word) : (s.countError t u c).mem = s.mem := by unfold Sys.countError; (repeat' split) <;> simp
@[simp] theorem Sys.countError_felt (t : BitVec 8) (u : Nat) (c : Word) : (s.countError t u c).felt = s.felt := by unfold Sys.countError; (repeat' split) <;> simp
@[simp] theorem Sys.countError_hearth (t : BitVec 8) (u : Nat) (c : Word) : (s.countError t u c).hearth = s.hearth := by unfold Sys.countError; (repeat' split) <;> simp
@[simp] theorem Sys.countError_sec (t : BitVec 8) (u : Nat) (c : Word) : (s.countError t u c).sec = s.sec := by unfold Sys.countError; (repeat' split) <;> simp

@[simp] theorem Sys.log_free (c : Word) (t : BitVec 8) (u p k : Nat) (a : Word64) (d : List Word) : (s.log c t u p k a d).free = s.free := by unfold Sys.log Sys.record; dsimp only; (repeat' split) <;> simp
@[simp] theorem Sys.log_clk (c : Word) (t : BitVec 8) (u p k : Nat) (a : Word64) (d : List Word) : (s.log c t u p k a d).clk = s.clk := by unfold Sys.log Sys.record; dsimp only; (repeat' split) <;> simp
@[simp] theorem Sys.log_boot (c : Word) (t : BitVec 8) (u p k : Nat) (a : Word64) (d : List Word) : (s.log c t u p k a d).boot = s.boot := by unfold Sys.log Sys.record; dsimp only; (repeat' split) <;> simp
@[simp] theorem Sys.log_slots (c : Word) (t : BitVec 8) (u p k : Nat) (a : Word64) (d : List Word) : (s.log c t u p k a d).mg.slots = s.mg.slots := by unfold Sys.log Sys.record; dsimp only; (repeat' split) <;> simp
@[simp] theorem Sys.log_lastAbort (c : Word) (t : BitVec 8) (u p k : Nat) (a : Word64) (d : List Word) : (s.log c t u p k a d).mg.lastAbort = s.mg.lastAbort := by unfold Sys.log Sys.record; dsimp only; (repeat' split) <;> simp
@[simp] theorem Sys.log_tab (c : Word) (t : BitVec 8) (u p k : Nat) (a : Word64) (d : List Word) : (s.log c t u p k a d).tab = s.tab := by unfold Sys.log Sys.record; dsimp only; (repeat' split) <;> simp
@[simp] theorem Sys.log_fwd (c : Word) (t : BitVec 8) (u p k : Nat) (a : Word64) (d : List Word) : (s.log c t u p k a d).fwd = s.fwd := by unfold Sys.log Sys.record; dsimp only; (repeat' split) <;> simp
@[simp] theorem Sys.log_ports (c : Word) (t : BitVec 8) (u p k : Nat) (a : Word64) (d : List Word) : (s.log c t u p k a d).ports = s.ports := by unfold Sys.log Sys.record; dsimp only; (repeat' split) <;> simp
@[simp] theorem Sys.log_sw (c : Word) (t : BitVec 8) (u p k : Nat) (a : Word64) (d : List Word) : (s.log c t u p k a d).sw = s.sw := by unfold Sys.log Sys.record; dsimp only; (repeat' split) <;> simp
@[simp] theorem Sys.log_flows (c : Word) (t : BitVec 8) (u p k : Nat) (a : Word64) (d : List Word) : (s.log c t u p k a d).flows = s.flows := by unfold Sys.log Sys.record; dsimp only; (repeat' split) <;> simp
@[simp] theorem Sys.log_coll (c : Word) (t : BitVec 8) (u p k : Nat) (a : Word64) (d : List Word) : (s.log c t u p k a d).coll = s.coll := by unfold Sys.log Sys.record; dsimp only; (repeat' split) <;> simp
@[simp] theorem Sys.log_graphs (c : Word) (t : BitVec 8) (u p k : Nat) (a : Word64) (d : List Word) : (s.log c t u p k a d).graphs = s.graphs := by unfold Sys.log Sys.record; dsimp only; (repeat' split) <;> simp
@[simp] theorem Sys.log_bc (c : Word) (t : BitVec 8) (u p k : Nat) (a : Word64) (d : List Word) : (s.log c t u p k a d).bc = s.bc := by unfold Sys.log Sys.record; dsimp only; (repeat' split) <;> simp
@[simp] theorem Sys.log_vault (c : Word) (t : BitVec 8) (u p k : Nat) (a : Word64) (d : List Word) : (s.log c t u p k a d).vault = s.vault := by unfold Sys.log Sys.record; dsimp only; (repeat' split) <;> simp
@[simp] theorem Sys.log_ocs (c : Word) (t : BitVec 8) (u p k : Nat) (a : Word64) (d : List Word) : (s.log c t u p k a d).ocs = s.ocs := by unfold Sys.log Sys.record; dsimp only; (repeat' split) <;> simp
@[simp] theorem Sys.log_mem (c : Word) (t : BitVec 8) (u p k : Nat) (a : Word64) (d : List Word) : (s.log c t u p k a d).mem = s.mem := by unfold Sys.log Sys.record; dsimp only; (repeat' split) <;> simp
@[simp] theorem Sys.log_felt (c : Word) (t : BitVec 8) (u p k : Nat) (a : Word64) (d : List Word) : (s.log c t u p k a d).felt = s.felt := by unfold Sys.log Sys.record; dsimp only; (repeat' split) <;> simp
@[simp] theorem Sys.log_hearth (c : Word) (t : BitVec 8) (u p k : Nat) (a : Word64) (d : List Word) : (s.log c t u p k a d).hearth = s.hearth := by unfold Sys.log Sys.record; dsimp only; (repeat' split) <;> simp
@[simp] theorem Sys.log_sec (c : Word) (t : BitVec 8) (u p k : Nat) (a : Word64) (d : List Word) : (s.log c t u p k a d).sec = s.sec := by unfold Sys.log Sys.record; dsimp only; (repeat' split) <;> simp

@[simp] theorem Sys.reqError_free (p : Path) (c : Word) (k : Nat) (a : Word64) (o : Nat) : (s.reqError p c k a o).free = s.free := by unfold Sys.reqError Sys.reqErrorKey; dsimp only; (repeat' split) <;> simp
@[simp] theorem Sys.reqError_clk (p : Path) (c : Word) (k : Nat) (a : Word64) (o : Nat) : (s.reqError p c k a o).clk = s.clk := by unfold Sys.reqError Sys.reqErrorKey; dsimp only; (repeat' split) <;> simp
@[simp] theorem Sys.reqError_boot (p : Path) (c : Word) (k : Nat) (a : Word64) (o : Nat) : (s.reqError p c k a o).boot = s.boot := by unfold Sys.reqError Sys.reqErrorKey; dsimp only; (repeat' split) <;> simp
@[simp] theorem Sys.reqError_tab (p : Path) (c : Word) (k : Nat) (a : Word64) (o : Nat) : (s.reqError p c k a o).tab = s.tab := by unfold Sys.reqError Sys.reqErrorKey; dsimp only; (repeat' split) <;> simp
@[simp] theorem Sys.reqError_fwd (p : Path) (c : Word) (k : Nat) (a : Word64) (o : Nat) : (s.reqError p c k a o).fwd = s.fwd := by unfold Sys.reqError Sys.reqErrorKey; dsimp only; (repeat' split) <;> simp
@[simp] theorem Sys.reqError_ports (p : Path) (c : Word) (k : Nat) (a : Word64) (o : Nat) : (s.reqError p c k a o).ports = s.ports := by unfold Sys.reqError Sys.reqErrorKey; dsimp only; (repeat' split) <;> simp
@[simp] theorem Sys.reqError_sw (p : Path) (c : Word) (k : Nat) (a : Word64) (o : Nat) : (s.reqError p c k a o).sw = s.sw := by unfold Sys.reqError Sys.reqErrorKey; dsimp only; (repeat' split) <;> simp
@[simp] theorem Sys.reqError_flows (p : Path) (c : Word) (k : Nat) (a : Word64) (o : Nat) : (s.reqError p c k a o).flows = s.flows := by unfold Sys.reqError Sys.reqErrorKey; dsimp only; (repeat' split) <;> simp
@[simp] theorem Sys.reqError_coll (p : Path) (c : Word) (k : Nat) (a : Word64) (o : Nat) : (s.reqError p c k a o).coll = s.coll := by unfold Sys.reqError Sys.reqErrorKey; dsimp only; (repeat' split) <;> simp
@[simp] theorem Sys.reqError_graphs (p : Path) (c : Word) (k : Nat) (a : Word64) (o : Nat) : (s.reqError p c k a o).graphs = s.graphs := by unfold Sys.reqError Sys.reqErrorKey; dsimp only; (repeat' split) <;> simp
@[simp] theorem Sys.reqError_bc (p : Path) (c : Word) (k : Nat) (a : Word64) (o : Nat) : (s.reqError p c k a o).bc = s.bc := by unfold Sys.reqError Sys.reqErrorKey; dsimp only; (repeat' split) <;> simp
@[simp] theorem Sys.reqError_vault (p : Path) (c : Word) (k : Nat) (a : Word64) (o : Nat) : (s.reqError p c k a o).vault = s.vault := by unfold Sys.reqError Sys.reqErrorKey; dsimp only; (repeat' split) <;> simp
@[simp] theorem Sys.reqError_ocs (p : Path) (c : Word) (k : Nat) (a : Word64) (o : Nat) : (s.reqError p c k a o).ocs = s.ocs := by unfold Sys.reqError Sys.reqErrorKey; dsimp only; (repeat' split) <;> simp
@[simp] theorem Sys.reqError_mem (p : Path) (c : Word) (k : Nat) (a : Word64) (o : Nat) : (s.reqError p c k a o).mem = s.mem := by unfold Sys.reqError Sys.reqErrorKey; dsimp only; (repeat' split) <;> simp
@[simp] theorem Sys.reqError_felt (p : Path) (c : Word) (k : Nat) (a : Word64) (o : Nat) : (s.reqError p c k a o).felt = s.felt := by unfold Sys.reqError Sys.reqErrorKey; dsimp only; (repeat' split) <;> simp
@[simp] theorem Sys.reqError_hearth (p : Path) (c : Word) (k : Nat) (a : Word64) (o : Nat) : (s.reqError p c k a o).hearth = s.hearth := by unfold Sys.reqError Sys.reqErrorKey; dsimp only; (repeat' split) <;> simp
@[simp] theorem Sys.reqError_sec (p : Path) (c : Word) (k : Nat) (a : Word64) (o : Nat) : (s.reqError p c k a o).sec = s.sec := by unfold Sys.reqError Sys.reqErrorKey; dsimp only; (repeat' split) <;> simp

@[simp] theorem Sys.modSlot_out (o : SlotObj) (p : Path) (f : Slot → Slot) : (s.modSlot o p f).out = s.out := rfl
@[simp] theorem Sys.modSlot_free (o : SlotObj) (p : Path) (f : Slot → Slot) : (s.modSlot o p f).free = s.free := rfl
@[simp] theorem Sys.modSlot_clk (o : SlotObj) (p : Path) (f : Slot → Slot) : (s.modSlot o p f).clk = s.clk := rfl
@[simp] theorem Sys.modSlot_boot (o : SlotObj) (p : Path) (f : Slot → Slot) : (s.modSlot o p f).boot = s.boot := rfl
@[simp] theorem Sys.modSlot_nv (o : SlotObj) (p : Path) (f : Slot → Slot) : (s.modSlot o p f).nv = s.nv := rfl
@[simp] theorem Sys.modSlot_jr (o : SlotObj) (p : Path) (f : Slot → Slot) : (s.modSlot o p f).jr = s.jr := rfl
@[simp] theorem Sys.modSlot_tab (o : SlotObj) (p : Path) (f : Slot → Slot) : (s.modSlot o p f).tab = s.tab := rfl
@[simp] theorem Sys.modSlot_fwd (o : SlotObj) (p : Path) (f : Slot → Slot) : (s.modSlot o p f).fwd = s.fwd := rfl
@[simp] theorem Sys.modSlot_ports (o : SlotObj) (p : Path) (f : Slot → Slot) : (s.modSlot o p f).ports = s.ports := rfl
@[simp] theorem Sys.modSlot_sw (o : SlotObj) (p : Path) (f : Slot → Slot) : (s.modSlot o p f).sw = s.sw := rfl
@[simp] theorem Sys.modSlot_flows (o : SlotObj) (p : Path) (f : Slot → Slot) : (s.modSlot o p f).flows = s.flows := rfl
@[simp] theorem Sys.modSlot_coll (o : SlotObj) (p : Path) (f : Slot → Slot) : (s.modSlot o p f).coll = s.coll := rfl
@[simp] theorem Sys.modSlot_graphs (o : SlotObj) (p : Path) (f : Slot → Slot) : (s.modSlot o p f).graphs = s.graphs := rfl
@[simp] theorem Sys.modSlot_bc (o : SlotObj) (p : Path) (f : Slot → Slot) : (s.modSlot o p f).bc = s.bc := rfl
@[simp] theorem Sys.modSlot_vault (o : SlotObj) (p : Path) (f : Slot → Slot) : (s.modSlot o p f).vault = s.vault := rfl
@[simp] theorem Sys.modSlot_ocs (o : SlotObj) (p : Path) (f : Slot → Slot) : (s.modSlot o p f).ocs = s.ocs := rfl
@[simp] theorem Sys.modSlot_mem (o : SlotObj) (p : Path) (f : Slot → Slot) : (s.modSlot o p f).mem = s.mem := rfl
@[simp] theorem Sys.modSlot_felt (o : SlotObj) (p : Path) (f : Slot → Slot) : (s.modSlot o p f).felt = s.felt := rfl
@[simp] theorem Sys.modSlot_hearth (o : SlotObj) (p : Path) (f : Slot → Slot) : (s.modSlot o p f).hearth = s.hearth := rfl
@[simp] theorem Sys.modSlot_sec (o : SlotObj) (p : Path) (f : Slot → Slot) : (s.modSlot o p f).sec = s.sec := rfl
@[simp] theorem Sys.modSlot_cnt (o : SlotObj) (p : Path) (f : Slot → Slot) : (s.modSlot o p f).cnt = s.cnt := rfl

@[simp] theorem Sys.setArgs_out (o : SlotObj) (p : Path) (a : List (Nat × Word)) : (s.setArgs o p a).out = s.out := rfl
@[simp] theorem Sys.setArgs_free (o : SlotObj) (p : Path) (a : List (Nat × Word)) : (s.setArgs o p a).free = s.free := rfl
@[simp] theorem Sys.setArgs_clk (o : SlotObj) (p : Path) (a : List (Nat × Word)) : (s.setArgs o p a).clk = s.clk := rfl
@[simp] theorem Sys.setArgs_boot (o : SlotObj) (p : Path) (a : List (Nat × Word)) : (s.setArgs o p a).boot = s.boot := rfl
@[simp] theorem Sys.setArgs_nv (o : SlotObj) (p : Path) (a : List (Nat × Word)) : (s.setArgs o p a).nv = s.nv := rfl
@[simp] theorem Sys.setArgs_jr (o : SlotObj) (p : Path) (a : List (Nat × Word)) : (s.setArgs o p a).jr = s.jr := rfl
@[simp] theorem Sys.setArgs_tab (o : SlotObj) (p : Path) (a : List (Nat × Word)) : (s.setArgs o p a).tab = s.tab := rfl
@[simp] theorem Sys.setArgs_fwd (o : SlotObj) (p : Path) (a : List (Nat × Word)) : (s.setArgs o p a).fwd = s.fwd := rfl
@[simp] theorem Sys.setArgs_ports (o : SlotObj) (p : Path) (a : List (Nat × Word)) : (s.setArgs o p a).ports = s.ports := rfl
@[simp] theorem Sys.setArgs_sw (o : SlotObj) (p : Path) (a : List (Nat × Word)) : (s.setArgs o p a).sw = s.sw := rfl
@[simp] theorem Sys.setArgs_flows (o : SlotObj) (p : Path) (a : List (Nat × Word)) : (s.setArgs o p a).flows = s.flows := rfl
@[simp] theorem Sys.setArgs_coll (o : SlotObj) (p : Path) (a : List (Nat × Word)) : (s.setArgs o p a).coll = s.coll := rfl
@[simp] theorem Sys.setArgs_graphs (o : SlotObj) (p : Path) (a : List (Nat × Word)) : (s.setArgs o p a).graphs = s.graphs := rfl
@[simp] theorem Sys.setArgs_bc (o : SlotObj) (p : Path) (a : List (Nat × Word)) : (s.setArgs o p a).bc = s.bc := rfl
@[simp] theorem Sys.setArgs_vault (o : SlotObj) (p : Path) (a : List (Nat × Word)) : (s.setArgs o p a).vault = s.vault := rfl
@[simp] theorem Sys.setArgs_ocs (o : SlotObj) (p : Path) (a : List (Nat × Word)) : (s.setArgs o p a).ocs = s.ocs := rfl
@[simp] theorem Sys.setArgs_mem (o : SlotObj) (p : Path) (a : List (Nat × Word)) : (s.setArgs o p a).mem = s.mem := rfl
@[simp] theorem Sys.setArgs_felt (o : SlotObj) (p : Path) (a : List (Nat × Word)) : (s.setArgs o p a).felt = s.felt := rfl
@[simp] theorem Sys.setArgs_hearth (o : SlotObj) (p : Path) (a : List (Nat × Word)) : (s.setArgs o p a).hearth = s.hearth := rfl
@[simp] theorem Sys.setArgs_sec (o : SlotObj) (p : Path) (a : List (Nat × Word)) : (s.setArgs o p a).sec = s.sec := rfl
@[simp] theorem Sys.setArgs_cnt (o : SlotObj) (p : Path) (a : List (Nat × Word)) : (s.setArgs o p a).cnt = s.cnt := rfl

@[simp] theorem Sys.accept_out (o : SlotObj) (p : Path) (c : Word) (u : List Nat) : (s.accept o p c u).out = s.out := rfl
@[simp] theorem Sys.accept_free (o : SlotObj) (p : Path) (c : Word) (u : List Nat) : (s.accept o p c u).free = s.free := rfl
@[simp] theorem Sys.accept_clk (o : SlotObj) (p : Path) (c : Word) (u : List Nat) : (s.accept o p c u).clk = s.clk := rfl
@[simp] theorem Sys.accept_boot (o : SlotObj) (p : Path) (c : Word) (u : List Nat) : (s.accept o p c u).boot = s.boot := rfl
@[simp] theorem Sys.accept_nv (o : SlotObj) (p : Path) (c : Word) (u : List Nat) : (s.accept o p c u).nv = s.nv := rfl
@[simp] theorem Sys.accept_jr (o : SlotObj) (p : Path) (c : Word) (u : List Nat) : (s.accept o p c u).jr = s.jr := rfl
@[simp] theorem Sys.accept_tab (o : SlotObj) (p : Path) (c : Word) (u : List Nat) : (s.accept o p c u).tab = s.tab := rfl
@[simp] theorem Sys.accept_fwd (o : SlotObj) (p : Path) (c : Word) (u : List Nat) : (s.accept o p c u).fwd = s.fwd := rfl
@[simp] theorem Sys.accept_ports (o : SlotObj) (p : Path) (c : Word) (u : List Nat) : (s.accept o p c u).ports = s.ports := rfl
@[simp] theorem Sys.accept_sw (o : SlotObj) (p : Path) (c : Word) (u : List Nat) : (s.accept o p c u).sw = s.sw := rfl
@[simp] theorem Sys.accept_flows (o : SlotObj) (p : Path) (c : Word) (u : List Nat) : (s.accept o p c u).flows = s.flows := rfl
@[simp] theorem Sys.accept_coll (o : SlotObj) (p : Path) (c : Word) (u : List Nat) : (s.accept o p c u).coll = s.coll := rfl
@[simp] theorem Sys.accept_graphs (o : SlotObj) (p : Path) (c : Word) (u : List Nat) : (s.accept o p c u).graphs = s.graphs := rfl
@[simp] theorem Sys.accept_bc (o : SlotObj) (p : Path) (c : Word) (u : List Nat) : (s.accept o p c u).bc = s.bc := rfl
@[simp] theorem Sys.accept_vault (o : SlotObj) (p : Path) (c : Word) (u : List Nat) : (s.accept o p c u).vault = s.vault := rfl
@[simp] theorem Sys.accept_ocs (o : SlotObj) (p : Path) (c : Word) (u : List Nat) : (s.accept o p c u).ocs = s.ocs := rfl
@[simp] theorem Sys.accept_mem (o : SlotObj) (p : Path) (c : Word) (u : List Nat) : (s.accept o p c u).mem = s.mem := rfl
@[simp] theorem Sys.accept_felt (o : SlotObj) (p : Path) (c : Word) (u : List Nat) : (s.accept o p c u).felt = s.felt := rfl
@[simp] theorem Sys.accept_hearth (o : SlotObj) (p : Path) (c : Word) (u : List Nat) : (s.accept o p c u).hearth = s.hearth := rfl
@[simp] theorem Sys.accept_sec (o : SlotObj) (p : Path) (c : Word) (u : List Nat) : (s.accept o p c u).sec = s.sec := rfl
@[simp] theorem Sys.accept_cnt (o : SlotObj) (p : Path) (c : Word) (u : List Nat) : (s.accept o p c u).cnt = s.cnt := rfl

@[simp] theorem Sys.setSel_out (p : Path) (i j : Nat) (v : Word) : (s.setSel p i j v).out = s.out := rfl
@[simp] theorem Sys.setSel_free (p : Path) (i j : Nat) (v : Word) : (s.setSel p i j v).free = s.free := rfl
@[simp] theorem Sys.setSel_clk (p : Path) (i j : Nat) (v : Word) : (s.setSel p i j v).clk = s.clk := rfl
@[simp] theorem Sys.setSel_boot (p : Path) (i j : Nat) (v : Word) : (s.setSel p i j v).boot = s.boot := rfl
@[simp] theorem Sys.setSel_nv (p : Path) (i j : Nat) (v : Word) : (s.setSel p i j v).nv = s.nv := rfl
@[simp] theorem Sys.setSel_jr (p : Path) (i j : Nat) (v : Word) : (s.setSel p i j v).jr = s.jr := rfl
@[simp] theorem Sys.setSel_tab (p : Path) (i j : Nat) (v : Word) : (s.setSel p i j v).tab = s.tab := rfl
@[simp] theorem Sys.setSel_fwd (p : Path) (i j : Nat) (v : Word) : (s.setSel p i j v).fwd = s.fwd := rfl
@[simp] theorem Sys.setSel_ports (p : Path) (i j : Nat) (v : Word) : (s.setSel p i j v).ports = s.ports := rfl
@[simp] theorem Sys.setSel_sw (p : Path) (i j : Nat) (v : Word) : (s.setSel p i j v).sw = s.sw := rfl
@[simp] theorem Sys.setSel_flows (p : Path) (i j : Nat) (v : Word) : (s.setSel p i j v).flows = s.flows := rfl
@[simp] theorem Sys.setSel_coll (p : Path) (i j : Nat) (v : Word) : (s.setSel p i j v).coll = s.coll := rfl
@[simp] theorem Sys.setSel_graphs (p : Path) (i j : Nat) (v : Word) : (s.setSel p i j v).graphs = s.graphs := rfl
@[simp] theorem Sys.setSel_bc (p : Path) (i j : Nat) (v : Word) : (s.setSel p i j v).bc = s.bc := rfl
@[simp] theorem Sys.setSel_vault (p : Path) (i j : Nat) (v : Word) : (s.setSel p i j v).vault = s.vault := rfl
@[simp] theorem Sys.setSel_ocs (p : Path) (i j : Nat) (v : Word) : (s.setSel p i j v).ocs = s.ocs := rfl
@[simp] theorem Sys.setSel_mem (p : Path) (i j : Nat) (v : Word) : (s.setSel p i j v).mem = s.mem := rfl
@[simp] theorem Sys.setSel_felt (p : Path) (i j : Nat) (v : Word) : (s.setSel p i j v).felt = s.felt := rfl
@[simp] theorem Sys.setSel_hearth (p : Path) (i j : Nat) (v : Word) : (s.setSel p i j v).hearth = s.hearth := rfl
@[simp] theorem Sys.setSel_sec (p : Path) (i j : Nat) (v : Word) : (s.setSel p i j v).sec = s.sec := rfl
@[simp] theorem Sys.setSel_cnt (p : Path) (i j : Nat) (v : Word) : (s.setSel p i j v).cnt = s.cnt := rfl

end Sys2Proof.Machine
end

