-- ==== Sys2Proof/Laws/Answers.lean ====
section
/-! SUPPORT. What an answer leaves: on the PCIe, Ethernet and facility paths it moves only the path's own registers and sessions, the
Collier's counters and what leaves the module (18 R535, R537, R538); a refusal moves the error log as well (18 R549, R550). -/

namespace Sys2Proof.Machine

variable (s : Sys) (path : Path)

@[simp] theorem Sys.heard_out : (s.heard path).out = s.out := rfl
@[simp] theorem Sys.heard_free : (s.heard path).free = s.free := rfl
@[simp] theorem Sys.heard_clk : (s.heard path).clk = s.clk := rfl
@[simp] theorem Sys.heard_boot : (s.heard path).boot = s.boot := rfl
@[simp] theorem Sys.heard_nv : (s.heard path).nv = s.nv := rfl
@[simp] theorem Sys.heard_jr : (s.heard path).jr = s.jr := rfl
@[simp] theorem Sys.heard_tab : (s.heard path).tab = s.tab := rfl
@[simp] theorem Sys.heard_fwd : (s.heard path).fwd = s.fwd := rfl
@[simp] theorem Sys.heard_ports : (s.heard path).ports = s.ports := rfl
@[simp] theorem Sys.heard_sw : (s.heard path).sw = s.sw := rfl
@[simp] theorem Sys.heard_flows : (s.heard path).flows = s.flows := rfl
@[simp] theorem Sys.heard_coll : (s.heard path).coll = s.coll := rfl
@[simp] theorem Sys.heard_graphs : (s.heard path).graphs = s.graphs := rfl
@[simp] theorem Sys.heard_bc : (s.heard path).bc = s.bc := rfl
@[simp] theorem Sys.heard_vault : (s.heard path).vault = s.vault := rfl
@[simp] theorem Sys.heard_ocs : (s.heard path).ocs = s.ocs := rfl
@[simp] theorem Sys.heard_mem : (s.heard path).mem = s.mem := rfl
@[simp] theorem Sys.heard_felt : (s.heard path).felt = s.felt := rfl
@[simp] theorem Sys.heard_hearth : (s.heard path).hearth = s.hearth := rfl
@[simp] theorem Sys.heard_sec : (s.heard path).sec = s.sec := rfl
@[simp] theorem Sys.heard_cnt : (s.heard path).cnt = s.cnt := rfl

theorem Sys.protect_keeps (msg : List Byte) : (s.protect path msg).2 = { s with mg := (s.protect path msg).2.mg } := by
  unfold Sys.protect; dsimp only; split <;> rfl

@[simp] theorem Sys.protect_slots (msg : List Byte) : (s.protect path msg).2.mg.slots = s.mg.slots := by
  unfold Sys.protect; dsimp only; split <;> rfl

@[simp] theorem Sys.protect_out (msg : List Byte) : (s.protect path msg).2.out = s.out := by rw [Sys.protect_keeps]
@[simp] theorem Sys.protect_free (msg : List Byte) : (s.protect path msg).2.free = s.free := by rw [Sys.protect_keeps]
@[simp] theorem Sys.protect_clk (msg : List Byte) : (s.protect path msg).2.clk = s.clk := by rw [Sys.protect_keeps]
@[simp] theorem Sys.protect_boot (msg : List Byte) : (s.protect path msg).2.boot = s.boot := by rw [Sys.protect_keeps]
@[simp] theorem Sys.protect_nv (msg : List Byte) : (s.protect path msg).2.nv = s.nv := by rw [Sys.protect_keeps]
@[simp] theorem Sys.protect_jr (msg : List Byte) : (s.protect path msg).2.jr = s.jr := by rw [Sys.protect_keeps]
@[simp] theorem Sys.protect_tab (msg : List Byte) : (s.protect path msg).2.tab = s.tab := by rw [Sys.protect_keeps]
@[simp] theorem Sys.protect_fwd (msg : List Byte) : (s.protect path msg).2.fwd = s.fwd := by rw [Sys.protect_keeps]
@[simp] theorem Sys.protect_ports (msg : List Byte) : (s.protect path msg).2.ports = s.ports := by rw [Sys.protect_keeps]
@[simp] theorem Sys.protect_sw (msg : List Byte) : (s.protect path msg).2.sw = s.sw := by rw [Sys.protect_keeps]
@[simp] theorem Sys.protect_flows (msg : List Byte) : (s.protect path msg).2.flows = s.flows := by rw [Sys.protect_keeps]
@[simp] theorem Sys.protect_coll (msg : List Byte) : (s.protect path msg).2.coll = s.coll := by rw [Sys.protect_keeps]
@[simp] theorem Sys.protect_graphs (msg : List Byte) : (s.protect path msg).2.graphs = s.graphs := by rw [Sys.protect_keeps]
@[simp] theorem Sys.protect_bc (msg : List Byte) : (s.protect path msg).2.bc = s.bc := by rw [Sys.protect_keeps]
@[simp] theorem Sys.protect_vault (msg : List Byte) : (s.protect path msg).2.vault = s.vault := by rw [Sys.protect_keeps]
@[simp] theorem Sys.protect_ocs (msg : List Byte) : (s.protect path msg).2.ocs = s.ocs := by rw [Sys.protect_keeps]
@[simp] theorem Sys.protect_mem (msg : List Byte) : (s.protect path msg).2.mem = s.mem := by rw [Sys.protect_keeps]
@[simp] theorem Sys.protect_felt (msg : List Byte) : (s.protect path msg).2.felt = s.felt := by rw [Sys.protect_keeps]
@[simp] theorem Sys.protect_hearth (msg : List Byte) : (s.protect path msg).2.hearth = s.hearth := by rw [Sys.protect_keeps]
@[simp] theorem Sys.protect_sec (msg : List Byte) : (s.protect path msg).2.sec = s.sec := by rw [Sys.protect_keeps]
@[simp] theorem Sys.protect_cnt (msg : List Byte) : (s.protect path msg).2.cnt = s.cnt := by rw [Sys.protect_keeps]

theorem Sys.sendMsg_free (prot : Bool) (msg : List Byte) (h : path ≠ .inband) :
    (s.sendMsg path prot msg).free = s.free := by
  cases path <;> cases prot <;> first | exact absurd rfl h | simp [Sys.sendMsg, Sys.emit]
theorem Sys.sendMsg_clk (prot : Bool) (msg : List Byte) (h : path ≠ .inband) :
    (s.sendMsg path prot msg).clk = s.clk := by
  cases path <;> cases prot <;> first | exact absurd rfl h | simp [Sys.sendMsg, Sys.emit]
theorem Sys.sendMsg_boot (prot : Bool) (msg : List Byte) (h : path ≠ .inband) :
    (s.sendMsg path prot msg).boot = s.boot := by
  cases path <;> cases prot <;> first | exact absurd rfl h | simp [Sys.sendMsg, Sys.emit]
theorem Sys.sendMsg_nv (prot : Bool) (msg : List Byte) (h : path ≠ .inband) :
    (s.sendMsg path prot msg).nv = s.nv := by
  cases path <;> cases prot <;> first | exact absurd rfl h | simp [Sys.sendMsg, Sys.emit]
theorem Sys.sendMsg_jr (prot : Bool) (msg : List Byte) (h : path ≠ .inband) :
    (s.sendMsg path prot msg).jr = s.jr := by
  cases path <;> cases prot <;> first | exact absurd rfl h | simp [Sys.sendMsg, Sys.emit]
theorem Sys.sendMsg_tab (prot : Bool) (msg : List Byte) (h : path ≠ .inband) :
    (s.sendMsg path prot msg).tab = s.tab := by
  cases path <;> cases prot <;> first | exact absurd rfl h | simp [Sys.sendMsg, Sys.emit]
theorem Sys.sendMsg_fwd (prot : Bool) (msg : List Byte) (h : path ≠ .inband) :
    (s.sendMsg path prot msg).fwd = s.fwd := by
  cases path <;> cases prot <;> first | exact absurd rfl h | simp [Sys.sendMsg, Sys.emit]
theorem Sys.sendMsg_ports (prot : Bool) (msg : List Byte) (h : path ≠ .inband) :
    (s.sendMsg path prot msg).ports = s.ports := by
  cases path <;> cases prot <;> first | exact absurd rfl h | simp [Sys.sendMsg, Sys.emit]
theorem Sys.sendMsg_sw (prot : Bool) (msg : List Byte) (h : path ≠ .inband) :
    (s.sendMsg path prot msg).sw = s.sw := by
  cases path <;> cases prot <;> first | exact absurd rfl h | simp [Sys.sendMsg, Sys.emit]
theorem Sys.sendMsg_flows (prot : Bool) (msg : List Byte) (h : path ≠ .inband) :
    (s.sendMsg path prot msg).flows = s.flows := by
  cases path <;> cases prot <;> first | exact absurd rfl h | simp [Sys.sendMsg, Sys.emit]
theorem Sys.sendMsg_coll (prot : Bool) (msg : List Byte) (h : path ≠ .inband) :
    (s.sendMsg path prot msg).coll = s.coll := by
  cases path <;> cases prot <;> first | exact absurd rfl h | simp [Sys.sendMsg, Sys.emit]
theorem Sys.sendMsg_graphs (prot : Bool) (msg : List Byte) (h : path ≠ .inband) :
    (s.sendMsg path prot msg).graphs = s.graphs := by
  cases path <;> cases prot <;> first | exact absurd rfl h | simp [Sys.sendMsg, Sys.emit]
theorem Sys.sendMsg_bc (prot : Bool) (msg : List Byte) (h : path ≠ .inband) :
    (s.sendMsg path prot msg).bc = s.bc := by
  cases path <;> cases prot <;> first | exact absurd rfl h | simp [Sys.sendMsg, Sys.emit]
theorem Sys.sendMsg_vault (prot : Bool) (msg : List Byte) (h : path ≠ .inband) :
    (s.sendMsg path prot msg).vault = s.vault := by
  cases path <;> cases prot <;> first | exact absurd rfl h | simp [Sys.sendMsg, Sys.emit]
theorem Sys.sendMsg_ocs (prot : Bool) (msg : List Byte) (h : path ≠ .inband) :
    (s.sendMsg path prot msg).ocs = s.ocs := by
  cases path <;> cases prot <;> first | exact absurd rfl h | simp [Sys.sendMsg, Sys.emit]
theorem Sys.sendMsg_mem (prot : Bool) (msg : List Byte) (h : path ≠ .inband) :
    (s.sendMsg path prot msg).mem = s.mem := by
  cases path <;> cases prot <;> first | exact absurd rfl h | simp [Sys.sendMsg, Sys.emit]
theorem Sys.sendMsg_felt (prot : Bool) (msg : List Byte) (h : path ≠ .inband) :
    (s.sendMsg path prot msg).felt = s.felt := by
  cases path <;> cases prot <;> first | exact absurd rfl h | simp [Sys.sendMsg, Sys.emit]
theorem Sys.sendMsg_hearth (prot : Bool) (msg : List Byte) (h : path ≠ .inband) :
    (s.sendMsg path prot msg).hearth = s.hearth := by
  cases path <;> cases prot <;> first | exact absurd rfl h | simp [Sys.sendMsg, Sys.emit]
theorem Sys.sendMsg_sec (prot : Bool) (msg : List Byte) (h : path ≠ .inband) :
    (s.sendMsg path prot msg).sec = s.sec := by
  cases path <;> cases prot <;> first | exact absurd rfl h | simp [Sys.sendMsg, Sys.emit]
theorem Sys.sendMsg_cnt (prot : Bool) (msg : List Byte) (h : path ≠ .inband) :
    (s.sendMsg path prot msg).cnt = s.cnt := by
  cases path <;> cases prot <;> first | exact absurd rfl h | simp [Sys.sendMsg, Sys.emit]
theorem Sys.sendMsg_slots (prot : Bool) (msg : List Byte) (h : path ≠ .inband) :
    (s.sendMsg path prot msg).mg.slots = s.mg.slots := by
  cases path <;> cases prot <;> first | exact absurd rfl h | simp [Sys.sendMsg, Sys.emit]

theorem Sys.respond_free (prot : Bool) (tag : BitVec 16) (addr : Word64) (count : Nat) (abort : Word) (data : List Byte)
    (h : path ≠ .inband) : (s.respond path prot tag addr count abort data).free = s.free := by
  unfold Sys.respond
  cases path <;> first | exact absurd rfl h | (simp [Sys.sendMsg_free]; done) | (dsimp only; split <;> simp)
theorem Sys.respond_clk (prot : Bool) (tag : BitVec 16) (addr : Word64) (count : Nat) (abort : Word) (data : List Byte)
    (h : path ≠ .inband) : (s.respond path prot tag addr count abort data).clk = s.clk := by
  unfold Sys.respond
  cases path <;> first | exact absurd rfl h | (simp [Sys.sendMsg_clk]; done) | (dsimp only; split <;> simp)
theorem Sys.respond_boot (prot : Bool) (tag : BitVec 16) (addr : Word64) (count : Nat) (abort : Word) (data : List Byte)
    (h : path ≠ .inband) : (s.respond path prot tag addr count abort data).boot = s.boot := by
  unfold Sys.respond
  cases path <;> first | exact absurd rfl h | (simp [Sys.sendMsg_boot]; done) | (dsimp only; split <;> simp)
theorem Sys.respond_nv (prot : Bool) (tag : BitVec 16) (addr : Word64) (count : Nat) (abort : Word) (data : List Byte)
    (h : path ≠ .inband) : (s.respond path prot tag addr count abort data).nv = s.nv := by
  unfold Sys.respond
  cases path <;> first | exact absurd rfl h | (simp [Sys.sendMsg_nv]; done) | (dsimp only; split <;> simp)
theorem Sys.respond_jr (prot : Bool) (tag : BitVec 16) (addr : Word64) (count : Nat) (abort : Word) (data : List Byte)
    (h : path ≠ .inband) : (s.respond path prot tag addr count abort data).jr = s.jr := by
  unfold Sys.respond
  cases path <;> first | exact absurd rfl h | (simp [Sys.sendMsg_jr]; done) | (dsimp only; split <;> simp)
theorem Sys.respond_tab (prot : Bool) (tag : BitVec 16) (addr : Word64) (count : Nat) (abort : Word) (data : List Byte)
    (h : path ≠ .inband) : (s.respond path prot tag addr count abort data).tab = s.tab := by
  unfold Sys.respond
  cases path <;> first | exact absurd rfl h | (simp [Sys.sendMsg_tab]; done) | (dsimp only; split <;> simp)
theorem Sys.respond_fwd (prot : Bool) (tag : BitVec 16) (addr : Word64) (count : Nat) (abort : Word) (data : List Byte)
    (h : path ≠ .inband) : (s.respond path prot tag addr count abort data).fwd = s.fwd := by
  unfold Sys.respond
  cases path <;> first | exact absurd rfl h | (simp [Sys.sendMsg_fwd]; done) | (dsimp only; split <;> simp)
theorem Sys.respond_ports (prot : Bool) (tag : BitVec 16) (addr : Word64) (count : Nat) (abort : Word) (data : List Byte)
    (h : path ≠ .inband) : (s.respond path prot tag addr count abort data).ports = s.ports := by
  unfold Sys.respond
  cases path <;> first | exact absurd rfl h | (simp [Sys.sendMsg_ports]; done) | (dsimp only; split <;> simp)
theorem Sys.respond_sw (prot : Bool) (tag : BitVec 16) (addr : Word64) (count : Nat) (abort : Word) (data : List Byte)
    (h : path ≠ .inband) : (s.respond path prot tag addr count abort data).sw = s.sw := by
  unfold Sys.respond
  cases path <;> first | exact absurd rfl h | (simp [Sys.sendMsg_sw]; done) | (dsimp only; split <;> simp)
theorem Sys.respond_flows (prot : Bool) (tag : BitVec 16) (addr : Word64) (count : Nat) (abort : Word) (data : List Byte)
    (h : path ≠ .inband) : (s.respond path prot tag addr count abort data).flows = s.flows := by
  unfold Sys.respond
  cases path <;> first | exact absurd rfl h | (simp [Sys.sendMsg_flows]; done) | (dsimp only; split <;> simp)
theorem Sys.respond_coll (prot : Bool) (tag : BitVec 16) (addr : Word64) (count : Nat) (abort : Word) (data : List Byte)
    (h : path ≠ .inband) : (s.respond path prot tag addr count abort data).coll = s.coll := by
  unfold Sys.respond
  cases path <;> first | exact absurd rfl h | (simp [Sys.sendMsg_coll]; done) | (dsimp only; split <;> simp)
theorem Sys.respond_graphs (prot : Bool) (tag : BitVec 16) (addr : Word64) (count : Nat) (abort : Word) (data : List Byte)
    (h : path ≠ .inband) : (s.respond path prot tag addr count abort data).graphs = s.graphs := by
  unfold Sys.respond
  cases path <;> first | exact absurd rfl h | (simp [Sys.sendMsg_graphs]; done) | (dsimp only; split <;> simp)
theorem Sys.respond_bc (prot : Bool) (tag : BitVec 16) (addr : Word64) (count : Nat) (abort : Word) (data : List Byte)
    (h : path ≠ .inband) : (s.respond path prot tag addr count abort data).bc = s.bc := by
  unfold Sys.respond
  cases path <;> first | exact absurd rfl h | (simp [Sys.sendMsg_bc]; done) | (dsimp only; split <;> simp)
theorem Sys.respond_vault (prot : Bool) (tag : BitVec 16) (addr : Word64) (count : Nat) (abort : Word) (data : List Byte)
    (h : path ≠ .inband) : (s.respond path prot tag addr count abort data).vault = s.vault := by
  unfold Sys.respond
  cases path <;> first | exact absurd rfl h | (simp [Sys.sendMsg_vault]; done) | (dsimp only; split <;> simp)
theorem Sys.respond_ocs (prot : Bool) (tag : BitVec 16) (addr : Word64) (count : Nat) (abort : Word) (data : List Byte)
    (h : path ≠ .inband) : (s.respond path prot tag addr count abort data).ocs = s.ocs := by
  unfold Sys.respond
  cases path <;> first | exact absurd rfl h | (simp [Sys.sendMsg_ocs]; done) | (dsimp only; split <;> simp)
theorem Sys.respond_mem (prot : Bool) (tag : BitVec 16) (addr : Word64) (count : Nat) (abort : Word) (data : List Byte)
    (h : path ≠ .inband) : (s.respond path prot tag addr count abort data).mem = s.mem := by
  unfold Sys.respond
  cases path <;> first | exact absurd rfl h | (simp [Sys.sendMsg_mem]; done) | (dsimp only; split <;> simp)
theorem Sys.respond_felt (prot : Bool) (tag : BitVec 16) (addr : Word64) (count : Nat) (abort : Word) (data : List Byte)
    (h : path ≠ .inband) : (s.respond path prot tag addr count abort data).felt = s.felt := by
  unfold Sys.respond
  cases path <;> first | exact absurd rfl h | (simp [Sys.sendMsg_felt]; done) | (dsimp only; split <;> simp)
theorem Sys.respond_hearth (prot : Bool) (tag : BitVec 16) (addr : Word64) (count : Nat) (abort : Word) (data : List Byte)
    (h : path ≠ .inband) : (s.respond path prot tag addr count abort data).hearth = s.hearth := by
  unfold Sys.respond
  cases path <;> first | exact absurd rfl h | (simp [Sys.sendMsg_hearth]; done) | (dsimp only; split <;> simp)
theorem Sys.respond_sec (prot : Bool) (tag : BitVec 16) (addr : Word64) (count : Nat) (abort : Word) (data : List Byte)
    (h : path ≠ .inband) : (s.respond path prot tag addr count abort data).sec = s.sec := by
  unfold Sys.respond
  cases path <;> first | exact absurd rfl h | (simp [Sys.sendMsg_sec]; done) | (dsimp only; split <;> simp)
theorem Sys.respond_slots (prot : Bool) (tag : BitVec 16) (addr : Word64) (count : Nat) (abort : Word) (data : List Byte)
    (h : path ≠ .inband) : (s.respond path prot tag addr count abort data).mg.slots = s.mg.slots := by
  unfold Sys.respond
  cases path <;> first | exact absurd rfl h | (simp [Sys.sendMsg_slots]; done) | (dsimp only; split <;> simp)

theorem Sys.answer_free (prot : Bool) (addr : Word64) (count : Nat) (abort : Word) (data : List Byte) (h : path ≠ .inband) :
    (s.answer path prot addr count abort data).free = s.free := by
  unfold Sys.answer; rw [Sys.respond_free _ _ _ _ _ _ _ _ h]; split <;> rfl
theorem Sys.answer_clk (prot : Bool) (addr : Word64) (count : Nat) (abort : Word) (data : List Byte) (h : path ≠ .inband) :
    (s.answer path prot addr count abort data).clk = s.clk := by
  unfold Sys.answer; rw [Sys.respond_clk _ _ _ _ _ _ _ _ h]; split <;> rfl
theorem Sys.answer_boot (prot : Bool) (addr : Word64) (count : Nat) (abort : Word) (data : List Byte) (h : path ≠ .inband) :
    (s.answer path prot addr count abort data).boot = s.boot := by
  unfold Sys.answer; rw [Sys.respond_boot _ _ _ _ _ _ _ _ h]; split <;> rfl
theorem Sys.answer_nv (prot : Bool) (addr : Word64) (count : Nat) (abort : Word) (data : List Byte) (h : path ≠ .inband) :
    (s.answer path prot addr count abort data).nv = s.nv := by
  unfold Sys.answer; rw [Sys.respond_nv _ _ _ _ _ _ _ _ h]; split <;> rfl
theorem Sys.answer_jr (prot : Bool) (addr : Word64) (count : Nat) (abort : Word) (data : List Byte) (h : path ≠ .inband) :
    (s.answer path prot addr count abort data).jr = s.jr := by
  unfold Sys.answer; rw [Sys.respond_jr _ _ _ _ _ _ _ _ h]; split <;> rfl
theorem Sys.answer_tab (prot : Bool) (addr : Word64) (count : Nat) (abort : Word) (data : List Byte) (h : path ≠ .inband) :
    (s.answer path prot addr count abort data).tab = s.tab := by
  unfold Sys.answer; rw [Sys.respond_tab _ _ _ _ _ _ _ _ h]; split <;> rfl
theorem Sys.answer_fwd (prot : Bool) (addr : Word64) (count : Nat) (abort : Word) (data : List Byte) (h : path ≠ .inband) :
    (s.answer path prot addr count abort data).fwd = s.fwd := by
  unfold Sys.answer; rw [Sys.respond_fwd _ _ _ _ _ _ _ _ h]; split <;> rfl
theorem Sys.answer_ports (prot : Bool) (addr : Word64) (count : Nat) (abort : Word) (data : List Byte) (h : path ≠ .inband) :
    (s.answer path prot addr count abort data).ports = s.ports := by
  unfold Sys.answer; rw [Sys.respond_ports _ _ _ _ _ _ _ _ h]; split <;> rfl
theorem Sys.answer_sw (prot : Bool) (addr : Word64) (count : Nat) (abort : Word) (data : List Byte) (h : path ≠ .inband) :
    (s.answer path prot addr count abort data).sw = s.sw := by
  unfold Sys.answer; rw [Sys.respond_sw _ _ _ _ _ _ _ _ h]; split <;> rfl
theorem Sys.answer_flows (prot : Bool) (addr : Word64) (count : Nat) (abort : Word) (data : List Byte) (h : path ≠ .inband) :
    (s.answer path prot addr count abort data).flows = s.flows := by
  unfold Sys.answer; rw [Sys.respond_flows _ _ _ _ _ _ _ _ h]; split <;> rfl
theorem Sys.answer_coll (prot : Bool) (addr : Word64) (count : Nat) (abort : Word) (data : List Byte) (h : path ≠ .inband) :
    (s.answer path prot addr count abort data).coll = s.coll := by
  unfold Sys.answer; rw [Sys.respond_coll _ _ _ _ _ _ _ _ h]; split <;> rfl
theorem Sys.answer_graphs (prot : Bool) (addr : Word64) (count : Nat) (abort : Word) (data : List Byte) (h : path ≠ .inband) :
    (s.answer path prot addr count abort data).graphs = s.graphs := by
  unfold Sys.answer; rw [Sys.respond_graphs _ _ _ _ _ _ _ _ h]; split <;> rfl
theorem Sys.answer_bc (prot : Bool) (addr : Word64) (count : Nat) (abort : Word) (data : List Byte) (h : path ≠ .inband) :
    (s.answer path prot addr count abort data).bc = s.bc := by
  unfold Sys.answer; rw [Sys.respond_bc _ _ _ _ _ _ _ _ h]; split <;> rfl
theorem Sys.answer_vault (prot : Bool) (addr : Word64) (count : Nat) (abort : Word) (data : List Byte) (h : path ≠ .inband) :
    (s.answer path prot addr count abort data).vault = s.vault := by
  unfold Sys.answer; rw [Sys.respond_vault _ _ _ _ _ _ _ _ h]; split <;> rfl
theorem Sys.answer_ocs (prot : Bool) (addr : Word64) (count : Nat) (abort : Word) (data : List Byte) (h : path ≠ .inband) :
    (s.answer path prot addr count abort data).ocs = s.ocs := by
  unfold Sys.answer; rw [Sys.respond_ocs _ _ _ _ _ _ _ _ h]; split <;> rfl
theorem Sys.answer_mem (prot : Bool) (addr : Word64) (count : Nat) (abort : Word) (data : List Byte) (h : path ≠ .inband) :
    (s.answer path prot addr count abort data).mem = s.mem := by
  unfold Sys.answer; rw [Sys.respond_mem _ _ _ _ _ _ _ _ h]; split <;> rfl
theorem Sys.answer_felt (prot : Bool) (addr : Word64) (count : Nat) (abort : Word) (data : List Byte) (h : path ≠ .inband) :
    (s.answer path prot addr count abort data).felt = s.felt := by
  unfold Sys.answer; rw [Sys.respond_felt _ _ _ _ _ _ _ _ h]; split <;> rfl
theorem Sys.answer_hearth (prot : Bool) (addr : Word64) (count : Nat) (abort : Word) (data : List Byte) (h : path ≠ .inband) :
    (s.answer path prot addr count abort data).hearth = s.hearth := by
  unfold Sys.answer; rw [Sys.respond_hearth _ _ _ _ _ _ _ _ h]; split <;> rfl
theorem Sys.answer_sec (prot : Bool) (addr : Word64) (count : Nat) (abort : Word) (data : List Byte) (h : path ≠ .inband) :
    (s.answer path prot addr count abort data).sec = s.sec := by
  unfold Sys.answer; rw [Sys.respond_sec _ _ _ _ _ _ _ _ h]; split <;> rfl
theorem Sys.answer_slots (prot : Bool) (addr : Word64) (count : Nat) (abort : Word) (data : List Byte) (h : path ≠ .inband) :
    (s.answer path prot addr count abort data).mg.slots = s.mg.slots := by
  unfold Sys.answer; rw [Sys.respond_slots _ _ _ _ _ _ _ _ h]; split <;> rfl

@[simp] theorem Sys.reqError_lastAbort (c : Word) (k : Nat) (a : Word64) (o : Nat) :
    (s.reqError path c k a o).mg.lastAbort =
      put s.mg.lastAbort (pathNum path) { code := c, kind := BitVec.ofNat 4 k, addr := a, time := s.now } := by
  unfold Sys.reqError Sys.reqErrorKey; dsimp only; (repeat' split) <;> simp

@[simp] theorem Sys.reqError_slots (c : Word) (k : Nat) (a : Word64) (o : Nat) : (s.reqError path c k a o).mg.slots = s.mg.slots := by
  unfold Sys.reqError Sys.reqErrorKey; dsimp only; (repeat' split) <;> simp

theorem Sys.refuse_free (code : Word) (index block sub : Nat) (h : path ≠ .inband) :
    (s.refuse path code index block sub).free = s.free := by
  simp [Sys.refuse, Sys.refuseAs, Sys.answer_free _ _ _ _ _ _ _ h]
theorem Sys.refuse_clk (code : Word) (index block sub : Nat) (h : path ≠ .inband) :
    (s.refuse path code index block sub).clk = s.clk := by
  simp [Sys.refuse, Sys.refuseAs, Sys.answer_clk _ _ _ _ _ _ _ h]
theorem Sys.refuse_boot (code : Word) (index block sub : Nat) (h : path ≠ .inband) :
    (s.refuse path code index block sub).boot = s.boot := by
  simp [Sys.refuse, Sys.refuseAs, Sys.answer_boot _ _ _ _ _ _ _ h]
theorem Sys.refuse_tab (code : Word) (index block sub : Nat) (h : path ≠ .inband) :
    (s.refuse path code index block sub).tab = s.tab := by
  simp [Sys.refuse, Sys.refuseAs, Sys.answer_tab _ _ _ _ _ _ _ h]
theorem Sys.refuse_fwd (code : Word) (index block sub : Nat) (h : path ≠ .inband) :
    (s.refuse path code index block sub).fwd = s.fwd := by
  simp [Sys.refuse, Sys.refuseAs, Sys.answer_fwd _ _ _ _ _ _ _ h]
theorem Sys.refuse_ports (code : Word) (index block sub : Nat) (h : path ≠ .inband) :
    (s.refuse path code index block sub).ports = s.ports := by
  simp [Sys.refuse, Sys.refuseAs, Sys.answer_ports _ _ _ _ _ _ _ h]
theorem Sys.refuse_sw (code : Word) (index block sub : Nat) (h : path ≠ .inband) :
    (s.refuse path code index block sub).sw = s.sw := by
  simp [Sys.refuse, Sys.refuseAs, Sys.answer_sw _ _ _ _ _ _ _ h]
theorem Sys.refuse_flows (code : Word) (index block sub : Nat) (h : path ≠ .inband) :
    (s.refuse path code index block sub).flows = s.flows := by
  simp [Sys.refuse, Sys.refuseAs, Sys.answer_flows _ _ _ _ _ _ _ h]
theorem Sys.refuse_coll (code : Word) (index block sub : Nat) (h : path ≠ .inband) :
    (s.refuse path code index block sub).coll = s.coll := by
  simp [Sys.refuse, Sys.refuseAs, Sys.answer_coll _ _ _ _ _ _ _ h]
theorem Sys.refuse_graphs (code : Word) (index block sub : Nat) (h : path ≠ .inband) :
    (s.refuse path code index block sub).graphs = s.graphs := by
  simp [Sys.refuse, Sys.refuseAs, Sys.answer_graphs _ _ _ _ _ _ _ h]
theorem Sys.refuse_bc (code : Word) (index block sub : Nat) (h : path ≠ .inband) :
    (s.refuse path code index block sub).bc = s.bc := by
  simp [Sys.refuse, Sys.refuseAs, Sys.answer_bc _ _ _ _ _ _ _ h]
theorem Sys.refuse_vault (code : Word) (index block sub : Nat) (h : path ≠ .inband) :
    (s.refuse path code index block sub).vault = s.vault := by
  simp [Sys.refuse, Sys.refuseAs, Sys.answer_vault _ _ _ _ _ _ _ h]
theorem Sys.refuse_ocs (code : Word) (index block sub : Nat) (h : path ≠ .inband) :
    (s.refuse path code index block sub).ocs = s.ocs := by
  simp [Sys.refuse, Sys.refuseAs, Sys.answer_ocs _ _ _ _ _ _ _ h]
theorem Sys.refuse_mem (code : Word) (index block sub : Nat) (h : path ≠ .inband) :
    (s.refuse path code index block sub).mem = s.mem := by
  simp [Sys.refuse, Sys.refuseAs, Sys.answer_mem _ _ _ _ _ _ _ h]
theorem Sys.refuse_felt (code : Word) (index block sub : Nat) (h : path ≠ .inband) :
    (s.refuse path code index block sub).felt = s.felt := by
  simp [Sys.refuse, Sys.refuseAs, Sys.answer_felt _ _ _ _ _ _ _ h]
theorem Sys.refuse_hearth (code : Word) (index block sub : Nat) (h : path ≠ .inband) :
    (s.refuse path code index block sub).hearth = s.hearth := by
  simp [Sys.refuse, Sys.refuseAs, Sys.answer_hearth _ _ _ _ _ _ _ h]
theorem Sys.refuse_sec (code : Word) (index block sub : Nat) (h : path ≠ .inband) :
    (s.refuse path code index block sub).sec = s.sec := by
  simp [Sys.refuse, Sys.refuseAs, Sys.answer_sec _ _ _ _ _ _ _ h]
theorem Sys.refuse_slots (code : Word) (index block sub : Nat) (h : path ≠ .inband) :
    (s.refuse path code index block sub).mg.slots = s.mg.slots := by
  simp [Sys.refuse, Sys.refuseAs, Sys.answer_slots _ _ _ _ _ _ _ h]

end Sys2Proof.Machine
end

