-- ==== Sys2Proof/Laws/Lookup.lean ====
section
/-! SUPPORT. Laws of the places of a table: where a search and an insert find nothing (04 R117, R119). -/

namespace Sys2Proof.Machine

/-- No place satisfies the predicate. -/
theorem firstFrom_none {p : Nat → Bool} : ∀ (n i : Nat), (∀ j, j < n → p (i + j) = false) → firstFrom p i n = none
  | 0, _, _ => rfl
  | n + 1, i, h => by
    unfold firstFrom
    rw [if_neg (by rw [show p i = false from h 0 (by omega)]; decide)]
    exact firstFrom_none n (i + 1) fun j hj => by rw [Nat.add_assoc, Nat.add_comm 1 j]; exact h (j + 1) (by omega)

/-- A key of the list has a value. -/
theorem get?_listed {α : Type} (k : Nat) : ∀ (t : Sparse α), k ∈ t.map Prod.fst → (get? t k).isSome = true
  | [], h => absurd h List.not_mem_nil
  | (i, v) :: t, h => by
    unfold get?
    by_cases e : i = k
    · rw [if_pos e]; rfl
    · rw [if_neg e]
      exact get?_listed k t ((List.mem_cons.mp h).resolve_left fun x => e x.symm)

/-- A key of the list has a value. -/
theorem isNone_listed {α : Type} (t : Sparse α) (k : Nat) (h : k ∈ t.map Prod.fst) : (get? t k).isNone = false := by
  have := get?_listed k t h
  revert this; cases get? t k <;> simp

/-- No stored entry satisfies the predicate. -/
theorem findEntry_none {α : Type} (t : Sparse α) (r : Regions) (c : List Nat) (p : α → Bool)
    (h : ∀ k v, (k, v) ∈ t → p v = false) : findEntry t r c p = none := by
  have hg : ∀ i v, get? t i = some v → p v = false := by
    intro i v hv
    refine h i v ?_
    clear h
    induction t with
    | nil => cases hv
    | cons e t ih =>
      unfold get? at hv
      split_ifs at hv with he
      · cases hv; rw [← he]; exact List.mem_cons_self ..
      · exact List.mem_cons_of_mem _ (ih hv)
  unfold findEntry
  have h1 : ∀ q : Nat → Bool, (∀ i, q i = false) → c.find? q = none := by
    intro q hq
    rw [List.find?_eq_none]
    intro i _
    rw [hq i]; decide
  rw [h1 _ fun i => by cases hi : get? t i with | none => rfl | some e => exact hg i e hi]
  dsimp only
  rw [List.find?_eq_none]
  intro e he
  simp [h e.1 e.2 he]

/-- A prefix that is not stored has no place when its two buckets and the overflow store are taken. -/
theorem lpmPlace_full (v : Version) (e : LpmEntry) (h1 : v.lpmFind e.pfx e.len = none)
    (h2 : ∀ i ∈ lpmCands v.seed e.pfx e.len, (get? v.lpm i).isNone = false)
    (h3 : ∀ j, j < lpmRegions.stop - lpmRegions.ovf → (get? v.lpm (lpmRegions.ovf + j)).isNone = false) :
    v.lpmPlace e = none := by
  have hb : ∀ b : List Nat, (∀ i ∈ b, i ∈ lpmCands v.seed e.pfx e.len) →
      b.find? (fun i => (get? v.lpm i).isNone) = none := by
    intro b h
    rw [List.find?_eq_none]
    intro i hi
    rw [h2 i (h i hi)]; decide
  unfold Version.lpmPlace
  rw [h1]
  unfold freeSlot
  dsimp only
  split_ifs
  · rw [hb _ fun i hi => List.mem_of_mem_take hi, firstFrom_none _ _ h3]
  · rw [hb _ fun i hi => List.mem_of_mem_drop hi, firstFrom_none _ _ h3]

end Sys2Proof.Machine
end

