-- ==== Sys2Proof/Laws/Sparse.lean ====
section
/-! SUPPORT. What reading a sparse table gives after it was written, and the same for ports and schedulers. -/

namespace Sys2Proof.Machine

variable {α : Type}

theorem get?_put_same (t : Sparse α) (k : Nat) (v : α) : get? (put t k v) k = some v := by
  induction t with
  | nil => simp [put, get?]
  | cons e r ih => obtain ⟨j, w⟩ := e; simp only [put]; split; · simp [get?]
                   split <;> simp_all [get?]

theorem get?_put_ne (t : Sparse α) (k j : Nat) (v : α) (h : j ≠ k) : get? (put t k v) j = get? t j := by
  induction t with
  | nil => simp [put, get?, h.symm]
  | cons e r ih => obtain ⟨i, w⟩ := e; simp only [put]; split; · simp [get?, h.symm]
                   split
                   · subst_vars; simp [get?, h.symm]
                   · simp [get?, ih]

theorem put_put (t : Sparse α) (k : Nat) (v w : α) : put (put t k v) k w = put t k w := by
  induction t with
  | nil => simp [put]
  | cons e r ih => obtain ⟨i, x⟩ := e; simp only [put]; split; · simp [put]
                   split <;> simp_all [put]

@[simp] theorem getD_put_same (t : Sparse α) (k : Nat) (v d : α) : getD (put t k v) k d = v := by
  simp [getD, get?_put_same]

theorem getD_put_ne (t : Sparse α) (k j : Nat) (v d : α) (h : j ≠ k) : getD (put t k v) j d = getD t j d := by
  simp [getD, get?_put_ne _ _ _ _ h]

@[simp] theorem getD_modify_same (t : Sparse α) (k : Nat) (d : α) (f : α → α) :
    getD (modify t k d f) k d = f (getD t k d) := by simp [modify]

theorem getD_modify_ne (t : Sparse α) (k j : Nat) (d e : α) (f : α → α) (h : j ≠ k) :
    getD (modify t k d f) j e = getD t j e := by simp [modify, getD_put_ne _ _ _ _ _ h]

theorem modify_modify (t : Sparse α) (k : Nat) (d : α) (f g : α → α) :
    modify (modify t k d f) k d g = modify t k d (fun x => g (f x)) := by simp [modify, put_put]

@[simp] theorem Sys.port_modPort_same (s : Sys) (p : Nat) (f : PortSt → PortSt) : (s.modPort p f).port p = f (s.port p) := by
  simp [Sys.modPort, Sys.port]

theorem Sys.port_modPort_ne (s : Sys) (p q : Nat) (f : PortSt → PortSt) (h : q ≠ p) : (s.modPort p f).port q = s.port q := by
  simp [Sys.modPort, Sys.port, getD_modify_ne _ _ _ _ _ _ h]

theorem Sys.modPort_modPort (s : Sys) (p : Nat) (f g : PortSt → PortSt) :
    (s.modPort p f).modPort p g = s.modPort p (fun x => g (f x)) := by
  simp [Sys.modPort, Sys.modPorts, modify_modify]

@[simp] theorem Sys.eg_modEg_same (s : Sys) (p : Nat) (f : EgPort → EgPort) : (s.modEg p f).eg p = f (s.eg p) := by
  simp [Sys.modEg, Sys.eg]

variable (s : Sys) (p : Nat)

@[simp] theorem Sys.modPort_out (f : PortSt → PortSt) : (s.modPort p f).out = s.out := rfl
@[simp] theorem Sys.modPort_free (f : PortSt → PortSt) : (s.modPort p f).free = s.free := rfl
@[simp] theorem Sys.modPort_clk (f : PortSt → PortSt) : (s.modPort p f).clk = s.clk := rfl
@[simp] theorem Sys.modPort_boot (f : PortSt → PortSt) : (s.modPort p f).boot = s.boot := rfl
@[simp] theorem Sys.modPort_nv (f : PortSt → PortSt) : (s.modPort p f).nv = s.nv := rfl
@[simp] theorem Sys.modPort_jr (f : PortSt → PortSt) : (s.modPort p f).jr = s.jr := rfl
@[simp] theorem Sys.modPort_mg (f : PortSt → PortSt) : (s.modPort p f).mg = s.mg := rfl
@[simp] theorem Sys.modPort_tab (f : PortSt → PortSt) : (s.modPort p f).tab = s.tab := rfl
@[simp] theorem Sys.modPort_fwd (f : PortSt → PortSt) : (s.modPort p f).fwd = s.fwd := rfl
@[simp] theorem Sys.modPort_sw (f : PortSt → PortSt) : (s.modPort p f).sw = s.sw := rfl
@[simp] theorem Sys.modPort_flows (f : PortSt → PortSt) : (s.modPort p f).flows = s.flows := rfl
@[simp] theorem Sys.modPort_coll (f : PortSt → PortSt) : (s.modPort p f).coll = s.coll := rfl
@[simp] theorem Sys.modPort_graphs (f : PortSt → PortSt) : (s.modPort p f).graphs = s.graphs := rfl
@[simp] theorem Sys.modPort_bc (f : PortSt → PortSt) : (s.modPort p f).bc = s.bc := rfl
@[simp] theorem Sys.modPort_vault (f : PortSt → PortSt) : (s.modPort p f).vault = s.vault := rfl
@[simp] theorem Sys.modPort_ocs (f : PortSt → PortSt) : (s.modPort p f).ocs = s.ocs := rfl
@[simp] theorem Sys.modPort_mem (f : PortSt → PortSt) : (s.modPort p f).mem = s.mem := rfl
@[simp] theorem Sys.modPort_felt (f : PortSt → PortSt) : (s.modPort p f).felt = s.felt := rfl
@[simp] theorem Sys.modPort_hearth (f : PortSt → PortSt) : (s.modPort p f).hearth = s.hearth := rfl
@[simp] theorem Sys.modPort_sec (f : PortSt → PortSt) : (s.modPort p f).sec = s.sec := rfl
@[simp] theorem Sys.modPort_cnt (f : PortSt → PortSt) : (s.modPort p f).cnt = s.cnt := rfl

@[simp] theorem Sys.modEg_out (f : EgPort → EgPort) : (s.modEg p f).out = s.out := rfl
@[simp] theorem Sys.modEg_free (f : EgPort → EgPort) : (s.modEg p f).free = s.free := rfl
@[simp] theorem Sys.modEg_clk (f : EgPort → EgPort) : (s.modEg p f).clk = s.clk := rfl
@[simp] theorem Sys.modEg_boot (f : EgPort → EgPort) : (s.modEg p f).boot = s.boot := rfl
@[simp] theorem Sys.modEg_nv (f : EgPort → EgPort) : (s.modEg p f).nv = s.nv := rfl
@[simp] theorem Sys.modEg_jr (f : EgPort → EgPort) : (s.modEg p f).jr = s.jr := rfl
@[simp] theorem Sys.modEg_mg (f : EgPort → EgPort) : (s.modEg p f).mg = s.mg := rfl
@[simp] theorem Sys.modEg_tab (f : EgPort → EgPort) : (s.modEg p f).tab = s.tab := rfl
@[simp] theorem Sys.modEg_fwd (f : EgPort → EgPort) : (s.modEg p f).fwd = s.fwd := rfl
@[simp] theorem Sys.modEg_ports (f : EgPort → EgPort) : (s.modEg p f).ports = s.ports := rfl
@[simp] theorem Sys.modEg_flows (f : EgPort → EgPort) : (s.modEg p f).flows = s.flows := rfl
@[simp] theorem Sys.modEg_coll (f : EgPort → EgPort) : (s.modEg p f).coll = s.coll := rfl
@[simp] theorem Sys.modEg_graphs (f : EgPort → EgPort) : (s.modEg p f).graphs = s.graphs := rfl
@[simp] theorem Sys.modEg_bc (f : EgPort → EgPort) : (s.modEg p f).bc = s.bc := rfl
@[simp] theorem Sys.modEg_vault (f : EgPort → EgPort) : (s.modEg p f).vault = s.vault := rfl
@[simp] theorem Sys.modEg_ocs (f : EgPort → EgPort) : (s.modEg p f).ocs = s.ocs := rfl
@[simp] theorem Sys.modEg_mem (f : EgPort → EgPort) : (s.modEg p f).mem = s.mem := rfl
@[simp] theorem Sys.modEg_felt (f : EgPort → EgPort) : (s.modEg p f).felt = s.felt := rfl
@[simp] theorem Sys.modEg_hearth (f : EgPort → EgPort) : (s.modEg p f).hearth = s.hearth := rfl
@[simp] theorem Sys.modEg_sec (f : EgPort → EgPort) : (s.modEg p f).sec = s.sec := rfl
@[simp] theorem Sys.modEg_cnt (f : EgPort → EgPort) : (s.modEg p f).cnt = s.cnt := rfl

end Sys2Proof.Machine
end

