-- ==== Sys2Proof/Laws/Memory.lean ====
section
/-! SUPPORT. The byte memories: what a read after a write gives, that every operation keeps the canonical form, and which commands
change a byte at all. -/

namespace Sys2Proof.Machine

/-! ## Tables by key -/

section Tables

variable {α : Type}

theorem get?_del_same (t : Sparse α) (k : Nat) : get? (del t k) k = none := by
  induction t with
  | nil => rfl
  | cons e r ih =>
    obtain ⟨j, w⟩ := e
    by_cases h : j = k <;> simp_all [del, get?]

theorem get?_del_ne (t : Sparse α) (k j : Nat) (h : j ≠ k) : get? (del t k) j = get? t j := by
  induction t with
  | nil => rfl
  | cons e r ih =>
    obtain ⟨i, w⟩ := e
    by_cases hi : i = k
    · subst hi; simp_all [del, get?, h.symm]
    · simp_all [del, get?]

/-- Every key of the table is above `k`. -/
abbrev above (k : Nat) (t : Sparse α) : Prop := ∀ e ∈ t, k < e.1

/-- Keys rise from the first entry on. -/
theorem keysRise_cons (a : Nat) (t : Sparse α) :
    keysRise (a :: t.map (·.1)) = true ↔ above a t ∧ keysRise (t.map (·.1)) = true := by
  induction t generalizing a with
  | nil => simp [keysRise]
  | cons e r ih =>
    simp only [List.map_cons, keysRise, Bool.and_eq_true, decide_eq_true_eq, ih e.1]
    constructor
    · rintro ⟨h1, h2, h3⟩
      refine ⟨?_, h2, h3⟩
      intro x hx
      rcases List.mem_cons.1 hx with rfl | hx
      · exact h1
      · exact Nat.lt_trans h1 (h2 x hx)
    · rintro ⟨h1, h2, h3⟩
      exact ⟨h1 e (by simp), h2, h3⟩

theorem mem_put (t : Sparse α) (k : Nat) (v : α) (e : Nat × α) (h : e ∈ put t k v) : e = (k, v) ∨ e ∈ t := by
  induction t with
  | nil => simpa [put] using h
  | cons a r ih =>
    obtain ⟨j, w⟩ := a
    simp only [put] at h
    split at h
    · simpa using h
    · split at h
      · rcases List.mem_cons.1 h with h | h
        · exact .inl h
        · exact .inr (by simp [h])
      · rcases List.mem_cons.1 h with h | h
        · exact .inr (by simp [h])
        · rcases ih h with h | h
          · exact .inl h
          · exact .inr (by simp [h])

theorem keysRise_put (t : Sparse α) (k : Nat) (v : α) (h : keysRise (t.map (·.1)) = true) :
    keysRise ((put t k v).map (·.1)) = true := by
  induction t with
  | nil => rfl
  | cons a r ih =>
    obtain ⟨j, w⟩ := a
    have hr := (keysRise_cons j r).1 h
    simp only [put]
    split
    · exact (keysRise_cons k ((j, w) :: r)).2 ⟨by
        intro e he
        rcases List.mem_cons.1 he with rfl | he
        · assumption
        · exact Nat.lt_trans (by assumption) (hr.1 e he), h⟩
    · split
      · subst_vars; exact h
      · refine (keysRise_cons j (put r k v)).2 ⟨?_, ih hr.2⟩
        intro e he
        rcases mem_put r k v e he with rfl | he
        · simp; omega
        · exact hr.1 e he

theorem keysRise_filter (t : Sparse α) (p : Nat × α → Bool) (h : keysRise (t.map (·.1)) = true) :
    keysRise ((t.filter p).map (·.1)) = true := by
  induction t with
  | nil => rfl
  | cons a r ih =>
    have hr := (keysRise_cons a.1 r).1 h
    by_cases ha : p a = true
    · rw [List.filter_cons_of_pos ha]
      exact (keysRise_cons a.1 _).2 ⟨fun e he => hr.1 e (List.mem_filter.1 he).1, ih hr.2⟩
    · rw [List.filter_cons_of_neg ha]; exact ih hr.2

end Tables

/-! ## One memory -/

/-- The canonical form in the words of the tables: addresses rise and no listed byte is 0. -/
theorem Memory.wf_iff (m : List Host.Cell) :
    Memory.wf m = true ↔ keysRise (m.map (·.1)) = true ∧ ∀ e ∈ m, e.2 ≠ 0 := by
  induction m with
  | nil => simp [Memory.wf, keysRise]
  | cons a r ih =>
    cases r with
    | nil => simp [Memory.wf, keysRise]
    | cons b r =>
      simp only [Memory.wf, keysRise, List.map_cons, Bool.and_eq_true, decide_eq_true_eq, bne_iff_ne, ne_eq, List.mem_cons,
        forall_eq_or_imp, List.map_cons] at ih ⊢
      rw [ih]
      constructor
      · rintro ⟨⟨h1, h2⟩, h3, h4⟩; exact ⟨⟨h2, h3⟩, h1, h4⟩
      · rintro ⟨⟨h2, h3⟩, h1, h4⟩; exact ⟨⟨h1, h2⟩, h3, h4⟩

/-- A byte written keeps the canonical form. -/
theorem Memory.write_wf (m : List Host.Cell) (a : Nat) (b : Byte) (h : Memory.wf m = true) :
    Memory.wf (Memory.write m a b) = true := by
  rw [Memory.wf_iff] at h ⊢
  simp only [Memory.write]
  split
  · exact ⟨keysRise_filter _ _ h.1, fun e he => h.2 e (List.mem_filter.1 he).1⟩
  · refine ⟨keysRise_put _ _ _ h.1, fun e he => ?_⟩
    rcases mem_put _ _ _ _ he with rfl | he
    · assumption
    · exact h.2 e he

/-- Bytes written keep the canonical form. -/
theorem Memory.writeN_wf (m : List Host.Cell) (a : Nat) (l : List Byte) (h : Memory.wf m = true) :
    Memory.wf (Memory.writeN m a l) = true := by
  induction l generalizing m a with
  | nil => exact h
  | cons b r ih => exact ih _ _ (Memory.write_wf m a b h)

/-- A byte that was written reads as it was written. -/
@[simp] theorem Memory.read_write_same (m : List Host.Cell) (a : Nat) (b : Byte) : Memory.read (Memory.write m a b) a = b := by
  simp only [Memory.read, Memory.write]
  split
  · subst_vars; simp [getD, get?_del_same]
  · simp

/-- Every other byte reads as before. -/
theorem Memory.read_write_ne (m : List Host.Cell) (a c : Nat) (b : Byte) (h : c ≠ a) :
    Memory.read (Memory.write m a b) c = Memory.read m c := by
  simp only [Memory.read, Memory.write]
  split
  · simp [getD, get?_del_ne _ _ _ h]
  · exact getD_put_ne _ _ _ _ _ h

/-- What a byte reads as after bytes were written at `a`: a byte of them, or what it was. -/
theorem Memory.read_writeN (m : List Host.Cell) (a c : Nat) (l : List Byte) :
    Memory.read (Memory.writeN m a l) c = if a ≤ c ∧ c < a + l.length then l.getD (c - a) 0 else Memory.read m c := by
  induction l generalizing m a with
  | nil => simp [Memory.writeN]
  | cons b r ih =>
    simp only [Memory.writeN, ih, List.length_cons]
    by_cases h : c = a
    · subst h; simp
    · rw [Memory.read_write_ne _ _ _ _ h]
      by_cases h2 : a + 1 ≤ c ∧ c < a + 1 + r.length
      · have h3 : a ≤ c ∧ c < a + (r.length + 1) := by omega
        have h4 : c - a = (c - (a + 1)) + 1 := by omega
        rw [if_pos h2, if_pos h3, h4, List.getD_cons_succ]
      · rw [if_neg h2, if_neg (by omega)]

/-- Bytes that were written read as they were written. -/
theorem Memory.readN_writeN (m : List Host.Cell) (a : Nat) (l : List Byte) :
    Memory.readN (Memory.writeN m a l) a l.length = l := by
  apply List.ext_getElem
  · simp [Memory.readN]
  · intro i h1 h2
    simp only [Memory.readN, List.getElem_map, List.getElem_range, Memory.read_writeN]
    rw [if_pos (by omega)]
    simp [h2]

/-! ## The byte memories of the module -/

/-- The staging of a path put through an operation that keeps the form: the byte memories keep theirs. -/
theorem Stores.modStaging_wf (m : Stores) (era : Nat) (path : Path) (f : List Host.Cell → List Host.Cell)
    (h : m.wf = true) (hf : ∀ l, Memory.wf l = true → Memory.wf (f l) = true) : (m.modStaging era path f).wf = true := by
  simp only [Stores.wf, Bool.and_eq_true, List.all_eq_true, Bool.not_eq_true'] at h ⊢
  obtain ⟨⟨hb, hs⟩, hr⟩ := h
  have hm : Memory.wf (m.stagingOf era path) = true := by
    simp only [Stores.stagingOf, getD]
    cases hg : get? m.staging (stagingKey era path) with
    | none => rfl
    | some l =>
      have : ∀ (t : Sparse (List Host.Cell)), get? t (stagingKey era path) = some l → ∃ e ∈ t, e.2 = l := by
        intro t
        induction t with
        | nil => simp [get?]
        | cons e r ih =>
          obtain ⟨k, v⟩ := e
          simp only [get?]
          split
          · intro h; exact ⟨(k, v), by simp, by simpa using h⟩
          · intro h
            obtain ⟨e, he, hl⟩ := ih h
            exact ⟨e, by simp [he], hl⟩
      obtain ⟨e, he, rfl⟩ := this _ hg
      exact (hs e he).1
  refine ⟨⟨hb, ?_⟩, ?_⟩
  · intro e he
    simp only [Stores.modStaging] at he
    split at he
    · exact hs e (List.mem_filter.1 (List.mem_filter.1 he).1).1
    · rcases mem_put _ _ _ _ he with rfl | he
      · rename_i hx
        exact ⟨hf _ hm, by simpa using hx⟩
      · exact hs e (List.mem_filter.1 he).1
  · simp only [Stores.modStaging]
    split
    · exact keysRise_filter _ _ (keysRise_filter _ _ hr)
    · exact keysRise_put _ _ _ (keysRise_filter _ _ hr)

theorem get?_filter {α : Type} (t : Sparse α) (p : Nat × α → Bool) (k : Nat) (h : ∀ v, p (k, v) = true) :
    get? (t.filter p) k = get? t k := by
  induction t with
  | nil => rfl
  | cons e r ih =>
    obtain ⟨j, w⟩ := e
    by_cases hj : j = k
    · subst hj; simp [h w, get?]
    · by_cases hp : p (j, w) = true <;> simp [hp, get?, hj, ih]

theorem stagingKey_inj (era : Nat) (p q : Path) (h : stagingKey era p = stagingKey era q) : p = q := by
  cases p <;> cases q <;> simp_all [stagingKey, pathNum]

/-- The staging that an operation was done to. -/
@[simp] theorem Stores.stagingOf_modStaging_same (m : Stores) (era : Nat) (path : Path) (f : List Host.Cell → List Host.Cell) :
    (m.modStaging era path f).stagingOf era path = f (m.stagingOf era path) := by
  unfold Stores.modStaging
  generalize f (m.stagingOf era path) = x
  unfold Stores.stagingOf
  dsimp only
  split
  · rename_i h
    simp only [getD, get?_del_same, Option.getD_none]
    exact (List.isEmpty_iff.1 h).symm
  · simp

/-- The staging of every other path stands. -/
theorem Stores.stagingOf_modStaging_ne (m : Stores) (era : Nat) (path q : Path) (f : List Host.Cell → List Host.Cell)
    (h : q ≠ path) : (m.modStaging era path f).stagingOf era q = m.stagingOf era q := by
  have hk : stagingKey era q ≠ stagingKey era path := fun e => h (stagingKey_inj era q path e)
  have he : get? (m.staging.filter fun e => e.1 / 8 == era) (stagingKey era q) = get? m.staging (stagingKey era q) :=
    get?_filter _ _ _ fun v => by cases q <;> simp [stagingKey, pathNum] <;> omega
  unfold Stores.modStaging
  generalize f (m.stagingOf era path) = x
  unfold Stores.stagingOf
  dsimp only
  split
  · simp only [getD, get?_del_ne _ _ _ hk, he]
  · simp only [getD, get?_put_ne _ _ _ _ hk, he]

@[simp] theorem Stores.bar2_modStaging (m : Stores) (era : Nat) (path : Path) (f : List Host.Cell → List Host.Cell) :
    (m.modStaging era path f).bar2 = m.bar2 := rfl

/-- Bytes written to a region keep the canonical form (18 R547). -/
theorem regionWrite_wf {path : Path} {b : Bulk} {data : List Byte} {ok : Bool} {m r : Stores × Sys} (h : m.1.wf = true)
    (hr : regionWrite path b data ok m = .ok r) : r.1.wf = true := by
  simp only [regionWrite] at hr
  split at hr
  · split at hr <;> simp at hr; subst hr; exact h
  · simp at hr; subst hr
    simp only [Stores.wf, Bool.and_eq_true] at h ⊢
    exact ⟨⟨Memory.writeN_wf _ _ _ h.1.1, h.1.2⟩, h.2⟩
  · simp at hr; subst hr; exact Stores.modStaging_wf _ _ _ _ h fun l hl => Memory.writeN_wf _ _ _ hl

/-- A word put into the staging keeps the canonical form (18 R545). -/
theorem stagingPut_wf {path : Path} {n : Nat} {b : List Byte} {m r : Stores × Sys} (h : m.1.wf = true)
    (hr : stagingPut path n b m = .ok r) : r.1.wf = true := by
  simp only [stagingPut] at hr
  split at hr
  · simp at hr
  · split at hr
    · simp at hr
    · simp at hr; subst hr; exact Stores.modStaging_wf _ _ _ _ h fun l hl => Memory.writeN_wf _ _ _ hl

theorem reset_wf : State.reset.stores.wf = true := by decide

/-- What the commands that take the byte memories do with them: a circuit command keeps their form (12 R394). -/
theorem ocsCmd_wf {path : Path} {cmd : Word} {dma : Dma} {m r : Stores × Sys} (h : m.1.wf = true)
    (hr : ocsCmd path cmd dma m = .ok r) : r.1.wf = true := by
  simp only [ocsCmd] at hr
  split at hr
  · simp at hr
  · split at hr
    · simp at hr
    · split at hr
      · simp at hr; subst hr; exact h
      · split at hr
        · split at hr <;> simp at hr; subst hr; exact h
        · simp at hr
      · simp at hr; subst hr
        simp only [demandRead]
        split
        · exact h
        · split
          · exact h
          · rename_i t hw; exact regionWrite_wf (m := (m.1, m.2.accept .ocs path cmd [])) (r := t) h hw
      · simp at hr

/-- A security command keeps their form (19 R570). -/
theorem secCmd_wf {path : Path} {cmd : Word} {dma : Dma} {m r : Stores × Sys} (h : m.1.wf = true)
    (hr : secCmd path cmd dma m = .ok r) : r.1.wf = true := by
  simp only [secCmd] at hr
  split at hr
  · simp at hr
  · split at hr
    · simp at hr
    · split at hr
      · simp at hr
      · split at hr
        · split at hr <;> simp at hr; subst hr; exact h
        · split at hr <;> simp at hr; subst hr; exact h
        · split at hr <;> simp at hr; subst hr; exact h
        · split at hr <;> simp at hr; subst hr; exact h
        · simp at hr; subst hr
          simp only [attest]
          split
          · exact h
          · split
            · exact h
            · split
              · exact h
              · rename_i t hw; exact regionWrite_wf (m := (m.1, m.2.accept .sec path cmd [])) (r := t) h hw

/-- A write of a command slot keeps their form (04 Table 04-4). -/
theorem writeSlot_wf {o : SlotObj} {path : Path} {sub : Nat} {v : Word} {w : World} {m r : Stores × Sys} (h : m.1.wf = true)
    (hr : writeSlot o path sub v w m = .ok r) : r.1.wf = true := by
  simp only [writeSlot] at hr
  split at hr
  · cases o <;> simp only [writeCmd, Except.map] at hr <;>
      first
      | exact ocsCmd_wf h hr
      | exact secCmd_wf h hr
      | (split at hr <;> simp at hr; subst hr; exact h)
  · split at hr <;> simp at hr <;> subst hr <;> exact h

/-- A write of one sub-index keeps their form (18 R538). -/
theorem writeSub_wf {path : Path} {index block sub : Nat} {b : List Byte} {w : World} {m : Stores × Sys}
    {r : (Stores × Sys) × (Sys → Sys)} (h : m.1.wf = true) (hr : writeSub path index block sub b w m = .ok r) :
    r.1.1.wf = true := by
  simp only [writeSub, Except.map] at hr
  split at hr
  · split at hr <;> simp at hr
    subst hr; rename_i hw; exact writeSlot_wf h hw
  · split at hr
    · split at hr
      · split at hr <;> simp at hr; subst hr; exact h
      · split at hr <;> simp at hr
        subst hr; rename_i hw; exact stagingPut_wf h hw
    · repeat' split at hr
      all_goals first | (simp at hr; subst hr; exact h) | (simp at hr)

/-- A run of writes keeps their form (18 R539). -/
theorem writeRun_wf (path : Path) (index block : Nat) (w : World) (sub n : Nat) (b : List Byte) (r : RunState)
    (h : r.mach.1.wf = true) : (writeRun path index block w sub n b r).mach.1.wf = true := by
  induction n generalizing sub b r with
  | zero => exact h
  | succ n ih =>
    simp only [writeRun]
    split
    · exact h
    · split
      · exact h
      · split
        · exact h
        · split
          · exact h
          · rename_i hw; exact ih _ _ _ (writeSub_wf h hw)

/-- A run of reads leaves them. -/
theorem readRun_stores (path : Path) (index block sub n : Nat) (r : RunState) :
    (readRun path index block sub n r).mach.1 = r.mach.1 := by
  induction n generalizing sub r with
  | zero => rfl
  | succ n ih =>
    simp only [readRun]
    split
    · rfl
    · split
      · rfl
      · split
        · rfl
        · rw [ih]

theorem Req.finish_stores (q : Req) (r : RunState) : (q.finish r).1 = r.mach.1 := by
  simp only [Req.finish]; split <;> rfl

/-- A request keeps their form (18 R533, R538, R539). -/
theorem Req.run_wf (q : Req) (m : Stores × Sys) (h : m.1.wf = true) : (q.run m).1.wf = true := by
  simp only [Req.run]
  split
  · exact h
  · exact h
  · split
    · exact h
    · split
      · exact h
      · split
        · rw [Req.finish_stores]; exact writeRun_wf _ _ _ _ _ _ _ _ h
        · rw [Req.finish_stores, readRun_stores]; exact h

/-- A message keeps their form (18 R537). -/
theorem onMessage_wf (want : Nat → Bool) (msg : MsgIn) (world : World) (m : Stores × Sys) (h : m.1.wf = true) :
    (onMessage want msg world m).1.wf = true := by
  have hd : ∀ (d : DictMsg) (path : Path) (n : Stores × Sys), n.1.wf = true → (d.handle path world n).1.wf = true := by
    intro d path n hn
    simp only [DictMsg.handle]
    split
    · exact hn
    · split
      · exact hn
      · split
        · exact hn
        · split
          · exact hn
          · exact Req.run_wf _ _ hn
  cases msg <;> simp only [onMessage]
  · split <;> first | exact hd _ _ _ h | exact h
  · split
    · simp only [onFrame]; split
      · exact h
      · exact hd _ _ (m.1, _) h
    · exact h
  · split
    · exact h
    · exact h
    · split
      · simp only [DictMsg.turnAway]; split <;> exact h
      · exact hd _ _ _ h

/-- What the control host has written into BAR2 keeps their form (18 R536). -/
theorem World.enter_wf (w : World) (m : Stores × Sys) (h : m.1.wf = true) : (World.enter w m).1.wf = true := by
  have hb : ∀ (l : List (Nat × Byte)) (x : List Host.Cell), Memory.wf x = true →
      Memory.wf (l.foldl (fun x e => if e.1 < stagingBytes then Memory.write x e.1 e.2 else x) x) = true := by
    intro l
    induction l with
    | nil => intro x hx; exact hx
    | cons e r ih => intro x hx; refine ih _ ?_; dsimp only; split <;> first | exact Memory.write_wf _ _ _ hx | exact hx
  simp only [World.enter]
  split
  · exact h
  · simp only [Stores.wf, Bool.and_eq_true] at h ⊢
    exact ⟨⟨hb _ _ h.1.1, h.1.2⟩, h.2⟩

/-- A GO keeps their form where what it starts does (18 R535). -/
theorem Sys.go_wf (index : Nat) (write : Bool) (f : Stores × Sys → Stores × Sys) (m : Stores × Sys) (h : m.1.wf = true)
    (hf : (f m).1.wf = true) : (Sys.go index write f m).1.wf = true := by
  simp only [Sys.go]
  repeat' split
  all_goals first | exact h | exact hf

/-- A request of a reserved kind leaves them. -/
theorem reservedOp_stores (q : Req) (op : Nat) (m : Stores × Sys) : (reservedOp q op m).1 = m.1 := by
  simp only [reservedOp]; split <;> rfl

/-- A request of a row that takes the byte memories keeps their form where its effect does. -/
theorem requestM_wf (path : Path) (index block sub : Nat) (f : Stores × Sys → Except Word (Stores × Sys)) (m : Stores × Sys)
    (h : m.1.wf = true) (hf : ∀ t r, t.1.wf = true → f t = .ok r → r.1.wf = true) :
    (requestM path index block sub f m).1.wf = true := by
  simp only [requestM]
  repeat' split
  all_goals first | exact h | (rename_i t ht; exact hf m t h ht)

/-- A circuit command of a row keeps their form. -/
theorem ocsReq_wf (path : Path) (op : Nat) (args : List (Nat × Word)) (dma : Dma) (m : Stores × Sys) (h : m.1.wf = true) :
    (ocsReq path op args dma m).1.wf = true :=
  requestM_wf _ _ _ _ _ _ h fun t _ ht hr => ocsCmd_wf (m := (t.1, t.2.setArgs .ocs path args)) ht hr

/-- A security command of a row keeps their form. -/
theorem secReq_wf (path : Path) (op : Nat) (args : List (Nat × Word)) (dma : Dma) (m : Stores × Sys) (h : m.1.wf = true) :
    (secReq path op args dma m).1.wf = true :=
  requestM_wf _ _ _ _ _ _ h fun t _ ht hr => secCmd_wf (m := (t.1, t.2.setArgs .sec path args)) ht hr

end Sys2Proof.Machine
end

