-- ==== Sys2Proof/Laws/PerInstr.lean ====
section
/-! SUPPORT. The units that a command names are units that the module has: one lemma per command. -/

namespace Sys2Proof.Laws.Units

set_option Elab.async false

/-- The Felt links that a command names as its operand. -/
def links : Instr → List Nat
  | .feltFlitReceive link _ _ _ => [link]
  | .feltNakReceive link _ _ => [link]
  | .feltModulePause link _ _ _ => [link]
  | .feltLaneRepair link _ _ => [link]
  | .feltPropose link _ _ => [link]
  | .feltConfirm link _ _ => [link]
  | .feltAgreeTimeout link => [link]
  | .feltLinkDown link => [link]
  | .feltRetrainRetry link _ _ => [link]
  | .feltRecentre link _ => [link]
  | .feltModtestEnd link _ => [link]
  | _ => []

/-- The logic dies, or the HBM stacks, that a command names as its operands. -/
def dies : Instr → List Nat
  | .grantTimeout a => [a]
  | .stackLoss a _ => [a]
  | .dieLoss a => [a]
  | .routeFenceReturn a b => [a, b]
  | .thermalTrip (.die a) => [a]
  | .thermalTrip (.stack a) => [a]
  | .sensorFail (.die a) => [a]
  | .sensorFail (.stack a) => [a]
  | _ => []

/-- A well-formed command names Felt links 0-37 and dies or stacks 0-19 only (15 R453, 20 Table 20-1, 01 R15). -/
def Statement (i : Instr) : Prop :=
  i.wf = true → (∀ link ∈ links i, link < 38) ∧ ∀ die ∈ dies i, die < 20

theorem packetReceive : ∀ a b, Statement (.packetReceive a b) :=
  fun _ _ _ => ⟨nofun, nofun⟩
theorem packetCommit : ∀ a, Statement (.packetCommit a) :=
  fun _ _ => ⟨nofun, nofun⟩
theorem packetTransmitDone : ∀ a, Statement (.packetTransmitDone a) :=
  fun _ _ => ⟨nofun, nofun⟩
theorem spillReadback : ∀ a b c, Statement (.spillReadback a b c) :=
  fun _ _ _ _ => ⟨nofun, nofun⟩
theorem ringEntry : ∀ a b c, Statement (.ringEntry a b c) :=
  fun _ _ _ _ => ⟨nofun, nofun⟩
theorem replicationResume : ∀ a, Statement (.replicationResume a) :=
  fun _ _ => ⟨nofun, nofun⟩
theorem creditOsReceive : ∀ a b, Statement (.creditOsReceive a b) :=
  fun _ _ _ => ⟨nofun, nofun⟩
theorem creditOsSend : ∀ a, Statement (.creditOsSend a) :=
  fun _ _ => ⟨nofun, nofun⟩
theorem timeOsReceive : ∀ a b, Statement (.timeOsReceive a b) :=
  fun _ _ _ => ⟨nofun, nofun⟩
theorem timeOsSend : ∀ a, Statement (.timeOsSend a) :=
  fun _ _ => ⟨nofun, nofun⟩
theorem linkIdReceive : ∀ a b, Statement (.linkIdReceive a b) :=
  fun _ _ _ => ⟨nofun, nofun⟩
theorem linkIdSend : ∀ a, Statement (.linkIdSend a) :=
  fun _ _ => ⟨nofun, nofun⟩
theorem orderedSetLoss : ∀ a, Statement (.orderedSetLoss a) :=
  fun _ _ => ⟨nofun, nofun⟩
theorem shaperRefill : Statement (.shaperRefill) :=
  fun _ => ⟨nofun, nofun⟩
theorem noticeCacheExpire : ∀ a, Statement (.noticeCacheExpire a) :=
  fun _ _ => ⟨nofun, nofun⟩
theorem controlCycle : ∀ a, Statement (.controlCycle a) :=
  fun _ _ => ⟨nofun, nofun⟩
theorem grantTimeout : ∀ a, Statement (.grantTimeout a) := by
  intro a h
  simp_all [links, dies, Instr.wf, unitOk]
theorem warmupEnd : Statement (.warmupEnd) :=
  fun _ => ⟨nofun, nofun⟩
theorem versionStateWrite : ∀ a b c, Statement (.versionStateWrite a b c) :=
  fun _ _ _ _ => ⟨nofun, nofun⟩
theorem versionRetireExpire : ∀ a, Statement (.versionRetireExpire a) :=
  fun _ _ => ⟨nofun, nofun⟩
theorem drainBoundWrite : ∀ a b, Statement (.drainBoundWrite a b) :=
  fun _ _ _ => ⟨nofun, nofun⟩
theorem sourceEpochWrite : ∀ a b, Statement (.sourceEpochWrite a b) :=
  fun _ _ _ => ⟨nofun, nofun⟩
theorem hashSeedWrite : ∀ a b c, Statement (.hashSeedWrite a b c) :=
  fun _ _ _ _ => ⟨nofun, nofun⟩
theorem forwardingRecordWrite : ∀ a b c, Statement (.forwardingRecordWrite a b c) :=
  fun _ _ _ _ => ⟨nofun, nofun⟩
theorem fenceListWrite : ∀ a b c, Statement (.fenceListWrite a b c) :=
  fun _ _ _ _ => ⟨nofun, nofun⟩
theorem emInsert : ∀ a b c d e, Statement (.emInsert a b c d e) :=
  fun _ _ _ _ _ _ => ⟨nofun, nofun⟩
theorem emDelete : ∀ a b c, Statement (.emDelete a b c) :=
  fun _ _ _ _ => ⟨nofun, nofun⟩
theorem emSearch : ∀ a b c, Statement (.emSearch a b c) :=
  fun _ _ _ _ => ⟨nofun, nofun⟩
theorem emNext : ∀ a b c, Statement (.emNext a b c) :=
  fun _ _ _ _ => ⟨nofun, nofun⟩
theorem lpmInsert : ∀ a b c d e, Statement (.lpmInsert a b c d e) :=
  fun _ _ _ _ _ _ => ⟨nofun, nofun⟩
theorem lpmDelete : ∀ a b c d, Statement (.lpmDelete a b c d) :=
  fun _ _ _ _ _ => ⟨nofun, nofun⟩
theorem lpmSearch : ∀ a b c d e, Statement (.lpmSearch a b c d e) :=
  fun _ _ _ _ _ _ => ⟨nofun, nofun⟩
theorem lpmNext : ∀ a b c, Statement (.lpmNext a b c) :=
  fun _ _ _ _ => ⟨nofun, nofun⟩
theorem groupWrite : ∀ a b c d e, Statement (.groupWrite a b c d e) :=
  fun _ _ _ _ _ _ => ⟨nofun, nofun⟩
theorem groupRead : ∀ a b c, Statement (.groupRead a b c) :=
  fun _ _ _ _ => ⟨nofun, nofun⟩
theorem sprayWrite : ∀ a b c d, Statement (.sprayWrite a b c d) :=
  fun _ _ _ _ _ => ⟨nofun, nofun⟩
theorem sprayRead : ∀ a b c, Statement (.sprayRead a b c) :=
  fun _ _ _ _ => ⟨nofun, nofun⟩
theorem flushByPort : ∀ a b c d, Statement (.flushByPort a b c d) :=
  fun _ _ _ _ _ => ⟨nofun, nofun⟩
theorem versionClear : ∀ a b, Statement (.versionClear a b) :=
  fun _ _ _ => ⟨nofun, nofun⟩
theorem versionCopy : ∀ a b, Statement (.versionCopy a b) :=
  fun _ _ _ => ⟨nofun, nofun⟩
theorem bulkLoad : ∀ a b c d e, Statement (.bulkLoad a b c d e) :=
  fun _ _ _ _ _ _ => ⟨nofun, nofun⟩
theorem filterRead : ∀ a b c, Statement (.filterRead a b c) :=
  fun _ _ _ _ => ⟨nofun, nofun⟩
theorem tableSequencerStep : ∀ a, Statement (.tableSequencerStep a) :=
  fun _ _ => ⟨nofun, nofun⟩
theorem tableWriteComplete : Statement (.tableWriteComplete) :=
  fun _ => ⟨nofun, nofun⟩
theorem creditGrantReceive : ∀ a, Statement (.creditGrantReceive a) :=
  fun _ _ => ⟨nofun, nofun⟩
theorem grantRefreshTimer : ∀ a, Statement (.grantRefreshTimer a) :=
  fun _ _ => ⟨nofun, nofun⟩
theorem timerWheelSlot : ∀ a, Statement (.timerWheelSlot a) :=
  fun _ _ => ⟨nofun, nofun⟩
theorem flowContextFree : ∀ a, Statement (.flowContextFree a) :=
  fun _ _ => ⟨nofun, nofun⟩
theorem contextFetchComplete : ∀ a, Statement (.contextFetchComplete a) :=
  fun _ _ => ⟨nofun, nofun⟩
theorem ctxOpen : ∀ a b c d, Statement (.ctxOpen a b c d) :=
  fun _ _ _ _ _ => ⟨nofun, nofun⟩
theorem ctxClose : ∀ a b, Statement (.ctxClose a b) :=
  fun _ _ _ => ⟨nofun, nofun⟩
theorem ctxAbort : ∀ a b, Statement (.ctxAbort a b) :=
  fun _ _ _ => ⟨nofun, nofun⟩
theorem jobActivate : ∀ a b c, Statement (.jobActivate a b c) :=
  fun _ _ _ _ => ⟨nofun, nofun⟩
theorem jobFlush : ∀ a b c, Statement (.jobFlush a b c) :=
  fun _ _ _ _ => ⟨nofun, nofun⟩
theorem jobDeactivate : ∀ a b, Statement (.jobDeactivate a b) :=
  fun _ _ _ => ⟨nofun, nofun⟩
theorem jobRead : ∀ a b, Statement (.jobRead a b) :=
  fun _ _ _ => ⟨nofun, nofun⟩
theorem jobFlushReclaimDone : ∀ a, Statement (.jobFlushReclaimDone a) :=
  fun _ _ => ⟨nofun, nofun⟩
theorem contributionReceive : ∀ a b, Statement (.contributionReceive a b) :=
  fun _ _ _ => ⟨nofun, nofun⟩
theorem abortNoticeSend : ∀ a, Statement (.abortNoticeSend a) :=
  fun _ _ => ⟨nofun, nofun⟩
theorem vatInputResume : ∀ a b, Statement (.vatInputResume a b) :=
  fun _ _ _ => ⟨nofun, nofun⟩
theorem reduceResultReceive : ∀ a, Statement (.reduceResultReceive a) :=
  fun _ _ => ⟨nofun, nofun⟩
theorem resendRequestReceive : ∀ a, Statement (.resendRequestReceive a) :=
  fun _ _ => ⟨nofun, nofun⟩
theorem tileTimeout : ∀ a b, Statement (.tileTimeout a b) :=
  fun _ _ _ => ⟨nofun, nofun⟩
theorem contextStall : ∀ a, Statement (.contextStall a) :=
  fun _ _ => ⟨nofun, nofun⟩
theorem ctxCloseExpire : ∀ a, Statement (.ctxCloseExpire a) :=
  fun _ _ => ⟨nofun, nofun⟩
theorem errorNoticeReceive : Statement (.errorNoticeReceive) :=
  fun _ => ⟨nofun, nofun⟩
theorem faultNoticeReceive : Statement (.faultNoticeReceive) :=
  fun _ => ⟨nofun, nofun⟩
theorem graphSubmit : ∀ a b c, Statement (.graphSubmit a b c) :=
  fun _ _ _ _ => ⟨nofun, nofun⟩
theorem graphLoadComplete : ∀ a, Statement (.graphLoadComplete a) :=
  fun _ _ => ⟨nofun, nofun⟩
theorem graphCancel : ∀ a b c, Statement (.graphCancel a b c) :=
  fun _ _ _ _ => ⟨nofun, nofun⟩
theorem graphRelease : ∀ a b c, Statement (.graphRelease a b c) :=
  fun _ _ _ _ => ⟨nofun, nofun⟩
theorem graphArrive : ∀ a b c d, Statement (.graphArrive a b c d) :=
  fun _ _ _ _ _ => ⟨nofun, nofun⟩
theorem submitData : ∀ a, Statement (.submitData a) :=
  fun _ _ => ⟨nofun, nofun⟩
theorem submitCommit : ∀ a, Statement (.submitCommit a) :=
  fun _ _ => ⟨nofun, nofun⟩
theorem arrive : ∀ a, Statement (.arrive a) :=
  fun _ _ => ⟨nofun, nofun⟩
theorem cancel : ∀ a, Statement (.cancel a) :=
  fun _ _ => ⟨nofun, nofun⟩
theorem stagingTimeout : ∀ a b c, Statement (.stagingTimeout a b c) :=
  fun _ _ _ _ => ⟨nofun, nofun⟩
theorem admissionPass : ∀ a, Statement (.admissionPass a) :=
  fun _ _ => ⟨nofun, nofun⟩
theorem waitTimeDue : ∀ a b, Statement (.waitTimeDue a b) :=
  fun _ _ _ => ⟨nofun, nofun⟩
theorem nodeStarved : ∀ a b, Statement (.nodeStarved a b) :=
  fun _ _ _ => ⟨nofun, nofun⟩
theorem graphAutorelease : ∀ a, Statement (.graphAutorelease a) :=
  fun _ _ => ⟨nofun, nofun⟩
theorem bcOpen : ∀ a b c d, Statement (.bcOpen a b c d) :=
  fun _ _ _ _ _ => ⟨nofun, nofun⟩
theorem bcLoad : ∀ a b c d e f g, Statement (.bcLoad a b c d e f g) :=
  fun _ _ _ _ _ _ _ _ => ⟨nofun, nofun⟩
theorem bcSend : ∀ a b c d e, Statement (.bcSend a b c d e) :=
  fun _ _ _ _ _ _ => ⟨nofun, nofun⟩
theorem bcClose : ∀ a b c, Statement (.bcClose a b c) :=
  fun _ _ _ _ => ⟨nofun, nofun⟩
theorem broadcastSegmentReceive : ∀ a, Statement (.broadcastSegmentReceive a) :=
  fun _ _ => ⟨nofun, nofun⟩
theorem segmentSend : ∀ a, Statement (.segmentSend a) :=
  fun _ _ => ⟨nofun, nofun⟩
theorem receiverUnreachable : ∀ a b c, Statement (.receiverUnreachable a b c) :=
  fun _ _ _ _ => ⟨nofun, nofun⟩
theorem upstreamStall : ∀ a b, Statement (.upstreamStall a b) :=
  fun _ _ _ => ⟨nofun, nofun⟩
theorem pullAckTimeout : ∀ a b, Statement (.pullAckTimeout a b) :=
  fun _ _ _ => ⟨nofun, nofun⟩
theorem bcPull : ∀ a, Statement (.bcPull a) :=
  fun _ _ => ⟨nofun, nofun⟩
theorem bcPullAck : ∀ a, Statement (.bcPullAck a) :=
  fun _ _ => ⟨nofun, nofun⟩
theorem bcCloseExpire : ∀ a b, Statement (.bcCloseExpire a b) :=
  fun _ _ _ => ⟨nofun, nofun⟩
theorem parityReceive : ∀ a b, Statement (.parityReceive a b) :=
  fun _ _ _ => ⟨nofun, nofun⟩
theorem rebuildShardSend : ∀ a b, Statement (.rebuildShardSend a b) :=
  fun _ _ _ => ⟨nofun, nofun⟩
theorem quireAlloc : ∀ a b c d e f, Statement (.quireAlloc a b c d e f) :=
  fun _ _ _ _ _ _ _ => ⟨nofun, nofun⟩
theorem quireFree : ∀ a b, Statement (.quireFree a b) :=
  fun _ _ _ => ⟨nofun, nofun⟩
theorem gateCommit : ∀ a b, Statement (.gateCommit a b) :=
  fun _ _ _ => ⟨nofun, nofun⟩
theorem gateListStart : ∀ a, Statement (.gateListStart a) :=
  fun _ _ => ⟨nofun, nofun⟩
theorem gateEntryChange : ∀ a, Statement (.gateEntryChange a) :=
  fun _ _ => ⟨nofun, nofun⟩
theorem demandClose : Statement (.demandClose) :=
  fun _ => ⟨nofun, nofun⟩
theorem demandReq : Statement (.demandReq) :=
  fun _ => ⟨nofun, nofun⟩
theorem planSubmit : ∀ a b c d, Statement (.planSubmit a b c d) :=
  fun _ _ _ _ _ => ⟨nofun, nofun⟩
theorem planCancel : ∀ a b, Statement (.planCancel a b) :=
  fun _ _ _ => ⟨nofun, nofun⟩
theorem demandRead : ∀ a b c, Statement (.demandRead a b c) :=
  fun _ _ _ _ => ⟨nofun, nofun⟩
theorem planDrain : ∀ a, Statement (.planDrain a) :=
  fun _ _ => ⟨nofun, nofun⟩
theorem planMove : ∀ a, Statement (.planMove a) :=
  fun _ _ => ⟨nofun, nofun⟩
theorem planRejoin : ∀ a, Statement (.planRejoin a) :=
  fun _ _ => ⟨nofun, nofun⟩
theorem planReflip : ∀ a, Statement (.planReflip a) :=
  fun _ _ => ⟨nofun, nofun⟩
theorem planLimit : ∀ a, Statement (.planLimit a) :=
  fun _ _ => ⟨nofun, nofun⟩
theorem portConfigWrite : ∀ a b c, Statement (.portConfigWrite a b c) :=
  fun _ _ _ _ => ⟨nofun, nofun⟩
theorem portDrain : ∀ a b, Statement (.portDrain a b) :=
  fun _ _ _ => ⟨nofun, nofun⟩
theorem portResume : ∀ a b, Statement (.portResume a b) :=
  fun _ _ _ => ⟨nofun, nofun⟩
theorem portForget : ∀ a b, Statement (.portForget a b) :=
  fun _ _ _ => ⟨nofun, nofun⟩
theorem laneTest : ∀ a b c d, Statement (.laneTest a b c d) :=
  fun _ _ _ _ _ => ⟨nofun, nofun⟩
theorem laneTestEnd : ∀ a b, Statement (.laneTestEnd a b) :=
  fun _ _ _ => ⟨nofun, nofun⟩
theorem dieBist : ∀ a b, Statement (.dieBist a b) :=
  fun _ _ _ => ⟨nofun, nofun⟩
theorem dieBistComplete : ∀ a b, Statement (.dieBistComplete a b) :=
  fun _ _ _ => ⟨nofun, nofun⟩
theorem cmisRead : ∀ a b c d e, Statement (.cmisRead a b c d e) :=
  fun _ _ _ _ _ _ => ⟨nofun, nofun⟩
theorem cmisWrite : ∀ a b c d e f, Statement (.cmisWrite a b c d e f) :=
  fun _ _ _ _ _ _ _ => ⟨nofun, nofun⟩
theorem cageInsert : ∀ a b, Statement (.cageInsert a b) :=
  fun _ _ _ => ⟨nofun, nofun⟩
theorem cageRemove : ∀ a, Statement (.cageRemove a) :=
  fun _ _ => ⟨nofun, nofun⟩
theorem cageOvercurrent : ∀ a, Statement (.cageOvercurrent a) :=
  fun _ _ => ⟨nofun, nofun⟩
theorem cmisInterrupt : ∀ a b, Statement (.cmisInterrupt a b) :=
  fun _ _ _ => ⟨nofun, nofun⟩
theorem cmisPoll : ∀ a b, Statement (.cmisPoll a b) :=
  fun _ _ _ => ⟨nofun, nofun⟩
theorem trainingComplete : ∀ a b, Statement (.trainingComplete a b) :=
  fun _ _ _ => ⟨nofun, nofun⟩
theorem trainingRetry : ∀ a, Statement (.trainingRetry a) :=
  fun _ _ => ⟨nofun, nofun⟩
theorem seasoningComplete : ∀ a, Statement (.seasoningComplete a) :=
  fun _ _ => ⟨nofun, nofun⟩
theorem seasoningOverdue : ∀ a, Statement (.seasoningOverdue a) :=
  fun _ _ => ⟨nofun, nofun⟩
theorem cleanTime60s : ∀ a, Statement (.cleanTime60s a) :=
  fun _ _ => ⟨nofun, nofun⟩
theorem linkFault : ∀ a b, Statement (.linkFault a b) :=
  fun _ _ _ => ⟨nofun, nofun⟩
theorem laneDegrade : ∀ a b c, Statement (.laneDegrade a b c) :=
  fun _ _ _ _ => ⟨nofun, nofun⟩
theorem laneBerWindow : ∀ a b c, Statement (.laneBerWindow a b c) :=
  fun _ _ _ _ => ⟨nofun, nofun⟩
theorem warmRetrainComplete : ∀ a b c, Statement (.warmRetrainComplete a b c) :=
  fun _ _ _ _ => ⟨nofun, nofun⟩
theorem warmRetrainTimeout : ∀ a, Statement (.warmRetrainTimeout a) :=
  fun _ _ => ⟨nofun, nofun⟩
theorem drainComplete : ∀ a, Statement (.drainComplete a) :=
  fun _ _ => ⟨nofun, nofun⟩
theorem eyeMarginMeasure : ∀ a b, Statement (.eyeMarginMeasure a b) :=
  fun _ _ _ => ⟨nofun, nofun⟩
theorem patrolScrubRead : ∀ a b c, Statement (.patrolScrubRead a b c) :=
  fun _ _ _ _ => ⟨nofun, nofun⟩
theorem hbmUncorrectable : ∀ a b, Statement (.hbmUncorrectable a b) :=
  fun _ _ _ => ⟨nofun, nofun⟩
theorem sramUncorrectable : ∀ a, Statement (.sramUncorrectable a) :=
  fun _ _ => ⟨nofun, nofun⟩
theorem sramBankRotate : ∀ a b, Statement (.sramBankRotate a b) :=
  fun _ _ _ => ⟨nofun, nofun⟩
theorem stackLoss : ∀ a b, Statement (.stackLoss a b) := by
  intro a b h
  simp_all [links, dies, Instr.wf, stackOk]
theorem stackRemapComplete : Statement (.stackRemapComplete) :=
  fun _ => ⟨nofun, nofun⟩
theorem dieLoss : ∀ a, Statement (.dieLoss a) := by
  intro a h
  simp_all [links, dies, Instr.wf, unitOk]
theorem feltFlitReceive : ∀ a b c d, Statement (.feltFlitReceive a b c d) := by
  intro a b c d h
  simp_all [links, dies, Instr.wf, linkOk, flitOk]
theorem feltNakReceive : ∀ a b c, Statement (.feltNakReceive a b c) := by
  intro a b c h
  simp_all [links, dies, Instr.wf, linkOk, flitOk]
theorem feltModulePause : ∀ a b c d, Statement (.feltModulePause a b c d) := by
  intro a b c d h
  simp_all [links, dies, Instr.wf, linkOk]
theorem feltLaneRepair : ∀ a b c, Statement (.feltLaneRepair a b c) := by
  intro a b c h
  simp_all [links, dies, Instr.wf, linkOk]
theorem feltPropose : ∀ a b c, Statement (.feltPropose a b c) := by
  intro a b c h
  simp_all [links, dies, Instr.wf, linkOk]
theorem feltConfirm : ∀ a b c, Statement (.feltConfirm a b c) := by
  intro a b c h
  simp_all [links, dies, Instr.wf, linkOk]
theorem feltAgreeTimeout : ∀ a, Statement (.feltAgreeTimeout a) := by
  intro a h
  simp_all [links, dies, Instr.wf, linkOk]
theorem feltLinkDown : ∀ a, Statement (.feltLinkDown a) := by
  intro a h
  simp_all [links, dies, Instr.wf, linkOk]
theorem feltRetrainRetry : ∀ a b c, Statement (.feltRetrainRetry a b c) := by
  intro a b c h
  simp_all [links, dies, Instr.wf, linkOk]
theorem routeFenceReturn : ∀ a b, Statement (.routeFenceReturn a b) := by
  intro a b h
  simp_all [links, dies, Instr.wf, unitOk]
theorem feltRecentre : ∀ a b, Statement (.feltRecentre a b) := by
  intro a b h
  simp_all [links, dies, Instr.wf, linkOk]
theorem feltModtest : ∀ a b c d, Statement (.feltModtest a b c d) :=
  fun _ _ _ _ _ => ⟨nofun, nofun⟩
theorem feltModtestEnd : ∀ a b, Statement (.feltModtestEnd a b) := by
  intro a b h
  simp_all [links, dies, Instr.wf, linkOk]
theorem feltRetrain : ∀ a b, Statement (.feltRetrain a b) :=
  fun _ _ _ => ⟨nofun, nofun⟩
theorem ptpMessageReceive : ∀ a b, Statement (.ptpMessageReceive a b) :=
  fun _ _ _ => ⟨nofun, nofun⟩
theorem ptpSourceTimeout : ∀ a, Statement (.ptpSourceTimeout a) :=
  fun _ _ => ⟨nofun, nofun⟩
theorem timeOsTimeout : ∀ a, Statement (.timeOsTimeout a) :=
  fun _ _ => ⟨nofun, nofun⟩
theorem ppsInEdge : Statement (.ppsInEdge) :=
  fun _ => ⟨nofun, nofun⟩
theorem ppsTimeout : Statement (.ppsTimeout) :=
  fun _ => ⟨nofun, nofun⟩
theorem ppsOutEdge : Statement (.ppsOutEdge) :=
  fun _ => ⟨nofun, nofun⟩
theorem timeStepApply : Statement (.timeStepApply) :=
  fun _ => ⟨nofun, nofun⟩
theorem holdoverLimit : Statement (.holdoverLimit) :=
  fun _ => ⟨nofun, nofun⟩
theorem ref10mDetect : ∀ a, Statement (.ref10mDetect a) :=
  fun _ _ => ⟨nofun, nofun⟩
theorem settimeLo : ∀ a b, Statement (.settimeLo a b) :=
  fun _ _ _ => ⟨nofun, nofun⟩
theorem exthiRead : ∀ a, Statement (.exthiRead a) :=
  fun _ _ => ⟨nofun, nofun⟩
theorem pwrFailEarlyAssert : Statement (.pwrFailEarlyAssert) :=
  fun _ => ⟨nofun, nofun⟩
theorem pwrFailEarlyRelease : Statement (.pwrFailEarlyRelease) :=
  fun _ => ⟨nofun, nofun⟩
theorem inputDip : ∀ a, Statement (.inputDip a) :=
  fun _ _ => ⟨nofun, nofun⟩
theorem inputLoss : Statement (.inputLoss) :=
  fun _ => ⟨nofun, nofun⟩
theorem budget : ∀ a, Statement (.budget a) :=
  fun _ _ => ⟨nofun, nofun⟩
theorem budgetStale : Statement (.budgetStale) :=
  fun _ => ⟨nofun, nofun⟩
theorem facstatus : Statement (.facstatus) :=
  fun _ => ⟨nofun, nofun⟩
theorem thermalTrip : ∀ a, Statement (.thermalTrip a) := by
  intro a h
  cases a <;> simp_all [links, dies, Instr.wf, sensorOk, unitOk, stackOk]
theorem sensorFail : ∀ a, Statement (.sensorFail a) := by
  intro a h
  cases a <;> simp_all [links, dies, Instr.wf, sensorOk, unitOk, stackOk]
theorem sensorSample10ms : ∀ a b c, Statement (.sensorSample10ms a b c) :=
  fun _ _ _ _ => ⟨nofun, nofun⟩
theorem profileSelectWrite : ∀ a b c d, Statement (.profileSelectWrite a b c d) :=
  fun _ _ _ _ _ => ⟨nofun, nofun⟩
theorem collierFailover : ∀ a, Statement (.collierFailover a) :=
  fun _ _ => ⟨nofun, nofun⟩
theorem failover : ∀ a b, Statement (.failover a b) :=
  fun _ _ _ => ⟨nofun, nofun⟩
theorem heartbeatTimeout : Statement (.heartbeatTimeout) :=
  fun _ => ⟨nofun, nofun⟩
theorem mailboxRead : ∀ a b c d, Statement (.mailboxRead a b c d) :=
  fun _ _ _ _ _ => ⟨nofun, nofun⟩
theorem mailboxWrite : ∀ a b c d e f, Statement (.mailboxWrite a b c d e f) :=
  fun _ _ _ _ _ _ _ => ⟨nofun, nofun⟩
theorem read : ∀ a, Statement (.read a) :=
  fun _ _ => ⟨nofun, nofun⟩
theorem write : ∀ a b, Statement (.write a b) :=
  fun _ _ _ => ⟨nofun, nofun⟩
theorem registerWrite : ∀ a b c d e f, Statement (.registerWrite a b c d e f) :=
  fun _ _ _ _ _ _ _ => ⟨nofun, nofun⟩
theorem define : ∀ a b, Statement (.define a b) :=
  fun _ _ _ => ⟨nofun, nofun⟩
theorem stagingDataAccess : ∀ a b c d, Statement (.stagingDataAccess a b c d) :=
  fun _ _ _ _ _ => ⟨nofun, nofun⟩
theorem journalFlush : ∀ a, Statement (.journalFlush a) :=
  fun _ _ => ⟨nofun, nofun⟩
theorem journalCompact : ∀ a, Statement (.journalCompact a) :=
  fun _ _ => ⟨nofun, nofun⟩
theorem journalClear : ∀ a b, Statement (.journalClear a b) :=
  fun _ _ _ => ⟨nofun, nofun⟩
theorem sessionHello : ∀ a b, Statement (.sessionHello a b) :=
  fun _ _ _ => ⟨nofun, nofun⟩
theorem sessionConfirm : ∀ a, Statement (.sessionConfirm a) :=
  fun _ _ => ⟨nofun, nofun⟩
theorem sessionEnd : ∀ a, Statement (.sessionEnd a) :=
  fun _ _ => ⟨nofun, nofun⟩
theorem handshakeTimeout : ∀ a, Statement (.handshakeTimeout a) :=
  fun _ _ => ⟨nofun, nofun⟩
theorem sessionTimeout : ∀ a, Statement (.sessionTimeout a) :=
  fun _ _ => ⟨nofun, nofun⟩
theorem fwStage : ∀ a b c d, Statement (.fwStage a b c d) :=
  fun _ _ _ _ _ => ⟨nofun, nofun⟩
theorem fwActivate : ∀ a b, Statement (.fwActivate a b) :=
  fun _ _ _ => ⟨nofun, nofun⟩
theorem fwCommit : ∀ a, Statement (.fwCommit a) :=
  fun _ _ => ⟨nofun, nofun⟩
theorem fwRevert : ∀ a, Statement (.fwRevert a) :=
  fun _ _ => ⟨nofun, nofun⟩
theorem attest : ∀ a b c d, Statement (.attest a b c d) :=
  fun _ _ _ _ _ => ⟨nofun, nofun⟩
theorem trialTimeout : Statement (.trialTimeout) :=
  fun _ => ⟨nofun, nofun⟩
theorem counterFreeze : ∀ a, Statement (.counterFreeze a) :=
  fun _ _ => ⟨nofun, nofun⟩
theorem counterUnfreeze : ∀ a, Statement (.counterUnfreeze a) :=
  fun _ _ => ⟨nofun, nofun⟩
theorem counterSnapshot : ∀ a, Statement (.counterSnapshot a) :=
  fun _ _ => ⟨nofun, nofun⟩
theorem counterClear : ∀ a, Statement (.counterClear a) :=
  fun _ _ => ⟨nofun, nofun⟩
theorem counterClearSaturating : ∀ a, Statement (.counterClearSaturating a) :=
  fun _ _ => ⟨nofun, nofun⟩
theorem atact : ∀ a b, Statement (.atact a b) :=
  fun _ _ _ => ⟨nofun, nofun⟩
theorem counterActionApply : Statement (.counterActionApply) :=
  fun _ => ⟨nofun, nofun⟩
theorem counterOverflowSample : ∀ a b c d, Statement (.counterOverflowSample a b c d) :=
  fun _ _ _ _ _ => ⟨nofun, nofun⟩
theorem sampleRecordRead : ∀ a, Statement (.sampleRecordRead a) :=
  fun _ _ => ⟨nofun, nofun⟩
theorem bandwidthWindowClose : Statement (.bandwidthWindowClose) :=
  fun _ => ⟨nofun, nofun⟩
theorem errorLogRead : ∀ a, Statement (.errorLogRead a) :=
  fun _ _ => ⟨nofun, nofun⟩
theorem fullReset : ∀ a b, Statement (.fullReset a b) :=
  fun _ _ _ => ⟨nofun, nofun⟩
theorem kindlingPhaseComplete : ∀ a, Statement (.kindlingPhaseComplete a) :=
  fun _ _ => ⟨nofun, nofun⟩
theorem reset : ∀ a b, Statement (.reset a b) :=
  fun _ _ _ => ⟨nofun, nofun⟩
theorem orderlyShutdown : ∀ a, Statement (.orderlyShutdown a) :=
  fun _ _ => ⟨nofun, nofun⟩
theorem diereset : ∀ a b, Statement (.diereset a b) :=
  fun _ _ _ => ⟨nofun, nofun⟩
theorem dieWatchdogExpire : ∀ a, Statement (.dieWatchdogExpire a) :=
  fun _ _ => ⟨nofun, nofun⟩
theorem dieResetExit : ∀ a b, Statement (.dieResetExit a b) :=
  fun _ _ _ => ⟨nofun, nofun⟩
theorem dieResetTimeout : ∀ a, Statement (.dieResetTimeout a) :=
  fun _ _ => ⟨nofun, nofun⟩
theorem mateNChange : ∀ a, Statement (.mateNChange a) :=
  fun _ _ => ⟨nofun, nofun⟩
theorem perstNAssert : Statement (.perstNAssert) :=
  fun _ => ⟨nofun, nofun⟩
theorem j2Loss : ∀ a, Statement (.j2Loss a) :=
  fun _ _ => ⟨nofun, nofun⟩
theorem dipEnd : Statement (.dipEnd) :=
  fun _ => ⟨nofun, nofun⟩
theorem standbyLoss : Statement (.standbyLoss) :=
  fun _ => ⟨nofun, nofun⟩
theorem standbyReady : Statement (.standbyReady) :=
  fun _ => ⟨nofun, nofun⟩
theorem collierWatchdogExpire : Statement (.collierWatchdogExpire) :=
  fun _ => ⟨nofun, nofun⟩
theorem perstNRelease : Statement (.perstNRelease) :=
  fun _ => ⟨nofun, nofun⟩
theorem resetNAssert : Statement (.resetNAssert) :=
  fun _ => ⟨nofun, nofun⟩
theorem fwStageComplete : Statement (.fwStageComplete) :=
  fun _ => ⟨nofun, nofun⟩

end Sys2Proof.Laws.Units
end

