-- ==== Sys2Proof/Tests/Slice0.lean ====
section
/-! SUPPORT. Tests. For every statement with hypotheses, `witness_<statement>` shows states and operands that meet the
hypotheses of each of its clauses; `test_illformed_…` shows a term that each check of WellFormed refuses; the other tests take
their expected values from the spec's own words. -/


namespace Sys2Proof.Tests

set_option maxRecDepth 8000
set_option Elab.async false

open Sys2Proof Sys2Proof.Machine

/-- The module at READY on the PCIe path, with valid time. -/
def up : State := { State.reset with sys := { State.reset.sys with boot := { mode := .ready }, clk := { valid := true } } }
/-- `up` with its registers put through `f`. -/
def upWith (f : Sys → Sys) : State := up.onSys f
/-- A bulk slot 0 of the PCIe path in BAR2. -/
def bulkSlot : Bulk := { kind := 2, len := 65536, gen := 1, handle := 0x10000010, dKind := 2, dAddr := 0, dLen := 65536 }

/-- A packet of 0 payload bytes from port 0 for port 8 through a source hop. -/
def hopPkt : Pkt :=
  ({ hlen := 6, xp := true, rm := rmSource, dgei := 9, sgei := 10, kind := 1,
     ext := .sr (BitVec.ofNat 128 (1 * 2 ^ 120 + 8 * 2 ^ 102)) } : Pkt).seal

/-- `up` with ports 0 and 8 Up, in one direction each. -/
def wired : State :=
  upWith fun x =>
    ((x.modPort 0 fun q => { q with st := .up, active := 0xFF, peerState := 2, credit := [6528, 1024, 64, 64] }).modPort 8
      fun q => { q with st := .up, active := 0xFF, peerState := 2, credit := [6528, 1024, 64, 64] }).modNv
      fun n => { n with dir := [(0, 0), (8, 0)] }

/-- A buffered packet of port 0. -/
def hopRec : PktRec :=
  { pkt := hopPkt, ingress := some 0, die := 0, pool := .ingress 0 0, cells := 1, copies := 1, crcOk := true, arrived := 0,
    header := [] }

/-- Its descriptor. -/
def hopDesc : Desc := { id := 0, len := 48, tc := 0, vc := false }

/-- `wired` with the packet in a queue of port 8. -/
def queued : State :=
  wired.onSys fun x =>
    (x.modSw fun w => { w with pkt := [(0, hopRec)], nextId := 1 }).modEg 8 fun e => { e with queue := [(0, [hopDesc])] }

/-- `wired` with the packet on the wire of port 8. -/
def sending : State :=
  wired.onSys fun x => (x.modSw fun w => { w with pkt := [(0, hopRec)], nextId := 1 }).modEg 8 fun e => { e with tx := some hopDesc }

/-- `wired` when the packet is older than the drain bound. -/
def late : State := wired.onSys (Sys.toExt 2000001)

/-- What the clauses of `Obligations.PacketReceiveRuns` assume is met. -/
theorem witness_PacketReceiveRuns :
    (wired.sys.port 0).st = .up ∧
    (let y := wired.sys.arrived 0 48
      let c := y.takeCtr (y.pipeKey 0 (some 0))
      y.receiveChecks (Pkt.parse hopPkt.bytes) 48 = none ∧ hopPkt.bytes.length = 48 ∧
      y.tooOld (Pkt.parse hopPkt.bytes) = false ∧ (Pkt.parse hopPkt.bytes).dataOk = true ∧
      ((c.2.resolve 0 (Pkt.parse hopPkt.bytes) (some 0) c.1).1 matches .port 8 none _)) ∧
    (wired.sys.arrived 0 48).receiveChecks (Pkt.parse []) 0 = some (fwdLength, false) ∧
    ((late.sys.arrived 0 48).receiveChecks (Pkt.parse hopPkt.bytes) 48 = none ∧
      (late.sys.arrived 0 48).tooOld (Pkt.parse hopPkt.bytes) = true) := by decide +kernel

/-- Its descriptor on the wire of port 0's neighbour with 200 ns left, when the queue of port 8 is looked at. -/
def busyWire : State := queued.onSys fun x => x.modEg 8 fun e => { e with tx := some hopDesc, txEnd := 200 }

/-- What the clauses of `Obligations.CommitAndTransmitRun` assume is met. -/
theorem witness_CommitAndTransmitRun :
    (let y := (if (queued.sys.eg 8).tx.isSome ∧ (queued.sys.eg 8).committed.isNone then queued.sys.toMono ((queued.sys.eg 8).txEnd - 120)
        else queued.sys).dropSpilled 8;
      (y.eg 8).committed = none ∧ (y.pick 8 matches (some (0, _), _)) ∧ y.descOld hopDesc = false ∧ y.descBad hopDesc = false) ∧
    (let y := (if (busyWire.sys.eg 8).tx.isSome ∧ (busyWire.sys.eg 8).committed.isNone then
          busyWire.sys.toMono ((busyWire.sys.eg 8).txEnd - 120) else busyWire.sys).dropSpilled 8;
      (y.eg 8).committed = none ∧ (y.pick 8 matches (some (0, _), _)) ∧ y.descOld hopDesc = false ∧ y.descBad hopDesc = false) ∧
    (let y := (if (wired.sys.eg 8).tx.isSome ∧ (wired.sys.eg 8).committed.isNone then wired.sys.toMono ((wired.sys.eg 8).txEnd - 120)
        else wired.sys).dropSpilled 8;
      (y.eg 8).committed = none ∧ (y.pick 8 matches (none, _))) ∧
    ((sending.sys.eg 8).tx = some hopDesc ∧ sending.sys.pktRec 0 = some hopRec ∧ hopRec.ingress = some 0) := by decide +kernel

/-- A spilled packet at the head of a queue of port 8, with tokens. -/
def spilled : State :=
  queued.onSys fun x =>
    (x.modEg 8 fun e => { e with queue := [(0, [{ hopDesc with spilled := true }])] }).modHearth fun h => { h with tokRead := 48 }

/-- A transfer on its way round the rising ring from die 0 to die 2. -/
def crossing (i : Nat) : Crossing :=
  { kind := .packet, src := 0, dst := 2, bytes := [], use := .pull 128 i, legs := [{ entry := 0, up := true, exit := 2 }] }

/-- Two packets and two memory transfers wait for the rising ring of die 0, whose packet slots are taken up to two. -/
def ringing : State :=
  queued.onSys fun x =>
    x.modRing 0 true fun r =>
      { r with pkts := (List.range 30).map crossing, waitPkt := [crossing 40, crossing 41], waitMem := [crossing 42, crossing 43] }

/-- The packet waits for its copies on die 0, and a packet behind it for its queue of port 8. -/
def replicating : State :=
  queued.onSys fun x =>
    x.modSw fun w =>
      { w with replWait := [{ die := 0, id := 0, ports := [8] }, { die := 0, id := 1, ports := [8], unicast := some none }] }

/-- A CREDIT ordered set with counters at 65,535, 0, 1 and 2. -/
def creditSet : List Byte := osBuild 1 0 (toBe 2 65535 ++ toBe 2 0 ++ toBe 2 1 ++ toBe 2 2)

/-- What the clauses of `Obligations.CreditReceiveReturnsTheDifference` assume is met. -/
theorem witness_CreditReceiveReturnsTheDifference :
    (wired.sys.port 0).linked = true ∧ creditSet.length = 16 ∧ osOk creditSet = true ∧ beAt creditSet 0 1 = 1 := by decide +kernel

/-- What the clauses of `Obligations.BufferAndOrderedSetEventsRun` assume is met. -/
theorem witness_BufferAndOrderedSetEventsRun :
    (((let q := (spilled.sys.eg 8).q (queueKey 0 false)
      (∀ x ∈ q, spilled.sys.descOld x = false) ∧
      q.drop (q.takeWhile fun x => !x.spilled).length = [{ hopDesc with spilled := true }] ∧
      spilled.sys.pktRec 0 = some hopRec ∧ hopDesc.mcast = false ∧
      sum ((q.takeWhile fun x => !x.spilled).map Desc.len) < 16384 ∧
      hopDesc.len ≤ spilled.sys.tokens .readBack ∧ spilled.sys.hearth.noGrant.contains 0 = false ∧
      getD spilled.sys.sw.spillRet 0 0 + hopRec.cells ≤ returnCells)) ∧
    (((ringing.sys.ringMove 0 true false).ringDir 0 true).waitPkt = [crossing 40, crossing 41] ∧
      ((ringing.sys.ringMove 0 true false).ringDir 0 true).pkts.length + 2 ≤ pktSlots) ∧
    (let t := (ringing.sys.ringPkt 0 true).ringMove 0 true true;
      (t.ringDir 0 true).waitMem = [crossing 42, crossing 43] ∧ (t.ringDir 0 true).mems.length + 2 ≤ memSlots) ∧
    (let t := replicating.sys.passUnicast 0 replicating.sys.sw.replWait.length;
      t.sw.replWait.find? (fun w => w.die == 0) = some { die := 0, id := 0, ports := [8] } ∧ t.pktRec 0 = some hopRec ∧
      t.copyRoom 0 hopRec.cells = true)) ∧
    ((wired.sys.port 0).linked = true ∧ (wired.sys.eg 0).tx = none ∧
      (wired.sys.modNv fun n => { n with coordValid := true }).nv.coordValid = true) ∧
    (getD (upWith fun x => x.modFwd fun f => { f with cache := [(15, [(1, 2, 3)])] }).sys.fwd.cache 15 [] = [(1, 2, 3)]) := by
  decide +kernel

/-- A RETIRING version 1. -/
def retiring : Interval := { fabric := true, start := 0, len := 2000000 }

/-- What the clauses of `Obligations.VersionRegistersRun` assume is met. -/
theorem witness_VersionRegistersRun :
    (up.sys.takes .pcie 0x3002 ∧ up.sys.longOn true = false ∧ up.sys.verState true = 0) ∧
    ((upWith (Sys.setVer true 1 none)).sys.takes .pcie 0x3002 ∧ (upWith (Sys.setVer true 1 none)).sys.longOn false = false ∧
      (upWith (Sys.setVer true 1 none)).sys.verState false = 1 ∧ (upWith (Sys.setVer true 1 none)).sys.verState true = 1) ∧
    ((upWith (Sys.setVer true 2 (some retiring))).sys.fwd.retire1 = some retiring ∧
      (upWith (Sys.setVer true 2 (some retiring))).sys.verState true = 2) ∧
    (up.sys.takes .pcie 0x3001 ∧ (up.sys.rwsOk matches .ok ()) ∧ 100 ≤ (100000 : Word).toNat ∧
      (100000 : Word).toNat ≤ 100000) ∧
    (up.sys.takes .pcie 0x3003) ∧
    (up.sys.takes .pcie 0x3010 ∧ up.sys.verState true = 0 ∧ up.sys.copying true = false ∧ (up.sys.tab.seqVer true).em = [] ∧
      (up.sys.tab.seqVer true).lpm = []) := by decide

/-- A table with one exact-match entry and one prefix where a search finds them. -/
def tabled : State :=
  upWith fun x => x.modTab fun t =>
    { t with v0 := { em := [((emCands 0 7).getD 0 0, { key := 7, result := 0x40000005 })],
                     lpm := [((lpmCands 0 0x07000000 8).getD 0 0, { pfx := 0x07000000, len := 8, result := 0x40000006 })] } }

/-- What the clauses of `Obligations.TableEntriesAreWritten` assume is met. -/
theorem witness_TableEntriesAreWritten :
    (up.sys.tableOpen .pcie false ∧ fld 0x80000000 31 31 = 1 ∧ resultOk 0x40000005 = true ∧
      up.sys.tab.long.any (fun l => l.blocks false 1 0x40000005 [] {}) = false ∧
      ((up.sys.tab.seqVer false).emPlace { key := 7, result := resultOf 0x40000005 }).isSome = true) ∧
    (tabled.sys.tableOpen .pcie false ∧ ((tabled.sys.tab.seqVer false).emFind 7).isSome = true ∧
      (tabled.sys.tab.seqVer false).emFind 8 = none) ∧
    (up.sys.tab.long.any (fun l => l.blocks false 5 0x40000005 [] {}) = false ∧
      prefixOk 0x07000000 (fld 0x80000008 5 0) = true ∧ fld 0x80000008 31 31 = 1 ∧
      ((up.sys.tab.seqVer false).lpmPlace { pfx := 0x07000000, len := fld 0x80000008 5 0, result := resultOf 0x40000005 }).isSome =
        true) ∧
    (prefixOk 0x07000000 (fld 8 5 0) = true ∧ ((tabled.sys.tab.seqVer false).lpmFind 0x07000000 (fld 8 5 0)).isSome = true) := by
  decide

/-- What the clauses of `Obligations.GroupsAndSpraysAreWritten` assume is met. -/
theorem witness_GroupsAndSpraysAreWritten :
    up.sys.tableOpen .pcie false ∧ up.sys.tab.long = [] ∧ (16383 : BitVec 16).toNat < 16384 := by decide

/-- What the clauses of `Obligations.TableReadsAndWalksRun` assume is met. -/
theorem witness_TableReadsAndWalksRun :
    (up.sys.takes .pcie 0x3020 ∧ (up.sys.slot .table .pcie).busy = false ∧ prefixOk 0 (fld 0 5 0) = true ∧
      (16383 : BitVec 16).toNat < 16384) ∧
    (tabled.sys.takes .pcie 0x3020 ∧ (tabled.sys.slot .table .pcie).busy = false) := by
  decide +kernel

/-- `up` with that slot. -/
def bulked : State := upWith fun x => x.modMg fun m => { m with bulk := put m.bulk (bulkKey .pcie 0) bulkSlot }

/-- What the clauses of `Obligations.LongTableCommandsAreQueued` assume is met. -/
theorem witness_LongTableCommandsAreQueued :
    (up.sys.tableOpen .pcie true ∧ (1023 : BitVec 16).toNat < 1024 ∧ up.sys.verState true = 0) ∧
    (bulked.sys.tableOpen .pcie true ∧ (bulked.sys.region .pcie 0x10000010 16 matches .ok _) ∧
      (regionRead bulked.stores .pcie bulkSlot 16 .failed matches .ok _)) := by decide

/-- `up` with a long command of version 0 that runs. -/
def running (op : BitVec 8) (data : List Byte) (lpm : Sparse LpmEntry) : State :=
  upWith fun x => x.modTab fun t =>
    { t with
      v0 := { lpm }
      long := [{ path := .pcie, op, ver := false, port := 5, scope := 15, count := data.length / 16, host := .data data }] }

/-- A record of a bulk load: LPM_INSERT of 7.0.0.0/8. -/
def record : List Byte := [5, 0, 0, 8, 7, 0, 0, 0, 0x40, 0, 0, 5, 0, 0, 0, 0]

/-- Another prefix of that length. -/
def other : LpmEntry := { pfx := 0, len := 8, result := 0x40000005 }

/-- The overflow store is full, and so are the buckets of 7.0.0.0/8. -/
def taken : Sparse LpmEntry :=
  ((lpmCands 0 0x07000000 8).map fun p => (p, other)) ++ (List.range 1024).map fun i => (131072 + i, other)

/-- Its insert has no place. -/
theorem record_has_no_place : bulkRecord false record [] { v0 := { lpm := taken } } = .error tblFull := by
  have hf : ({ lpm := taken } : Version).lpmPlace { pfx := 0x07000000, len := 8, result := resultOf 0x40000005 } = none := by
    apply lpmPlace_full
    · refine findEntry_none _ _ _ _ fun k v hv => ?_
      have : v = other := by
        rcases List.mem_append.mp hv with h | h <;> obtain ⟨_, _, h⟩ := List.mem_map.mp h <;> cases h <;> rfl
      rw [this]; decide
    · intro i hi
      refine isNone_listed _ _ (List.mem_map.mpr ⟨(i, other), List.mem_append.mpr (Or.inl (List.mem_map.mpr ⟨i, hi, rfl⟩)), rfl⟩)
    · intro j hj
      refine isNone_listed _ _ (List.mem_map.mpr ⟨(131072 + j, other), List.mem_append.mpr (Or.inr (List.mem_map.mpr ⟨j, List.mem_range.mpr hj, rfl⟩)), rfl⟩)
  have e1 : beAt record 0 1 = 5 := by decide +kernel
  have e2 : beAt record 3 1 % 64 = 8 := by decide +kernel
  have e3 : wordAt record 4 = 0x07000000 := by decide +kernel
  have e4 : wordAt record 8 = 0x40000005 := by decide +kernel
  have es : Tables.seqVer { v0 := { lpm := taken } } false = { lpm := taken } := rfl
  unfold bulkRecord
  dsimp only
  rw [if_neg (by decide +kernel), if_neg (by decide +kernel), es, e1, e2, e3, e4]
  simp only [hf]

/-- The load of that record. -/
def loadJob : LongJob := { path := .pcie, op := 16, ver := false, scope := 15, count := 1, host := .data record }

/-- What the clauses of `Obligations.SequencerRuns` assume is met. -/
theorem witness_SequencerRuns :
    ([13, 14, 15, 16].all fun op =>
      (running op record []).sys.tab.long.map (fun l => (l.op, l.finished)) == [(op, false)] &&
        (running op record []).sys.boot.bothLost == false) = true ∧
    (bulkSteps loadJob record [] 1 0 {}).2 = (1, 0) ∧ (bulkSteps loadJob (List.replicate 16 0) [] 1 0 {}).2 = (0, tblBadarg) ∧
    (bulkSteps loadJob record [] 1 0 { v0 := { lpm := taken } }).2 = (0, tblFull) ∧
    (up.sys.boot.bothLost = false ∧
      splitOwner [{ write := .none, owner := some (.pcie, 2, 0, []) }] =
        ([], some { write := .none, owner := some (.pcie, 2, 0, []) }, [])) := by
  refine ⟨by decide +kernel, by decide +kernel, by decide +kernel, ?_, by decide +kernel⟩
  have h : bulkRecord false (bytesAt record (16 * 0) 16) [] { v0 := { lpm := taken } } = .error tblFull := by
    rw [show bytesAt record (16 * 0) 16 = record from by decide +kernel]
    exact record_has_no_place
  unfold bulkSteps
  rw [if_neg (by decide), show loadJob.ver = false from rfl, h]

/-- An outbound flow of tag 1 to GEI 20. -/
def flowOut : Flow := { Flow.new 20 5 true 1 0 3 0 0 0 with sent := [(0, 0, { fabric := true, start := 0, len := 4000000 })], next := 1 }

/-- An inbound flow that misses number 0. -/
def flowIn : Flow := { Flow.new 20 6 false 1 0 0 0 0 0 with got := [1], next := 2 }

/-- A CLOSING flow. -/
def flowClosing : Flow := { flowOut with st := .closing, closing := some { fabric := true, start := 0, len := 2000000 } }

/-- A credit grant at core die 1. -/
def grantIn : Delivery := { svc := 3, core := 1, id := 0, pkt := { kind := 6, sgei := 20, flow := 5, seq := 1 } }

/-- `up` with those flows and the grant. -/
def granting : State :=
  upWith fun x =>
    (x.modFlows fun f => { f with ctx := [(0, flowOut), (1, flowIn), (2, flowClosing)], cached := [(1, [0])] }).modSw
      fun w => { w with svc := [grantIn] }

/-- `granting` with the grant in the miss queue of core die 1. -/
def fetching : State :=
  granting.onSys fun x =>
    (x.modFlows fun f => { f with missq := [(1, [grantIn])] }).modHearth fun h => { h with tokFlow := 65536 }

/-- What the clauses of `Obligations.FlowControlRuns` assume is met. -/
theorem witness_FlowControlRuns :
    ((granting.sys.takeDelivery (fun d => d.core == 1 && d.pkt.kind == 6) =
        some (grantIn, granting.sys.modSw fun w => { w with svc := [] }) ∧
      (granting.sys.modSw fun w => { w with svc := [] }).findFlow 20 5 true = some (0, flowOut) ∧ flowOut.st ≠ .stale ∧
      (granting.sys.modSw fun w => { w with svc := [] }).isCached 1 0 = true ∧ serialAfter 1 flowOut.gseq = true) ∧
    (get? granting.sys.flows.ctx 1 = some flowIn ∧ flowIn.st = .opened ∧ flowIn.outbound = false ∧ flowIn.next ≠ flowIn.ack)) ∧
    ((((granting.sys.flows.ctx.filter fun e => e.2.home == 0).filterMap fun e =>
        (granting.sys.deadline e.2).map fun n => (e.1, n)) =
        [(0, 4000000), (1, 50000000)]) ∧
    (get? granting.sys.flows.ctx 2 = some flowClosing ∧ flowClosing.st = .closing ∧
      flowClosing.closing = some { fabric := true, start := 0, len := 2000000 } ∧ flowClosing.outbound = true) ∧
    (getD fetching.sys.flows.missq 1 [] = [grantIn] ∧ fetching.sys.findFlow 20 5 true = some (0, flowOut) ∧
      grantIn.pkt.kind = 6 ∧ fetching.sys.fetchBytes 1 (some 0) ≤ fetching.sys.tokens .flow ∧
      fetching.sys.hearth.noGrant.contains (16 + 1) = false)) := by
  decide +kernel

/-- A graph with one READY node that waits for a time. -/
def oneGraph : Graph :=
  { jtag := 1, jgen := 0, cookie := 0, endDest := 0, endIrq := false, endVec := 0, autoRel := false, waitLim := 0,
    nodes := [{ kind := 6, pclass := 0, npred := 0, edge := 0, preds := [], args := 0, rsv := 0, st := .ready }], data := [],
    bytes := 64 }

/-- `up` with that graph. -/
def graphed : State := upWith fun x => x.modGraphs fun g => { g with graph := [(0, oneGraph)] }

/-- Its node. -/
def oneNode : Node :=
  { kind := 6, pclass := 0, npred := 0, edge := 0, preds := [], args := 0, rsv := 0, st := .ready }

/-- A multicast node, which needs a unit. -/
def unitNode : Node :=
  { kind := 2, pclass := 0, npred := 0, edge := 0, preds := [], args := 0, rsv := 0, st := .ready }

/-- `up` with a graph of such a node before two that need nothing, and no unit free on core die 1. -/
def passed : State :=
  upWith fun x =>
    x.modGraphs fun g => { g with graph := [(0, { oneGraph with nodes := [unitNode, oneNode, oneNode] })], units := [(1, 0)] }

/-- What starting node `i` of core die 1 leaves. -/
def startedAt (i : Nat) (g : Graph) (x : Sys) : Sys :=
  match x.startNode 0 i g oneNode with
  | .go t => t.takeIn 0 i 1 oneNode
  | _ => x

/-- `up` in control cycle 8 with a graph of two nodes that need a unit, and no unit free on core die 1. -/
def holding : State :=
  upWith fun x =>
    (x.modGraphs fun g => { g with graph := [(0, { oneGraph with nodes := [unitNode, unitNode] })], units := [(1, 0)] }).modClk
      fun c => { c with cycle := 8 }

/-- What the clauses of `Obligations.AdmissionRuns` assume is met. -/
theorem witness_AdmissionRuns :
    (earliest (graphed.sys.settle.readyAfter 1 0) = some (0, 0, 0, oneGraph, oneNode) ∧
      ((graphed.sys.settle.poolsOf oneGraph oneNode).all fun e => e.2) = true ∧
      (graphed.sys.settle.startNode 0 0 oneGraph oneNode matches .go _) ∧
      (earliest ((graphed.sys.settle.takeIn 0 0 1 oneNode).readyAfter 1 1)).isNone = true ∧
      sum (graphed.sys.graphs.graph.map fun e => e.2.nodes.length) ≠ 0) ∧
    (let a := passed.sys.settle;
      (earliest (a.readyAfter 1 0)).any (fun e =>
        e.1 == 0 && e.2.1 == 0 && e.2.2.1 == 0 && e.2.2.2.2.holds.isEmpty && decide (a.clk.cycle < e.2.2.2.2.readyCycle + 8) &&
        ((a.poolsOf e.2.2.2.1 e.2.2.2.2).all fun e => e.2) == false) = true ∧
      (earliest (a.readyAfter 1 1)).any (fun e =>
        e.1 == 1 && e.2.2.1 == 1 && ((a.poolsOf e.2.2.2.1 e.2.2.2.2).all fun e => e.2) &&
        (a.startNode 0 1 e.2.2.2.1 e.2.2.2.2 matches .go _) &&
        (let u := startedAt 1 e.2.2.2.1 a;
          (earliest (u.readyAfter 1 2)).any fun e =>
            e.1 == 2 && e.2.2.1 == 2 && ((u.poolsOf e.2.2.2.1 e.2.2.2.2).all fun e => e.2) &&
            (u.startNode 0 2 e.2.2.2.1 e.2.2.2.2 matches .go _) &&
            (earliest ((startedAt 2 e.2.2.2.1 u).readyAfter 1 3)).isNone)) = true ∧
      3 ≤ sum (passed.sys.graphs.graph.map fun e => e.2.nodes.length)) ∧
    (let a := holding.sys.settle;
      (earliest (a.readyAfter 1 0)).any (fun e =>
        let lacks := ((a.poolsOf e.2.2.2.1 e.2.2.2.2).filter fun e => !e.2).map fun e => e.1
        let b := a.modNode 0 0 fun n => { n with holds := lacks };
        e.1 == 0 && e.2.1 == 0 && e.2.2.1 == 0 && e.2.2.2.2.holds.isEmpty && lacks == [NodePool.units] &&
        decide (e.2.2.2.2.readyCycle + 8 ≤ a.clk.cycle) &&
        ((earliest (b.readyAfter 1 1)).any fun e =>
          e.1 == 1 && ((b.poolsOf e.2.2.2.1 e.2.2.2.2).any fun e => lacks.contains e.1) && (earliest (b.readyAfter 1 2)).isNone)) =
        true ∧
      2 ≤ sum (holding.sys.graphs.graph.map fun e => e.2.nodes.length)) := by
  decide +kernel

/-- The words of a context descriptor: XOR of 4 bytes, one slot, root. -/
def descWords : List Word :=
  [1, 0x400000, 0x1000000, 0, 0, 0, 0, 0, 0x000A0001, 0,
   BitVec.ofNat 32 (14 * 2 ^ 27 + 14 * 2 ^ 22 + 3 * 2 ^ 19 + 2 ^ 12), BitVec.ofNat 32 (4 * 2 ^ 19), 0x3F800000, 0, 0, 0]

/-- Its descriptor. -/
def ctxDesc : CtxDesc := CtxDesc.of (wordsToBytes descWords)

/-- Its member slot: GEI 20, member 0. -/
def slot0 : Member := { gei := 20, member := 0, child := false, t1 := false, t0 := true, below := 1 }

/-- The open context. -/
def ctx0 : Ctx := { desc := ctxDesc, members := [slot0], deckle := ctxDesc.deckle }

/-- Job tag 1 is active; bulk slot 0 holds the member table. -/
def jobbed : State :=
  { upWith fun x =>
      (x.modFwd fun f => { f with jobs := [(1, { active := true, gen := 0 })] }).modMg fun m =>
        { m with bulk := put m.bulk (bulkKey .pcie 0) bulkSlot } with
    stores := { bar2 := [(3, 20), (6, 2), (10, 16)] } }

/-- `jobbed` with context 0. -/
def ctxed : State := jobbed.onSys fun x => x.modColl fun k => { k with ctx := [(0, ctx0)] }

/-- `jobbed` with a CLOSING context and a flush of tag 1 under way. -/
def closing : State :=
  jobbed.onSys fun x => x.modColl fun k =>
    { k with
      ctx := [(0, { ctx0 with st := .closing, closing := some { fabric := true, start := 0, len := 2000000 } })]
      flushes := [{ jtag := 1, path := .pcie, ctxs := 0, flows := 0, deactivate := true }] }

/-- `closing` with a STALE graph and a STALE flow context of tag 1. -/
def reclaiming : State :=
  closing.onSys fun x =>
    (x.modFlows fun f => { f with ctx := [(0, { Flow.new 20 5 true 1 0 3 0 0 0 with st := .stale })] }).modGraphs fun g =>
      { g with
        graph :=
          [(0,
            { jtag := 1, jgen := 0, cookie := 0, endDest := 0, endIrq := false, endVec := 0, autoRel := false, waitLim := 0,
              nodes := [], data := [], bytes := 64, st := .stale })] }

/-- What the clauses of `Obligations.JobCommandsRun` assume is met. -/
theorem witness_JobCommandsRun :
    (up.sys.idleSlot .coll .pcie ∧ up.sys.clk.valid = true ∧ (1 : BitVec 16) ≠ 0 ∧ (1 : BitVec 16) ≠ 0xFFFF ∧
      (up.sys.job 1).active = false) ∧
    (jobbed.sys.idleSlot .coll .pcie ∧ jobbed.sys.ownJob 1 = true) ∧
    ((reclaiming.sys.coll.flushes.find? fun f => f.jtag == 1).isSome = true ∧
      (reclaiming.sys.graphs.graph.filter fun e => e.2.st == .stale && e.2.jtag == 1) ≠ [] ∧
      (reclaiming.sys.flows.ctx.filter fun e => e.2.st == .stale && e.2.jtag == 1) ≠ [] ∧
      reclaiming.sys.boot.bothLost = false ∧ reclaiming.sys.coll.flushes.all (fun f => f.path != .inband) = true) := by
  decide +kernel

/-- What the clauses of `Obligations.ContextCommandsRun` assume is met. -/
theorem witness_ContextCommandsRun :
    (jobbed.sys.idleSlot .coll .pcie ∧ descWords.length = 16 ∧ ctxCheck ctxDesc jobbed.sys = none ∧
      (jobbed.sys.region .pcie 0x10000010 (16 * (ctxDesc.nslot.toNat + 1)) matches .ok _) ∧
      membersOf (Memory.readN jobbed.stores.bar2 0 16) (ctxDesc.nslot.toNat + 1) = [slot0] ∧
      ctxReserve ctxDesc [slot0] jobbed.sys = none) ∧
    (ctxed.sys.idleSlot .coll .pcie ∧ ctxed.sys.ctx (fld 0 13 0) = some ctx0 ∧ ctx0.st = .active) := by decide +kernel

/-- A contribution of the member to tile 0. -/
def contribExt : CollExt :=
  { ctx := 0, fmt := 14, op := 3, tree := false, tile := 0, member := 0, msr := false, nr := false, rt := false,
    deckle := ctxDesc.deckle }

/-- Its packet. -/
def contribPkt : Pkt :=
  { hlen := 7, xp := true, kind := 2, jtag := 1, sgei := 20, plen := 4, payload := [1, 2, 3, 4], ext := .coll contribExt.bits }

/-- Its delivery at core die 0. -/
def contribIn : Delivery := { svc := 1, core := 0, id := 0, pkt := contribPkt }

/-- A root context receives the contribution with a Vat in service. -/
def contributing : State :=
  ctxed.onSys fun x =>
    (x.modHearth fun h => { h with vatLevel := [8, 8, 8, 8] }).modSw fun w => { w with svc := [contribIn] }

/-- `contributing` with the contribution at the Vat input. -/
def vatWaiting : State := contributing.onSys fun x => x.modColl fun k => { k with waiting := [(0, [contribIn])] }

/-- An FP32 Sum context with a window of 4 tiles, tile 2 under way with base 0. -/
def sumCtx : Ctx :=
  { ctx0 with
    desc := { ctxDesc with w := 4, arith := { ctxDesc.arith with ifmt := 1, ofmt := 1, op := 0, nelem := 1 } }
    tiles := [(2, { elems := [{ base := 0, bv := true }] })] }

/-- A contribution of 2^127 to its tile 2, which escapes, and one of 1 to its lowest tile. -/
def escapeIn : Delivery :=
  { contribIn with
    pkt :=
      { contribPkt with payload := [0x7F, 0, 0, 0], ext := .coll { contribExt with fmt := 1, op := 0, tile := 2 }.bits } }

def lowestIn : Delivery :=
  { contribIn with
    pkt :=
      { contribPkt with payload := [0x3F, 0x80, 0, 0], ext := .coll { contribExt with fmt := 1, op := 0 }.bits } }

/-- `contributing` with both at the Vat input and no escape tokens. -/
def escapeWaiting : State :=
  contributing.onSys fun x =>
    (x.modColl fun k => { k with ctx := [(0, sumCtx)], waiting := [(0, [escapeIn, lowestIn])] }).modHearth fun h =>
      { h with tokFloor := [0, 0, 0, 0] }

/-- An interior context that has sent its partial of tile 0. -/
def ctx2 : Ctx :=
  { ctx0 with desc := { ctxDesc with role0 := 2, up0 := 0xE0000001 }, tiles := [(0, { bits := [0], sent := some (0, 1) })] }

/-- A result and a resend request for it. -/
def resultPkt : Pkt := { contribPkt with kind := 3 }

/-- The interior context with both. -/
def innerMod : State :=
  jobbed.onSys fun x =>
    (x.modColl fun k => { k with ctx := [(0, ctx2)] }).modSw fun w =>
      { w with
        svc := [{ svc := 1, core := 0, id := 0, pkt := resultPkt }, { svc := 1, core := 0, id := 1, pkt := { resultPkt with plen := 0 } }] }

/-- What the clauses of `Obligations.ContributionsAndResultsRun` assume is met. -/
theorem witness_ContributionsAndResultsRun :
    ((contributing.sys.vatsRun 0 = true ∧
      contributing.sys.takeDelivery (fun d => d.svc == 1 && d.core == 0 && d.pkt.kind == 2) =
        some (contribIn, contributing.sys.modSw fun w => { w with svc := [] }) ∧
      contribPkt.coll = some contribExt ∧ contributing.sys.ctx 0 = some ctx0 ∧ ctx0.parity = none ∧ ctx0.st = .active ∧
      ctx0.verdict contribPkt contribExt = .takeIn 0 ∧ contributing.sys.crcOf contribIn = true ∧
      ctx0.needs (ctx0.addTo 0 contribExt contribPkt.payload).1 0 ≤ contributing.sys.escFree ∧
      (contributing.sys.spendEsc 0 (ctx0.addTo 0 contribExt contribPkt.payload).2.1).isSome = true) ∧
    (vatWaiting.sys.vatsRun 0 = true ∧ getD vatWaiting.sys.coll.waiting 0 [] = [contribIn] ∧
      vatWaiting.sys.ctx 0 = some ctx0 ∧
      (vatWaiting.sys.takeContribution 0 .passed false contribIn Sys.finishIfReady matches .consumed _)) ∧
    (escapeWaiting.sys.vatsRun 0 = true ∧ getD escapeWaiting.sys.coll.waiting 0 [] = [escapeIn, lowestIn] ∧
      (escapeWaiting.sys.takeContribution 0 .passed false escapeIn Sys.finishIfReady matches .waits) ∧
      [escapeIn, lowestIn].find? escapeWaiting.sys.forLowest = some lowestIn ∧
      (escapeWaiting.sys.takeContribution 0 .passed false lowestIn Sys.finishIfReady matches .consumed _))) ∧
    (((innerMod.sys.takeDelivery fun d => d.svc == 1 && d.core == 0 && d.pkt.kind == 3 && d.pkt.plen != 0).isSome = true ∧
      innerMod.sys.crcOf { svc := 1, core := 0, id := 0, pkt := resultPkt } = true ∧ resultPkt.coll = some contribExt ∧
      innerMod.sys.ctx 0 = some ctx2 ∧ ctx2.st = .active ∧ ctx2.owns resultPkt contribExt = true ∧
      ctx2.desc.role (ctx2.desc.tree 0) = 2 ∧ ctx2.inScope 0 = true ∧ ctx2.low ≤ 0 ∧ 0 < ctx2.low + ctx2.desc.w.toNat ∧
      ctx2.ahead.contains 0 = false) ∧
    ((innerMod.sys.takeDelivery fun d => d.svc == 1 && d.core == 0 && d.pkt.kind == 3 && d.pkt.plen == 0).isSome = true ∧
      (ctx2.tile 0).sent = some (0, 1) ∧ ctx2.owns { resultPkt with plen := 0 } contribExt = true)) := by
  decide +kernel

/-- An error notice about the module's own partial. -/
def aborting : Pkt :=
  { kind := 8, payload := toBe 4 collAborted.toNat ++ List.replicate 12 0 ++
      ({ kind := 2, sgei := 0xE0000005, jtag := 1 } : Pkt).header }

/-- A notice to GEI 20 about a packet of port 3. -/
def waitingNotice : AbortNotice := { gei := 20, code := collStall, time := 7, port := 3, head := [] }

/-- `ctxed` with coordinates, a notice that waits and the error notice. -/
def noticed : State :=
  ctxed.onSys fun x =>
    ((x.modColl fun k => { k with notices := [(0, [waitingNotice])] }).modNv fun n => { n with coordValid := true }).modSw
      fun w => { w with svc := [{ svc := 5, core := 0, id := 0, pkt := aborting }] }

/-- What the clauses of `Obligations.ContextTimersAndNoticesRun` assume is met. -/
theorem witness_ContextTimersAndNoticesRun :
    ((innerMod.sys.ctx 0 = some ctx2 ∧ (ctx2.tile 0).sent = some (0, 1) ∧ ctx2.st = .active ∧ 1 < 8) ∧
    (ctxed.sys.ctx 0 = some ctx0 ∧ ctx0.st = .active) ∧
    ((closing.sys.ctx 0).map (fun x => (x.st, x.closing.isSome)) = some (.closing, true))) ∧
    ((getD noticed.sys.coll.notices 0 [] = [waitingNotice] ∧ noticed.sys.bucket 0 ≠ 0 ∧ noticed.sys.clk.valid = true ∧
      noticed.sys.origRoom 0
        (noticed.sys.ownPkt 5 8 6 20 0 0 (errorPayload collStall (noticed.sys.ownGei 5) 7 3 [])).len = true) ∧
    ((noticed.sys.takeDelivery fun d => d.svc == 5 && d.pkt.kind == 8).isSome = true ∧
      wordAt aborting.payload 0 = collAborted ∧ noticed.sys.echoed (bytesAt aborting.payload 16 32) = some 0)) := by
  decide +kernel

/-- An image of tag 1 with one JOIN node. -/
def image1 : List Byte := [1, 0, 0, 0, 1] ++ List.replicate 59 0 ++ [0x90] ++ List.replicate 63 0

/-- A RUNNING graph with a READY time node, a READY barrier of two parts and a WAITLIM. -/
def graph1 : Graph :=
  { jtag := 1, jgen := 0, cookie := 7, endDest := 0, endIrq := false, endVec := 0, autoRel := true, waitLim := 5,
    nodes := [{ kind := 6, pclass := 0, npred := 0, edge := 0, preds := [], args := 0, rsv := 0, st := .ready },
              { kind := 7, pclass := 0, npred := 0, edge := 0, preds := [], args := BitVec.ofNat 352 (2 ^ 342), rsv := 0, st := .ready }]
    data := [], bytes := 192 }

/-- The same graph, ended. -/
def graph2 : Graph := { graph1 with st := .done, ended := some { fabric := true, start := 0, len := 2000000 } }

/-- Tag 1 is active, graphs 0 and 1 stand, an image lies in BAR2 and a load waits. -/
def graphs : State :=
  { upWith fun x =>
      (((x.modFwd fun f => { f with jobs := [(1, { active := true, gen := 0 })] }).modMg fun m =>
          { m with bulk := put m.bulk (bulkKey .pcie 0) bulkSlot }).modGraphs fun g =>
        { g with
          graph := [(0, graph1), (1, graph2)], loads := [{ path := .pcie, handle := 0x10000010, length := 128 }]
          stagings := [{ core := 1, sgei := 20, cookie := 9, jtag := 1 }] }) with
    stores := { bar2 := [(0, 1), (4, 1), (64, 0x90)] } }

/-- What the clauses of `Obligations.GraphCommandsRun` assume is met. -/
theorem witness_GraphCommandsRun :
    (graphs.sys.idleSlot .graph .pcie ∧ (graphs.sys.region .pcie 0x10000010 128 matches .ok _)) ∧
    (graphs.sys.named (fld 0 9 0) 7 = some graph1 ∧ graph1.st = .running) ∧
    (graphs.sys.named (fld 1 9 0) 7 = some graph2 ∧ graph2.ended.isSome = true) ∧
    (graph1.nodes[fld 0x10001 31 16]?.map (fun n => (n.kind.toNat, decide (fld 0x10001 15 0 < n.a 351 341),
        decide (n.st ≠ .done), n.arrived.contains (fld 0x10001 15 0))) = some (kBarrier, true, true, false)) := by
  decide +kernel

/-- A message of GEI 20 under tag 1. -/
def graphMsg (payload : List Byte) : Pkt := { kind := 9, sgei := 20, jtag := 1, payload, plen := BitVec.ofNat 13 payload.length }

/-- A chunk with the whole image, its commit, an arrival and a cancellation. -/
def messages : List Delivery :=
  [{ svc := 4, core := 1, id := 0, pkt := graphMsg (toBe 4 0x1000000 ++ toBe 4 9 ++ toBe 8 0 ++ image1) },
   { svc := 4, core := 1, id := 1, pkt := graphMsg (toBe 4 0x2000000 ++ toBe 4 9 ++ toBe 4 128 ++ toBe 4 (crc32c image1).toNat) },
   { svc := 4, core := 1, id := 2, pkt := graphMsg (toBe 4 0x4000000 ++ toBe 4 7 ++ toBe 4 0x10000 ++ toBe 4 0) },
   { svc := 4, core := 1, id := 3, pkt := graphMsg (toBe 4 0x5000000 ++ toBe 4 7 ++ toBe 8 0) }]

/-- A message of `messages`. -/
def messageAt (i : Nat) : Delivery := nth messages i { svc := 0, core := 0, id := 0, pkt := {} }

/-- `graphs` with the messages, a flow for the chunk and the staged image. -/
def messaged : State :=
  graphs.onSys fun x =>
    ((x.modSw fun w => { w with svc := messages }).modFlows fun f =>
        { f with ctx := [(0, Flow.new 20 0 false 1 0 4 0 0 0)], cached := [(1, [0])] }).modGraphs fun g =>
      { g with stagings := [({ core := 1, sgei := 20, cookie := 9, jtag := 1 } : Staging).write (messageAt 0).pkt] }

/-- What the clauses of `Obligations.GraphImagesRun` assume is met. -/
theorem witness_GraphImagesRun :
    ((graphs.sys.region .pcie 0x10000010 128 matches .ok _) ∧ Memory.readN graphs.stores.bar2 0 128 = image1 ∧
      imageCheck image1 none (graphs.sys.modGraphs fun g => { g with loads := [] }) = none) ∧
    ((messaged.sys.takeMessage 1 fun m => m != 2 && m != 4 && m != 5).map (·.1) = some (messageAt 0) ∧
      (messageAt 0).pkt.mtype = 1 ∧ (messaged.sys.findFlow 20 0 false).isSome = true ∧ messaged.sys.isCached 1 0 = true ∧
      ((messaged.sys.touch 1 0).flowAccepts 0 (messageAt 0)).1 = true) ∧
    ((messaged.sys.takeMessage 1 fun m => m == 2).map (·.1) = some (messageAt 1) ∧
      (messaged.sys.graphs.stagings.find? (Staging.is 1 20 9)).bind (fun x => x.image 128) = some image1 ∧
      crc32c image1 = wordAt (messageAt 1).pkt.payload 12 ∧ beAt (messageAt 1).pkt.payload 8 4 = 128 ∧
      imageCheck image1 (some (1, true)) (messaged.sys.modGraphs fun g => { g with stagings := [] }) = none) := by
  decide +kernel

/-- What the clauses of `Obligations.GraphMessagesAndTimersRun` assume is met. -/
theorem witness_GraphMessagesAndTimersRun :
    (((messaged.sys.takeMessage 1 fun m => m == 4).map (·.1) = some (messageAt 2) ∧
      (messaged.sys.arriveAt (beAt (messageAt 2).pkt.payload 0 4 % 1024) (wordAt (messageAt 2).pkt.payload 4)
        (beAt (messageAt 2).pkt.payload 8 2) (beAt (messageAt 2).pkt.payload 10 2) matches .ok _)) ∧
    ((messaged.sys.takeMessage 1 fun m => m == 5).map (·.1) = some (messageAt 3) ∧
      messaged.sys.named (beAt (messageAt 3).pkt.payload 0 4 % 1024) (wordAt (messageAt 3).pkt.payload 4) = some graph1 ∧
      graph1.st = .running ∧ graph1.jtag = (messageAt 3).pkt.jtag ∧ graph1.jgen = (messageAt 3).pkt.jgen)) ∧
    ((graphs.sys.graphs.stagings.find? (Staging.is 1 20 9)).isSome = true ∧
    (graphs.sys.graph 0 = some graph1 ∧ graph1.st = .running ∧ graph1.waitLim ≠ 0 ∧ graphs.sys.clk.valid = true ∧
      (graphs.sys.node 0 0).map (fun n => (n.kind.toNat, n.st)) = some (kWait, .ready)) ∧
    (graphs.sys.graph 1 = some graph2 ∧ graph2.autoRel = true ∧ graph2.ended.isSome = true)) := by
  decide +kernel

/-- The words of an object descriptor: object 5 of tag 1, one segment, one receiver. -/
def objWords : List Word := [5, 0x10000, 0, 0, 0x100000, 0, 0, 0, 1, 0x10000, 0, 0, 0, 0, 0, 0]

/-- Its descriptor. -/
def objDesc : BcDesc := BcDesc.of (wordsToBytes objWords)

/-- Its receiver entry. -/
def recvBytes : List Byte := [0, 0, 0, 20] ++ List.replicate 28 0

/-- Tag 1 is active; bulk slot 0 holds the receiver table. -/
def bcReady : State :=
  { upWith fun x =>
      (x.modFwd fun f => { f with jobs := [(1, { active := true, gen := 0 })] }).modMg fun m =>
        { m with bulk := put m.bulk (bulkKey .pcie 0) bulkSlot } with
    stores := { bar2 := [(3, 20)] } }

/-- The object with a PULL receiver that has an outbound context. -/
def obj5 : BcObj :=
  { objDesc.obj with receivers := [{ Receiver.of recvBytes with mode := .pull, flow := some 0 }] }

/-- A relayed object that has asked for a pull. -/
def obj6 : BcObj := { obj5 with obj := 6, src := true, flow := 6, up := 0xE0000002, pullSince := some 0, receivers := [] }

/-- A CLOSING object. -/
def obj7 : BcObj := { obj6 with obj := 7, st := .closing, closing := some { fabric := true, start := 0, len := 2000000 } }

/-- The three objects, with a flow that has segment 0 outstanding. -/
def objects : State :=
  bcReady.onSys fun x =>
    (x.modBc fun b => { b with objs := [obj5, obj6, obj7] }).modFlows fun f =>
      { f with ctx := [(0, { Flow.new 20 0 true 1 0 2 0 5 0 with sent := [(0, 0, { fabric := true, start := 0, len := 4000000 })] }), (1, Flow.new 0xE0000002 6 false 1 0 2 0 6 0)]
               cached := [(1, [0, 1])] }

/-- What the clauses of `Obligations.BroadcastCommandsRun` assume is met. -/
theorem witness_BroadcastCommandsRun :
    (bcReady.sys.idleSlot .bc .pcie ∧ objWords.length = 16 ∧ bcReady.sys.hbmServices = true ∧ bcReady.sys.bcRegion ≠ 0 ∧
      objDesc.ok = true ∧ objDesc.nrecv = 1 ∧ (bcReady.sys.region .pcie 0x10000010 32 matches .ok _) ∧
      Memory.readN bcReady.stores.bar2 0 32 = recvBytes ∧ bcReady.sys.receiverOk objDesc.obj.nseg recvBytes = true ∧
      bcCheck objDesc.obj bcReady.sys = none) ∧
    (objects.sys.idleSlot .bc .pcie ∧ objects.sys.bcObj 1 5 = some obj5 ∧ obj5.st = .active ∧ obj5.src = false ∧
      (0 : Word).toNat = obj5.fill ∧ (0 : Word).toNat + (1 : Word).toNat ≤ obj5.nseg ∧
      (objects.sys.region .pcie 0x10000010 (min (4096 * 1) (obj5.size - 4096 * 0)) matches .ok _)) := by
  decide +kernel

/-- A segment packet for object 6, a pull and a pull answer. -/
def bcIn : List Delivery :=
  [{ svc := 2, core := 1, id := 0,
     pkt := { kind := 4, sgei := 0xE0000002, flow := 6, jtag := 1, plen := 4096, payload := List.replicate 4096 1 } },
   { svc := 2, core := 1, id := 1,
     pkt := { kind := 9, sgei := 0xE0000102, jtag := 1, plen := 16, payload := toBe 4 0x1000000 ++ toBe 4 5 ++ toBe 8 0 } },
   { svc := 2, core := 1, id := 2,
     pkt := { kind := 9, sgei := 0xE0000002, jtag := 1, plen := 16, payload := toBe 4 0x2000000 ++ toBe 4 6 ++ toBe 8 0 } }]

/-- `objects` with those packets, and tokens for tag 1 on its core die. -/
def bcBusy : State :=
  objects.onSys fun x =>
    (x.modSw fun w => { w with svc := bcIn }).modHearth fun h => { h with tokTag := [(shareKey 1 1, 4096)] }

/-- The segment packet. -/
def segIn : Delivery := nth bcIn 0 { svc := 0, core := 0, id := 0, pkt := {} }

/-- `bcBusy` when the segment has come before. -/
def bcAgain : State := bcBusy.onSys fun x => x.modFlow 1 fun f => { f with got := [0], next := 1 }

/-- An object with a loaded segment and a limit. -/
def sendable : BcObj := { obj5 with fill := 1, sendLimit := 1, segs := [(0, List.replicate 4096 1)] }

/-- Three objects of tag 1, two with a loaded segment and a limit, the third with nothing to send and first in turn; and tokens
for the tag. -/
def bcSending : State :=
  bcReady.onSys fun x =>
    ((x.modBc fun b => { b with objs := [sendable, { sendable with obj := 8 }, { obj5 with obj := 9 }], turn := [(1, 2)] }).modFlows
        fun f => { f with ctx := [(0, Flow.new 20 0 true 1 0 2 0 5 0)] }).modHearth fun h =>
      { h with tokTag := [(shareKey 1 1, 4096)] }

/-- What the clauses of `Obligations.SegmentsRun` assume is met. -/
theorem witness_SegmentsRun :
    ((bcBusy.sys.takeDelivery fun d => d.svc == 2 && d.core == 1 && d.pkt.kind == 4).map (·.1.id) = some 0 ∧
      (bcBusy.sys.findFlow 0xE0000002 6 false).map (·.1) = some 1 ∧ bcBusy.sys.bcObj 1 6 = some obj6 ∧
      bcBusy.sys.isCached 1 1 = true ∧ 0 < obj6.nseg ∧ 4096 = obj6.segLen 0 ∧
      ((bcBusy.sys.touch 1 1).flowAccepts 1 segIn).1 = true ∧ ((bcBusy.sys.touch 1 1).spendBc 1 1 4096).isSome = true) ∧
    ((bcAgain.sys.takeDelivery fun d => d.svc == 2 && d.core == 1 && d.pkt.kind == 4).map (·.1.id) = some 0 ∧
      (bcAgain.sys.findFlow 0xE0000002 6 false).map (·.1) = some 1 ∧ bcAgain.sys.bcObj 1 6 = some obj6 ∧
      bcAgain.sys.isCached 1 1 = true ∧ ((bcAgain.sys.touch 1 1).flowAccepts 1 segIn).1 = false) ∧
    (let mine (x : Sys) : List BcObj := x.bc.objs.filter fun o => o.jtag.toNat % 4 == 1
      let x := (mine bcSending.sys).foldl (fun a o => if o.st = .active then a.openReceivers o.jtag o.obj else a) bcSending.sys;
      (mine x).length = 3 ∧ getD x.bc.turn 1 0 = 2 ∧
      (mine x).map (fun o => (o.obj, x.bcNext o)) = [(5, some (.unicast 0 0 false)), (8, some (.unicast 0 0 false)), (9, none)] ∧
      (mine x).map (fun o => (x.sendWork 1 o (.unicast 0 0 false)).isSome) = [true, true, true]) := by
  decide +kernel

/-- What the clauses of `Obligations.BroadcastTimersAndPullsRun` assume is met. -/
theorem witness_BroadcastTimersAndPullsRun :
    ((objects.sys.bcObj 1 5 = some obj5 ∧ (obj5.receivers[0]?).map Receiver.live = some true ∧
      (obj5.receivers[0]?).bind (fun r => (objects.sys.recvFlow r).map fun f => f.sent.length) = some 1) ∧
    (objects.sys.bcObj 1 6 = some obj6 ∧ obj6.st = .active ∧ obj6.src = true ∧ obj6.fill < obj6.nseg ∧
      obj6.pullSince = some 0) ∧
    (objects.sys.bcObj 1 7 = some obj7 ∧ obj7.st = .closing ∧ obj7.closing.isSome = true)) ∧
    (((bcBusy.sys.takeBcMsg 1 fun m => m != 2).map (fun x => (x.1.pkt.mtype, wordAt x.1.pkt.payload 4, x.1.pkt.jgen)) =
        some (1, 5, 0) ∧ bcBusy.sys.bcObj 1 5 = some obj5 ∧ obj5.jgen = 0 ∧ obj5.st = .active ∧
      (obj5.receivers.filter Receiver.isPull).length < 64) ∧
    ((bcBusy.sys.takeBcMsg 1 fun m => m == 2).map
        (fun x => (wordAt x.1.pkt.payload 4, wordAt x.1.pkt.payload 12, x.1.pkt.sgei, x.1.pkt.jgen)) =
        some (6, 0, 0xE0000002, 0) ∧
      bcBusy.sys.bcObj 1 6 = some obj6 ∧ obj6.up = 0xE0000002 ∧ obj6.jgen = 0 ∧ obj6.pullSince.isSome = true ∧
      obj6.st = .active)) := by
  decide +kernel

/-- Tag 1 is active; bulk slot 0 holds the members 20 and 21. -/
def vaultReady : State :=
  { upWith fun x =>
      (x.modFwd fun f => { f with jobs := [(1, { active := true, gen := 0 })] }).modMg fun m =>
        { m with bulk := put m.bulk (bulkKey .pcie 0) bulkSlot } with
    stores := { bar2 := [(3, 20), (7, 21)] } }

/-- A Quire slot that rebuilds member 0, with stripe 0 rebuilt. -/
def quire0 : Quire :=
  { jtag := 1, members := [20, 21, 22], nstripe := 1, st := .rebuilding, valid := true, lost := [0], acked := [0]
    rebuild := some { gid := 0, node := 0, ctx := 4, lost := [0], dests := [30], flows := [0] }
    shards := [(0, [List.replicate 4096 1])] }

/-- Its context. -/
def rebuildCtx : Ctx :=
  { desc := { ctx := 4, jtag := 1, role0 := 1, w := 1, ntiles := 1, tto := 10, stall := 1, arith := vaultArith 0, nmem := 1, nslot := 1 }
    members := quireMembers [20, 21, 22] [0], deckle := 0
    parity := some { qslot := 0, rebuild := true, gid := 0, node := 0, first := 0, count := 1, version := 0 } }

/-- A parity packet of member 1 for it. -/
def parityIn : Delivery :=
  { svc := 3, core := 0, id := 0
    pkt :=
      { hlen := 7, xp := true, kind := 5, jtag := 1, sgei := 21, plen := 4096, payload := List.replicate 4096 1
        ext := .coll ({ ctx := 4, fmt := 14, op := 4, tree := false, tile := 0, member := 1, msr := false, nr := false
                        rt := false, deckle := 0 } : CollExt).bits } }

/-- `vaultReady` with the rebuild, its flow, the parity packet and a READY slot 1. -/
def vaulted : State :=
  vaultReady.onSys fun x =>
    ((((x.modVault fun v => { v with slot := [(0, quire0), (1, { jtag := 1, members := [20, 21], nstripe := 1 })] }).modColl
            fun k => { k with ctx := [(4, rebuildCtx)] }).modFlows fun f => { f with ctx := [(0, Flow.new 30 7 true 1 0 3 0 4 0)] }).modSw
        fun w => { w with svc := [parityIn] }).modHearth fun h => { h with vatLevel := [8, 8, 8, 8] }

/-- What the clauses of `Obligations.VaultRuns` assume is met. -/
theorem witness_VaultRuns :
    (vaultReady.sys.idleSlot .vault .pcie ∧ vaultReady.sys.hbmServices = true ∧ vaultReady.sys.vaultRegion ≠ 0 ∧
      fld 0 31 12 = 0 ∧ fld 0x10001 15 8 = 0 ∧ fld 0x10001 7 0 + 1 = 2 ∧ BitVec.ofNat 16 (fld 0x10001 31 16) = 1 ∧
      (vaultReady.sys.region .pcie 0x10000010 8 matches .ok _) ∧
      bytesToWords (Memory.readN vaultReady.stores.bar2 0 8) = [20, 21] ∧ (vaultReady.sys.job 1).active = true ∧
      vaultReady.sys.quire 0 = none ∧ vaultReady.sys.vaultUsed + 1 * 16384 ≤ vaultReady.sys.vaultRegion) ∧
    (vaulted.sys.idleSlot .vault .pcie ∧ (vaulted.sys.quire (fld 1 11 0)).map (fun q => q.st) = some .ready) ∧
    (vaulted.sys.vatsRun 0 = true ∧
      (vaulted.sys.takeDelivery fun d => d.svc == 3 && d.core == 0 && d.pkt.kind == 5).isSome = true ∧
      vaulted.sys.ctx 4 = some rebuildCtx ∧ rebuildCtx.parity.isSome = true ∧ rebuildCtx.st = .active ∧
      (match parityIn.pkt.coll with
        | some e =>
          e.ctx == 4 && decide (rebuildCtx.verdict parityIn.pkt e = .takeIn 0) && vaulted.sys.crcOf parityIn &&
            decide (rebuildCtx.needs (rebuildCtx.addTo 0 e parityIn.pkt.payload).1 e.tile ≤ vaulted.sys.escFree) &&
            (vaulted.sys.spendEsc 0 (rebuildCtx.addTo 0 e parityIn.pkt.payload).2.1).isSome
        | none => false) = true) ∧
    (vaulted.sys.quire 0 = some quire0 ∧ quire0.rebuild.map (fun r => (r.ctx, r.flows)) = some (4, [0]) ∧
      (get? vaulted.sys.flows.ctx 0).map (fun f => (f.st, f.due, f.next, serialAfter f.limit f.next)) =
        some (.opened, [], 0, true) ∧
      vaulted.sys.clk.valid = true ∧ (get? quire0.shards 0).isSome = true ∧
      (match quire0.rebuild with
        | some r =>
          vaulted.sys.origRoom 0 (vaulted.sys.shardPkt rebuildCtx r 0 0 7 false (List.replicate 4096 1)).len
        | none => false) = true) := by
  decide +kernel

/-- A gate list of two entries of 512 ns. -/
def gateList : GateList := { entries := [(0xFF, 512), (0x80, 512)], start := 4096 }

/-- Port 0 has the list as its administrative list; port 1 has it pending; port 2 runs it. -/
def gated : State :=
  upWith fun x =>
    ((x.modEg 0 fun e => { e with nentry := 2, base := 0, admin := [(0, 0xFF000040), (1, 0x80000040)] }).modEg 1 fun e =>
      { e with pending := some gateList }).modEg 2 fun e => { e with running := some { gateList with start := 0 } }

/-- What the clauses of `Obligations.GateListsRun` assume is met. -/
theorem witness_GateListsRun :
    (gated.sys.takes .pcie 0x2031 ∧ gated.sys.clk.valid = true ∧ (gated.sys.selOf .pcie 0x2031 0).toNat % 1024 = 0 ∧
      gateListOk (gated.sys.eg 0).adminEntries = true ∧ (gated.sys.eg 0).adminEntries = gateList.entries) ∧
    ((gated.sys.eg 1).pending = some gateList ∧ gateList.entries ≠ []) ∧
    ((gated.sys.eg 2).running = some { gateList with start := 0 } ∧ (gated.sys.eg 2).pending = none ∧
      (({ gateList with start := 0 } : GateList).at gated.sys.clk.ext).1 = (gated.sys.eg 2).entry) := by decide +kernel

/-- A plan for port 8 with a window of 100 µs that starts 2^20 ns from 0. -/
def planBytes : List Byte :=
  toBe 4 9 ++ toBe 4 0x100000 ++ toBe 4 100 ++ toBe 2 100 ++ toBe 2 0 ++ toBe 4 4000 ++ toBe 2 100 ++ List.replicate 10 0 ++
    toBe 2 (8 * 64 + 2 * 16) ++ List.replicate 14 0

/-- The plan as submitted. -/
def plan9 : Plan := (Plan.of planBytes).1

/-- BAR2 with the plan, bulk slot 0, and a demand request. -/
def planned : State :=
  { upWith fun x =>
      (x.modMg fun m => { m with bulk := put m.bulk (bulkKey .pcie 0) bulkSlot }).modSw fun w =>
        { w with svc := [{ svc := 6, core := 0, id := 0, pkt := { kind := 9, sgei := 20, payload := [2] } }] } with
    stores := { bar2 := Memory.writeN [] 0 planBytes } }

/-- `planned` with the plan in a state. -/
def planIn (st : PlanSt) (epoch : Bool) : State :=
  planned.onSys fun x =>
    (x.setVer true 1 none).modOcs fun o => { o with plans := [{ plan9 with st, epoch, wsExt := 0x100000 }] }

/-- What the clauses of `Obligations.DemandAndPlanCommandsRun` assume is met. -/
theorem witness_DemandAndPlanCommandsRun :
    ((up.sys.nv.demDest = 0) ∧ (planned.sys.takeDelivery fun d => d.svc == 6 && d.pkt.kind == 9 && beAt d.pkt.payload 0 1 == 2).isSome = true ∧
    (planned.sys.idleSlot .ocs .pcie ∧ (planned.sys.region .pcie 0x10000010 32768 matches .ok _) ∧ bulkSlot.dKind = 2)) ∧
    ((planned.sys.idleSlot .ocs .pcie ∧ (planned.sys.region .pcie 0x10000010 48 matches .ok _) ∧
      Memory.readN planned.stores.bar2 0 48 = planBytes ∧
      planned.sys.planCheck { plan9 with wsExt := planned.sys.nextTime plan9.ws, st := .pending }
        ((Plan.of planBytes).2 && 48 == 32 + 16 * plan9.entries.length) = none) ∧
    ((planIn .held true).sys.idleSlot .ocs .pcie ∧ ((planIn .held true).sys.livePlan 9).map (fun p => p.st) = some .held)) := by
  decide +kernel

/-- What the clauses of `Obligations.PlanStepsRun` assume is met. -/
theorem witness_PlanStepsRun :
    (((planIn .pending true).sys.planOf 9 0).map (fun p => (p.st, p.epoch)) = some (.pending, true) ∧
      (planIn .pending true).sys.fwd.epoch ≠ true ∧ (planIn .pending true).sys.verState true = 1) ∧
    ((planIn .draining true).sys.planOf 9 1).map (fun p => p.st) = some .draining ∧
    ((planIn .moving true).sys.planOf 9 2).map (fun p => p.st) = some .moving ∧
    (((planIn .rejoining true).sys.planOf 9 3).map (fun p => (p.st, p.reflipRun, p.kept)) = some (.rejoining, false, false) ∧
      (planIn .rejoining true).sys.verState (!true) = 1) ∧
    (let s := (planIn .rejoining true).onSys fun x => x.modPort 8 fun q => { q with st := .up }
     (s.sys.planOf 9 4).map (fun p => (p.st, p.limitRun)) = some (.rejoining, false) ∧
      (s.sys.port 8).st = .up ∧ plan9.entries.map (fun e => e.port) = [8]) := by
  decide +kernel

/-- A cage unit of class C for widths 1 and 8. -/
def copper : CageUnit := { readable := true, maxPower := 20, linkClass := 1, widths := [1, 8], mapsLanes := true }

/-- The peer: port 3 of module (0, 2, 3). -/
def peer3 : PeerId := { dtype := 1, plane := 0, group := 2, index := 3, pport := 3 }

/-- Port 8 of width 8 in a state, in a released cage with a unit, cabled to `peer3`. -/
def portIn (st : PState) (f : PortSt → PortSt) : State :=
  upWith fun x =>
    ((x.modNv fun n =>
        { n with
          portCfg := put n.portCfg 8 { width := 8, enable := true, degrade := true }, coordValid := true
          dir := put n.dir 8 0
          cabling := put n.cabling 8 { dtype := 1, plane := 0, group := 2, index := 3, pport := 3 } }).modPort 8 fun q =>
      f { q with st, active := 0xff, peer := peer3, peerState := 2 }).modCage 1 fun c =>
      { c with unit := some copper, released := true }

/-- `portIn` with port 8 the selected port of the PCIe path. -/
def portSel (st : PState) : State := (portIn st id).onSys fun x => x.setSel .pcie 0x2000 0 8

/-- A LINK_ID of `peer3` in Seasoning. -/
def linkId3 : List Byte := osBuild 3 0 (toBe 5 (1 * 2 ^ 32 + 2 * 2 ^ 24 + 3 * 2 ^ 16 + 3) ++ toBe 1 1 ++ List.replicate 4 0)

/-- A training attempt that ends well on all lanes. -/
def trained : Training := { ok := true, usable := 0xff, peerMask := 0xff, probes := List.replicate 16 (110, 90) }

/-- What the clauses of `Obligations.PortObjectsAreWritten` assume is met. -/
theorem witness_PortObjectsAreWritten :
    (up.sys.takes .pcie 0x2010 ∧ fld (0x4000 : Word) 15 14 ≠ 3 ∧ fld (0x4000 : Word) 3 0 = 0 ∧
      fld (0x4000 : Word) 31 16 = 0 ∧ up.sys.rwsOk = .ok ()) ∧
    up.sys.takes .pcie 0x3040 ∧ (up.sys.takes .pcie 0x2000 ∧ (1023 : Word).toNat ≤ 1023) ∧
    (let s := portSel .disabled
     s.sys.takes .pcie 0x2000 ∧ s.sys.rwsOk = .ok () ∧ (s.sys.selOf .pcie 0x2000 0).toNat % 1024 = 8 ∧
      (s.sys.port 8).st = .disabled ∧ s.sys.widthBad 8 4 = false) ∧
    (let s := portSel .training
     (s.sys.port 8).st ≠ .up ∧ (s.sys.port 8).st ≠ .seasoning ∧ (s.sys.port 8).st ≠ .draining) := by decide +kernel

/-- What the clauses of `Obligations.PortFaultsRun` assume is met. -/
theorem witness_PortFaultsRun :
    (((portIn .up fun q => { q with planned := true }).sys.port 8).planned = true ∧ (1 : BitVec 4) = 1) ∧
    (((portIn .up id).sys.port 8).planned = false ∧ ((portIn .up id).sys.port 8).st = .up ∧
      ((portIn .up id).sys.port 8).linked = true) ∧
    (((portIn .up id).sys.port 8).active &&& 3 ≠ 0 ∧ (portIn .up id).sys.mayDegrade 8 (((portIn .up id).sys.port 8).active &&& ~~~(3 : BitVec 8)) = true) ∧
    ((portIn .training fun q => { q with warm := some 5 }).sys.port 8).warm = some 5 := by decide +kernel

/-- What the clauses of `Obligations.TrainingRuns` assume is met. -/
theorem witness_TrainingRuns :
    (let s := portIn .training fun q => { q with active := 0 }
     (s.sys.port 8).st = .training ∧ (s.sys.port 8).warm = none ∧ (s.sys.port 8).dark = false ∧
      (s.sys.port 8).retryAt = none ∧ s.sys.released 8 = true ∧ s.sys.portsOn = true ∧ s.sys.dieUp 0 = true ∧
      trained.ok = true ∧ trained.usable &&& trained.peerMask &&& widthMask (s.sys.pcfg 8).width ≠ 0 ∧
      (s.sys.pcfg 8).degrade = true) ∧
    (let s := portIn .training fun q => { q with trained := true }
     (s.sys.port 8).trained = true ∧ linkId3.length = 16 ∧ osOk linkId3 = true ∧ beAt linkId3 0 1 = 3 ∧
      s.sys.nv.coordValid = true ∧ s.sys.boot.mode = .ready ∧ (getD s.sys.nv.cabling 8 {} : Cabling).peer = peer3 ∧
      beAt linkId3 2 5 = 1 * 2 ^ 32 + 2 * 2 ^ 24 + 3 * 2 ^ 16 + 3) ∧
    ((portIn .training fun q => { q with retryAt := some 7 }).sys.port 8).retryAt = some 7 ∧
    (let q := (portIn .training fun q => { q with warm := some 5 }).sys.port 8
     q.warm.isSome = true ∧ q.active &&& 0xf0 &&& 0xff ≠ 0) ∧
    (((portIn .up id).sys.port 8).test = none ∧ beAt (osBuild 3 0 (List.replicate 5 0 ++ [2] ++ List.replicate 4 0)) 7 1 = 2 ∧
      osOk (osBuild 3 0 (List.replicate 5 0 ++ [2] ++ List.replicate 4 0)) = true) ∧
    (portIn .seasoning id).sys.peerMatches 8 = true ∧
    (((portIn .seasoning id).sys.port 8).st = .seasoning ∧ ((portIn .seasoning id).sys.port 8).seasonReported = false) ∧
    (let s := portIn .up fun q => { q with cleanStart := some 9 }
     (s.sys.port 8).cleanStart = some 9 ∧ (s.sys.port 8).st = .up ∧ (s.sys.season 8).hist = false) ∧
    (let s := portIn .up id
     s.sys.portOfLane 9 = some 8 ∧ (s.sys.port 8).active.getLsbD 1 = true) := by decide +kernel

/-- What the clauses of `Obligations.PortCommandsRun` assume is met. -/
theorem witness_PortCommandsRun :
    ((portIn .up id).sys.idleSlot .port .pcie ∧ fld (8 : Word) 9 0 = 8 ∧ (portIn .up id).sys.rwsOk = .ok ()) ∧
    (let s := portIn .maintenance id
     s.sys.idleSlot .port .pcie ∧ (s.sys.port 8).st = .maintenance ∧ (s.sys.port 8).test = none ∧ s.sys.bistHolds 8 = false ∧
      get? s.sys.ports.bist 0 = none ∧ s.sys.ports.bistFailed.contains 0 = false ∧ s.sys.dieQuiet 0 = true ∧
      (s.sys.cage 1).unit = some copper ∧ fld (4 : Word) 3 0 = 4) ∧
    (let s := portIn .draining fun q => { q with drain := some 3 }
     (s.sys.port 8).st = .draining ∧ (s.sys.port 8).drain = some 3 ∧ (s.sys.eg 8).idle = true) ∧
    ((portIn .maintenance fun q =>
        { q with test := some { path := .pcie, pattern := 1, stop := 9 } }).sys.port 8).test.isSome = true ∧
    get? (up.onSys fun x => x.modPorts fun q => { q with bist := put q.bist 0 .pcie }).sys.ports.bist 0 = some .pcie := by
  decide +kernel

/-- A delivered fault notice. -/
def faultNoticed : State :=
  upWith fun x => x.modSw fun w => { w with svc := [{ svc := 5, core := 0, id := 0, pkt := { kind := 7 } }] }

/-- What the clauses of `Obligations.CagesRun` assume is met. -/
theorem witness_CagesRun :
    (let s := portIn .up id
     s.sys.portsOn = true ∧ s.sys.boot.j2Lost = false ∧ (s.sys.cage 1).unit = some copper ∧ (s.sys.cage 1).off = false) ∧
    (upWith fun x => x.modBoot fun b => { b with j2Lost := true }).sys.boot.j2Lost = true ∧
    (faultNoticed.sys.takeDelivery fun d => d.svc == 5 && d.pkt.kind == 7).isSome = true := by decide +kernel

/-- Every Felt link in full service. -/
def felted : State :=
  upWith fun x =>
    (x.modFelt fun t =>
      { t with link := (List.range 38).map fun l => (l, ({ st := .full } : FeltLink)), fences := [(0, 1, [0])] }).modNv fun n =>
      { n with feltAgreed := (List.range 38).map fun l => (l, ({ mask := fullMask l } : FeltRec)) }

/-- `felted` with link 20 put through `f`. -/
def feltWith (f : FeltLink → FeltLink) : State := felted.onSys fun x => x.modLink 20 f

/-- Memory in use: packet 0 in a buffer and flow context 5. -/
def held : State :=
  upWith fun x =>
    (x.modSw fun w =>
      { w with
        pkt := [(0, { pkt := {}, ingress := some 0, die := 0, pool := .ingress 0 0, cells := 1, copies := 1, crcOk := true
                      arrived := 0, header := [] })] }).modFlows fun f => { f with ctx := [(5, { peer := 1, flow := 2, outbound := true, jtag := 0, jgen := 0, svc := 0 })] }

/-- A record of link 20 with all its lane modules and no repairs. -/
def recBytes : List Byte :=
  let l := toBe 8 (20 * 2 ^ 42 + 19 * 2 ^ 37 + (2 ^ 20 - 1)) ++ (List.range 20).flatMap fun _ => toBe 8 (2 ^ 28 - 1)
  l ++ toBe 4 (crc32c l).toNat

/-- The record. -/
def rec20 : FeltRec := { mask := fullMask 20 }

/-- What the ends of link 20 agree on from that record. -/
def rec21 : FeltRec := { rec20 with gen := 1 }

/-- An idle flit with a NAK. -/
def nakFlit : List Byte :=
  let l : List Byte := List.replicate 122 0 ++ toBe 2 8
  l ++ toBe 4 (crc32c l).toNat

/-- What the clauses of `Obligations.MemoryEventsRun` assume is met. -/
theorem witness_MemoryEventsRun :
    up.sys.hbmHas 1000 = true ∧
    (1000 < up.sys.allocated ∧ up.sys.mem.patrolNext < up.sys.units ∧ up.sys.mem.patrolNext ≤ 1000 / 256 ∧
      up.sys.mem.poisoned = []) ∧
    (let s := upWith fun x => x.modMem fun m => { m with poisoned := [(3, .free)] }
     1000 < s.sys.allocated ∧ s.sys.mem.patrolNext < s.sys.units ∧
      (s.sys.mem.poisoned.filter fun e => decide (s.sys.mem.patrolNext ≤ e.1) && decide (e.1 ≤ 1000 / 256)) = [(3, .free)]) ∧
    (held.sys.pktRec 0).isSome = true ∧
    (get? held.sys.flows.ctx 5).isSome = true ∧
    (let s := upWith fun x => x.modMem fun m => { m with cfg := { m.cfg with rotate := true } }
     s.sys.mem.cfg.rotate = true ∧ s.sys.mem.noSpare.contains (poolKey (.buffer 3)).1 = false) ∧
    get? up.sys.nv.stackLost 19 = none ∧ up.sys.boot.lostDies.contains 19 = false ∧ up.sys.boot.mode ≠ .off ∧
    up.sys.boot.mode ≠ .held := by decide +kernel

/-- What the clauses of `Obligations.FeltFlitsRun` assume is met. -/
theorem witness_FeltFlitsRun :
    felted.sys.linkLive 37 = true ∧ felted.sys.linkUp 37 = true ∧ (FlitHead.of []).ok = false ∧ (FlitHead.of nakFlit).ok = true ∧
    (FlitHead.of nakFlit).nak = true ∧ (felted.sys.felt.fences.any fun e => e.1 == 0 && e.2.1 == 1) = true ∧
    (felted.sys.agreed 37).mask.getLsbD 24 = true := by decide +kernel

/-- What the clauses of `Obligations.FeltAgreementAndRepairsRun` assume is met. -/
theorem witness_FeltAgreementAndRepairsRun :
    (FeltRec.of 20 recBytes = some rec20 ∧
    (let s := feltWith fun x =>
        { x with
          st := .agreeing, propNear := some rec20, propFar := some rec20, agreeStart := some 3, confNear := some rec21 }
     FeltRec.of 20 (rec21.bytes 20) = some rec21 ∧ (s.sys.link 20).propNear = some rec20 ∧
      (s.sys.link 20).propFar = some rec20 ∧ (s.sys.link 20).st = .agreeing ∧ s.sys.agreeOf 20 rec20 rec20 = rec21 ∧
      rec21.mask ≠ 0 ∧ (s.sys.link 20).confNear = some rec21 ∧ (s.sys.link 20).agreeStart = some 3) ∧
    (let s := feltWith fun x => { x with st := .down, retryAt := some 9, fresh := false }
     (s.sys.link 20).st = .down ∧ (s.sys.link 20).retryAt = some 9 ∧
      s.sys.boot.lostDies.contains (linkEnds 20).1 = false ∧ s.sys.boot.lostDies.contains (linkEnds 20).2 = false ∧ (s.sys.link 20).fresh = false) ∧
    ((feltWith fun x => { x with st := .down, retryAt := some 9, fresh := true }).sys.link 20).fresh = true ∧
    felted.sys.linkUp 0 = true) ∧
    (((felted.sys.agreed 20).mask.getLsbD 3 = true ∧
      steerLane ((felted.sys.agreed 20).lanes 3) 63 = some [63, 0x7F, 0x7F, 0x7F] ∧
      [63, 0x7F, 0x7F, 0x7F] ≠ (felted.sys.agreed 20).lanes 3) ∧
    (let s := felted.onSys fun x => x.modNv fun n =>
        { n with feltAgreed := put n.feltAgreed 20 { rec20 with repair := [(3, [0, 1, 2, 3])] } }
     (s.sys.agreed 20).mask.getLsbD 3 = true ∧ steerLane ((s.sys.agreed 20).lanes 3) 67 = none) ∧
    (felted.sys.idleSlot .felt .pcie ∧ fld (37 : Word) 5 0 = 37 ∧ fld (24 : Word) 4 0 < linkMods 37 ∧
      felted.sys.linkUp 37 = true ∧ (felted.sys.agreed 37).mask.getLsbD 24 = true ∧
      (felted.sys.agreed 37).mask ≠ BitVec.ofNat 32 (2 ^ 24) ∧ (felted.sys.link 37).test = none ∧
      (felted.sys.link 37).retrain = [] ∧ (felted.sys.link 37).st ≠ .agreeing) ∧
    ((feltWith fun x => { x with test := some { path := .pcie, lmod := 3, start := 0, duration := 4000 } }).sys.link
        20).test.isSome = true) := by
  decide +kernel

/-- Port 8 Up on `up`. -/
def linkUp8 : State := upWith fun x => x.modPort 8 fun q => { q with st := .up, active := 0xff, delay := 12 }

/-- A TIME ordered set with the valid flag. -/
def timeSet : List Byte := osBuild 2 0 (toBe 1 0x80 ++ [0] ++ toBe 4 1000 ++ List.replicate 4 0)

/-- A message of sender 7 on the transport and domain of `up`. -/
def ptp7 (body : PtpBody) : PtpMsg :=
  { ieee8023 := up.sys.clk.cfg.ptpXport, domain := up.sys.clk.cfg.ptpDomain.setWidth 8, sender := 7, body }

/-- Its Announce. -/
def announce7 : PtpAnnounce :=
  { priority1 := 128, clockClass := 6, accuracy := 33, variance := 0, priority2 := 128, grandmaster := 9, steps := 0, sender := 7 }

/-- The clock of `up` put through `f`. -/
def clkWith (f : Clock → Clock) : State := upWith fun x => x.modClk f

/-- Sender 7 is the master of port A, with a Sync of two steps and number 3, or of one step with a Delay_Req of number 2. -/
def mastered (f : PtpSrc → PtpSrc) : State := clkWith fun c => { c with ptpA := f { masters := [{ announce7 with sender := 7 }] } }

/-- A fresh BUDGET of 3,000 W for every module, in a frame. -/
def budgetMsg : List Byte :=
  List.replicate 12 2 ++ [0x88, 0xB5] ++ [0x10, 0] ++ toBe 2 7 ++ toBe 4 0 ++ toBe 4 0 ++ toBe 4 12 ++ toBe 4 1 ++ toBe 4 3000 ++
    toBe 4 9 ++ List.replicate 18 0

/-- `up` with a source of the dictionary allowed. -/
def dictTime : State := clkWith fun c => { c with cfg := { c.cfg with srcPrio := 0x5000 } }

/-- What the clauses of `Obligations.TimeRuns` assume is met. -/
theorem witness_TimeRuns :
    (((linkUp8.sys.port 8).st = .up ∧ (linkUp8.sys.port 8).linked = true ∧ timeSet.length = 16 ∧ osOk timeSet = true ∧ beAt timeSet 0 1 = 2 ∧
      linkUp8.sys.timeOn = true ∧ bit (beAt timeSet 2 1) 7 = true ∧ bit (beAt timeSet 2 1) 6 = false) ∧
    (get? (clkWith fun c => { c with links := [(8, {})] }).sys.clk.links 8).isSome = true ∧
    (up.sys.timeOn = true ∧ (ptp7 (.announce announce7)).domain = up.sys.clk.cfg.ptpDomain.setWidth 8) ∧
    ((mastered id).sys.timeOn = true ∧ ((mastered id).sys.clk.ptp false).master = some 7) ∧
    ((mastered fun x => { x with sync := some (3, 50, none) }).sys.clk.ptp false).sync = some (3, 50, none) ∧
    (let x := (mastered fun x => { x with sync := some (3, 50, some 40), req := some (2, 60) }).sys.clk.ptp false
     x.master = some 7 ∧ x.sync = some (3, 50, some 40) ∧ x.req = some (2, 60)) ∧
    ((clkWith fun c => { c with ptpA := { qualified := true } }).sys.clk.ptp false).qualified = true ∧
    up.sys.boot.mode = .ready ∧
    (clkWith fun c => { c with ppsLast := some 3 }).sys.clk.ppsLast = some 3) ∧
    ((clkWith fun c => { c with step := some { boundary := 9, delta := -4, first := true, high := false } }).sys.clk.step.isSome =
      true ∧
    ((clkWith fun c => { c with holdover := true }).sys.clk.holdover = true ∧ up.sys.clk.holdReported = false) ∧
    (clkWith fun c => { c with ppsOut := true }).sys.clk.ppsOut = true ∧
    (up.sys.clk.ppsOut = false ∧ up.sys.clk.valid = true) ∧
    (dictTime.sys.takes .pcie 0x7001 ∧ (prioList dictTime.sys.clk.cfg.srcPrio).contains 5 = true ∧
      dictTime.sys.earlierQualified = false ∧ dictTime.sys.timeOn = true) ∧
    up.sys.shows .pcie 0x7000) := by
  decide +kernel

/-- What the clauses of `Obligations.ControlCycleRuns` assume is met. -/
theorem witness_ControlCycleRuns : up.sys.boot.mode = .ready := by decide +kernel

/-- What the clauses of `Obligations.PowerEventsRun` assume is met. -/
theorem witness_PowerEventsRun :
    (3 < 4 ∧ up.sys.boot.mode = .ready) ∧
    (upWith fun x => x.modBoot fun b => { b with warm := true }).sys.boot.warm = true ∧
    (Machine.sensorOk (.stack 19) = true ∧ up.sys.hearth.sensorFailed.contains (.stack 19) = false) ∧
    (upWith fun x => x.modBoot fun b => { b with dip := true }).sys.boot.dip = true ∧ up.sys.boot.stopped = false ∧ up.sys.boot.waiting = false ∧
    up.sys.hearth.stale = false ∧
    up.sys.boot.bothLost = false ∧
    (up.sys.facilityOn = true ∧ 60 ≤ budgetMsg.length ∧ beAt budgetMsg 12 2 = 0x88B5 ∧
      (let b := budgetMsg.drop 14
       beAt b 0 1 = 0x10 ∧ beAt b 12 4 = 12 ∧ beAt b 8 4 = 0 ∧ beAt (b.drop 16) 0 4 % 2 = 1 ∧ wordAt (b.drop 16) 4 = 3000) ∧
      up.sys.mg.budgetSeq = none) := by decide +kernel

/-- What the clauses of `Obligations.ProfilesAreWritten` assume is met. -/
theorem witness_ProfilesAreWritten :
    (up.sys.takes .pcie 0xA000 ∧ up.sys.rwsOk = .ok () ∧ (255 : Word) = 255) ∧
    (up.sys.takes .pcie (0xA001 : BitVec 16).toNat ∧ (3 : Word).toNat ≤ 3) ∧
    (up.sys.takes .pcie (0xA002 : BitVec 16).toNat ∧ 1 ≤ (1024 : Word).toNat ∧ (1024 : Word).toNat ≤ 1024) := by
  decide +kernel

/-- `up` with its counters put through `f`. -/
def cntWith (f : Counters → Counters) : State := upWith fun x => x.modCnt f

/-- Counter 3 of the Collier runs with SAMPLE on its event 0x41. -/
def sampling : State :=
  cntWith fun c => { c with unit := [(20, { cfg := [(3, 0xA0410000)], reload := [(3, 7)] })] }

/-- A sample numbered 0. -/
def sample0 : Sample := { num := 0, time := 5, unit := 1, port := 64, event := 1, ctr := 0, header := [] }

/-- `up` with the sample and a log record. -/
def recorded : State :=
  (cntWith fun c => { c with samples := [sample0] }).onSys fun x => x.log faultJournal 0x03 20 0 0 0 []

/-- What the clauses of `Obligations.CounterAndSampleCommandsRun` assume is met. -/
theorem witness_CounterAndSampleCommandsRun :
    ((up.sys.takes .pcie 0x9000 ∧ (3 : Word).toNat ≤ 3) ∧
    ((cntWith fun c => { c with actions := [(.freeze, 2048)] }).sys.cnt.actions = [(.freeze, 2048)] ∧
      up.sys.cnt.armed = false) ∧
    (let s := cntWith fun c => { c with armed := true, atAct := 1 }
     s.sys.cnt.actions = [] ∧ s.sys.cnt.armed = true ∧ s.sys.clk.valid = true)) ∧
    ((let c := getD (sampling.sys.unitCtr 20).cfg 3 0
     fld c 31 31 = 1 ∧ fld c 29 29 = 1 ∧ sampling.sys.cnt.frozen = false ∧ (sampling.sys.unitCtr 20).owed = []) ∧
    (recorded.sys.shows .pcie 0x9080 ∧
      (recorded.sys.cnt.samples.find? fun r => r.num.toNat == (recorded.sys.selOf .pcie 0x9080 3).toNat) = some sample0) ∧
    (recorded.sys.shows .pcie 0xF000 ∧
      (recorded.sys.nv.log.find? fun r => r.num.toNat == (recorded.sys.selOf .pcie 0xF000 0).toNat).isSome = true)) := by
  decide +kernel

/-- A standby that is ready. -/
def paired : State := upWith fun x => x.modBoot fun b => { b with standby := 0 }

/-- A journal half that is three quarters full. -/
def halfFull : State := upWith fun x => x.modJr fun j => { j with used := 25165824 }

/-- What the clauses of `Obligations.CollierAndJournalRun` assume is met. -/
theorem witness_CollierAndJournalRun :
    ((paired.sys.collierOn = true ∧ paired.sys.boot.standby ≠ 2 ∧ paired.sys.boot.standby = 0 ∧
      paired.sys.takes .pcie 0x1030) ∧
    (let s := upWith fun x => x.modBoot fun b => { b with standby := 2 }
     s.sys.collierOn = true ∧ s.sys.boot.standby = 2 ∧ (1 : BitVec 2) ≠ 3) ∧
    (let s := upWith fun x => x.modBoot fun b => { b with standby := 1 }
     s.sys.collierOn = true ∧ s.sys.boot.standby = 1)) ∧
    ((up.sys.collierOn = true ∧ up.sys.jr.failed = false ∧ up.sys.jr.used + up.sys.jr.buffered ≤ 33554432) ∧
    (25165824 ≤ halfFull.sys.jr.used ∧ halfFull.sys.jr.failed = false ∧ halfFull.sys.powerWarned = false ∧
      halfFull.sys.collierOn = true) ∧
    (up.sys.takes .pcie 0x1041 ∧ up.sys.portsQuiet = true)) := by
  decide +kernel

/-- `up` with bulk slot 0 and its security state put through `f`. -/
def secWith (f : Sec → Sec) : State :=
  upWith fun x => (x.modMg fun m => { m with bulk := put m.bulk (bulkKey .pcie 0) bulkSlot }).modSec f

/-- The session of the Ethernet path in a state. -/
def sessionIn (st : Nat) : State :=
  upWith fun x => x.modMg fun m => { m with sessions := put m.sessions (pathNum .eth) { st, since := 5, last := 5, txSeq := 0 } }

/-- What the clauses of `Obligations.SecurityRuns` assume is met. -/
theorem witness_SecurityRuns :
    ((let s := secWith id
     s.sys.idleSlot .sec .pcie ∧ s.sys.sec.onTrial = false ∧ s.sys.sec.stage = none ∧
      (s.sys.region .pcie 0x10000010 4097 matches .ok _) ∧
      (regionRead s.stores .pcie bulkSlot 4097 .failed matches .ok _)) ∧
    (secWith fun c => { c with stage := some { path := .pcie, handle := 0, bytes := [] } }).sys.sec.stage.isSome = true ∧
    (let s := secWith fun c => { c with imgB := { valid := true } }
     s.sys.idleSlot .sec .pcie ∧ s.sys.sec.stage = none ∧ (s.sys.image (bit (1 : Word).toNat 0)).valid = true) ∧
    (let s := secWith fun c => { c with onTrial := true }
     s.sys.idleSlot .sec .pcie ∧ s.sys.sec.onTrial = true)) ∧
    ((let s := secWith fun c => { c with id0 := true }
     s.sys.idleSlot .sec .pcie ∧ s.sys.identityOk = true ∧ (s.sys.region .pcie 0x10000010 2816 matches .ok _) ∧
      bulkSlot.dKind = 2) ∧
    (up.sys.takes .eth 0x8020 ∧ up.sys.sessionOpen .eth = false) ∧
    (let s := sessionIn 1
     s.sys.takes .eth 0x8020 ∧ (s.sys.session .eth).st = 1 ∧
      s.sys.clk.mono ≤ (s.sys.session .eth).since + 5000000000) ∧
    ((sessionIn 2).sys.session .eth).st = 2) := by
  decide +kernel

/-- The module in a mode and a Kindling phase. -/
def modeIn (mode : Mode) (phase : BitVec 4) : State := upWith fun x => x.modBoot fun b => { b with mode, phase }

/-- Die 3 in partial reset since 7 ns. -/
def resetting : State := upWith fun x => x.modBoot fun b => { b with dieResets := [(3, 7)] }

/-- What the clauses of `Obligations.ResetsAndDieResetsRun` assume is met. -/
theorem witness_ResetsAndDieResetsRun :
    (((7 : BitVec 4).toNat ≤ 7 ∧ (7 : BitVec 4) ≠ 0 ∧ up.sys.boot.mode ≠ .off ∧ up.sys.boot.mode ≠ .thermal) ∧
    (let s := upWith fun x => x.modHearth fun h => { h with flow := 300 }
     let r := ((s.sys.modBoot fun b => { b with resetN := false }).dark .held).modBoot fun b => { b with waiting := true, lowInput := decide (41000 < 41000) }
     41000 ≤ 41000 ∧ r.boot.mateHigh = false ∧ r.coolantFlows = true) ∧
    ((modeIn .kindling 1).sys.boot.mode = .kindling ∧ (modeIn .kindling 5).sys.boot.phase = 5 ∧
      (modeIn .kindling 1).sys.boot.bothLost = false) ∧
    (up.sys.takes .pcie 0x1050 ∧ up.sys.boot.mode ≠ .thermal) ∧
    ((modeIn .thermal 6).sys.takes .pcie 0x1050 ∧ (modeIn .thermal 6).sys.cool = true) ∧
    (let s := upWith fun x => (x.modBoot fun b => { b with bothLost := true }).modNv fun n => { n with autoReset := true }
     s.sys.boot.bothLost = true ∧ s.sys.nv.autoReset = true) ∧
    (let s := (modeIn .kindling 1).onSys fun x => x.modSec fun c => { c with onTrial := true }
     s.sys.sec.onTrial = true ∧ s.sys.boot.mode = .kindling)) ∧
    ((up.sys.takes .pcie 0x1050 ∧ (15 : Word).toNat ≤ 15 ∧ up.sys.diesOn = true ∧ up.sys.dieQuiet 15 = true ∧
      up.sys.boot.dieResets = [] ∧ up.sys.dieUp 15 = true) ∧
    get? resetting.sys.boot.dieResets 3 = some 7) := by
  decide +kernel

/-- What the clauses of `Obligations.PowerSignalsRun` assume is met. -/
theorem witness_PowerSignalsRun :
    (up.sys.powerWarned = false ∧ up.sys.collierOn = true ∧ (modeIn .kindling 3).sys.collierOn = true) ∧
    ((modeIn .kindling 1).sys.powerWarned = false ∧ (modeIn .kindling 1).sys.collierOn = false ∧ (modeIn .kindling 1).sys.boot.mode = .kindling) ∧
    (let s := upWith fun x => x.modBoot fun b => { b with pfe := true }
     s.sys.boot.pfe = true ∧ s.sys.boot.mateHigh = false) ∧
    (let s := upWith fun x => x.modBoot fun b => { b with mode := .held, stopped := true, lowInput := true }
     s.sys.boot.mode ≠ .off ∧ 41000 ≤ 41000 ∧ s.sys.boot.stopped = true ∧ s.sys.powerWarned = false) ∧
    (up.sys.boot.mode ≠ .off ∧ up.sys.boot.mode = .ready ∧ 39999 < 40000 ∧ 72000 < 72001 ∧ 19 < 20) := by decide +kernel

/-- A READ of NAME in object 0x1000. -/
def readMsg : List Byte := toBe 1 1 ++ toBe 1 1 ++ toBe 2 9 ++ toBe 4 0x10000000 ++ toBe 4 0 ++ toBe 4 0

/-- A WRITE of the first bytes of IN in object 0x8020. -/
def writeMsg : List Byte :=
  toBe 1 2 ++ toBe 1 1 ++ toBe 2 9 ++ toBe 4 0x80200000 ++ toBe 4 0 ++ toBe 4 4 ++ toBe 4 1

/-- A session of the Ethernet path with all rights and an OFFSET of 16,777,212. -/
def staged : State :=
  upWith fun x =>
    (x.modMg fun m =>
      { m with
        sessions := put m.sessions (pathNum .eth) { st := 2, keyHash := List.replicate 32 7 }
        offset := put m.offset (pathNum .eth) 16777212 }).modNv fun n =>
      { n with trust := [(0, (List.replicate 32 7, 3))] }

/-- Bulk slot 0 of the PCIe path holds a region of BAR2 to be defined. -/
def defining : State :=
  upWith fun x => x.modMg fun m => { m with bulk := put m.bulk (bulkKey .pcie 0) { kind := 2, addr := 64, len := 16777152 } }

/-- The control host has written a byte of BAR2 and switched the vectors on. -/
def world1 : World := { dma := .failed, cmis := none, bar2 := [(7, 1)], msixOn := some true }

/-- What the clauses of `Obligations.RunsAndStagingRun` assume is met. -/
theorem witness_RunsAndStagingRun :
    ((up.sys.pcieUp = true ∧ up.sys.mg.mbState ≠ 1 ∧ up.sys.boot.bothLost = false ∧
      (up.sys.mailbox 0x1000 0 0 1 4).shows .pcie 0x1000 ∧ (runBytes 0x1000 0 0 4).1 ≤ 768) ∧
    ((3 : BitVec 8) ≠ 1 ∧ (3 : BitVec 8) ≠ 2 ∧ (up.sys.mailbox 0x1000 0 0 3 4).shows .pcie 0x1000) ∧
    (let s := upWith fun x => x.modMg fun m => { m with mbState := 1 }
     s.sys.pcieUp = true ∧ s.sys.mg.mbState = 1) ∧
    ((World.enter world1
          (up.stores, (up.sys.mailbox 0x1012 0 0 2 2).modMg fun x => { x with mbData := fit 768 [] })).2.takes .pcie 0x1012 ∧
      (runBytes 0x1012 0 0 2).1 ≤ 768) ∧
    ((World.enter world1 (up.stores, up.sys)).2.takes .pcie 0x1012 ∧ place 0x1012 0 0 = .ok (w4 0 1)) ∧
    ((DictMsg.of false readMsg).mtype = 1 ∧ (DictMsg.of false readMsg).ok = true ∧
      (DictMsg.of false readMsg).trailer = none ∧ up.sys.sessionOpen .eth = false ∧
      up.sys.shows .eth (fld (DictMsg.of false readMsg).addr 31 16)) ∧
    ((DictMsg.of false writeMsg).mtype = 2 ∧ (DictMsg.of false writeMsg).ok = true ∧
      (DictMsg.of false writeMsg).trailer = none ∧ (World.enter world1 (up.stores, up.sys)).2.sessionOpen .eth = false ∧
      (World.enter world1 (up.stores, up.sys)).2.takes .eth (fld (DictMsg.of false writeMsg).addr 31 16))) ∧
    ((up.sys.takes .pcie 0x1020 ∧ up.sys.bulkUsed (bulkKey .pcie 0) = false ∧ (up.sys.bulkOf .pcie).kind = 0) ∧
    (let b := defining.sys.bulkOf .pcie
     defining.sys.takes .pcie 0x1020 ∧ defining.sys.bulkUsed (bulkKey .pcie 0) = false ∧ b.kind = 2 ∧
      b.addr.toNat % 64 = 0 ∧ b.len.toNat % 64 = 0 ∧ 64 ≤ b.len.toNat ∧ b.len.toNat ≤ 268435456 ∧
      b.addr.toNat + b.len.toNat ≤ 16777216) ∧
    (staged.sys.takes .eth 0x1020 ∧ staged.sys.shows .eth 0x1020 ∧
      (getD staged.sys.mg.offset (pathNum .eth) 0).toNat + 4 ≤ 16777216)) := by
  decide +kernel

/-- A module whose two Collier pairs are lost. -/
def bothGone : State := upWith fun x => x.modBoot fun b => { b with bothLost := true }

/-- The Ethernet path with an open session of all rights. -/
def keyed : State :=
  upWith fun x =>
    (x.modMg fun m => { m with sessions := put m.sessions (pathNum .eth) { st := 2, keyHash := List.replicate 32 7 } }).modNv
      fun n => { n with trust := [(0, (List.replicate 32 7, 3))] }

/-- A region of staging on the Ethernet path. -/
def stagedRegion : State :=
  keyed.onSys fun x => x.modMg fun m => { m with bulk := put m.bulk (bulkKey .eth 0) { kind := 3, len := 65536, gen := 1, handle := 0x20100000, dKind := 3, dAddr := 64, dLen := 65536 } }

/-- A packet with a source route and five bytes. -/
def routed : Pkt :=
  { ver := 1, hlen := 6, tc := 2, ep := true, rm := 1, vc := false, xp := true, rsv := 0, plen := 5, dgei := 1, sgei := 2, flow := 3
    kind := 4, seq := 5, ts := 6, jtag := 7, jgen := 8, hops := 9, hcrc := 10, ext := .sr 0xFEDCBA98765432100123456789ABCDEF
    payload := [1, 2, 3, 4, 5], pad := [0, 0, 0], pcrc := 11 }

/-- A packet without payload, and one of a collective. -/
def bare : Pkt := { routed with hlen := 4, plen := 0, ext := .none, payload := [], pad := [], pcrc := 0 }

def collPkt : Pkt := { routed with hlen := 7, ext := .coll (BitVec.ofNat 192 (2 ^ 192 - 5)) }

/-- What the clauses of `Obligations.AnEmptyQueueIdles` assume is met. -/
theorem witness_AnEmptyQueueIdles : State.reset.pending = [] := rfl

/-- What the clauses of `Obligations.EveryStepKeepsTheInvariant` assume is met. -/
theorem witness_EveryStepKeepsTheInvariant :
    State.reset.Inv ∧ ∃ t, step State.reset = .next t := ⟨by unfold State.Inv; decide, _, rfl⟩

/-- What the clauses of `Obligations.CommandsAnswerAndKeepTheQueue` assume is met. -/
theorem witness_CommandsAnswerAndKeepTheQueue : Instr.wf (.sensorFail (.stack 19)) = true := by decide +kernel

/-- What the clauses of `Obligations.PacketsRoundTrip` assume is met. -/
theorem witness_PacketsRoundTrip :
    (routed.payload.length = routed.plen.toNat ∧ routed.pad.length = (4 - routed.plen.toNat % 4) % 4 ∧ routed.plen ≠ 0) ∧
    (bare.payload.length = bare.plen.toNat ∧ bare.pad.length = (4 - bare.plen.toNat % 4) % 4 ∧ bare.pcrc = 0) ∧
    (Pkt.parse routed.bytes = routed ∧ Pkt.parse bare.bytes = bare ∧ Pkt.parse collPkt.bytes = collPkt) := by decide +kernel

/-- What the clauses of `Obligations.RequestsLeaveTheRest` assume is met. -/
theorem witness_RequestsLeaveTheRest :
    (Path.pcie ≠ .inband ∧ State.reset.sys.gate .pcie 0x2004 true = .refused mgtBusy ∧
      up.sys.gate .eth 0x7001 true = .refused secAuth) ∧ bothGone.sys.boot.bothLost = true := by decide +kernel

/-- What the clauses of `Obligations.MemoryChangesOnlyWhereCommandsStore` assume is met. -/
theorem witness_MemoryChangesOnlyWhereCommandsStore :
    ((∃ t, exec (.portDrain .pcie 5) up = .next t) ∧ (∃ t, exec (.stagingDataAccess .eth 0x40 1 none) keyed = .next t)) ∧
    ((upWith fun x => x.modMg fun m => { m with bulk := put m.bulk (bulkKey .pcie 0) bulkSlot }).sys.region .pcie 0x10000010
        32768 = .ok bulkSlot ∧
      stagedRegion.sys.region .eth 0x20100000 32768 =
        .ok { kind := 3, len := 65536, gen := 1, handle := 0x20100000, dKind := 3, dAddr := 64, dLen := 65536 }) := by
  refine ⟨⟨⟨_, rfl⟩, _, rfl⟩, ?_⟩
  decide +kernel

/-- What the clauses of `Obligations.RunsThatDoNotFitAreRefused` assume is met. -/
theorem witness_RunsThatDoNotFitAreRefused :
    (up.sys.gate .pcie 0x8020 false = .opened ∧ 768 < (runBytes 0x8020 0 0x10 2).1 ∧ up.sys.pcieUp = true ∧ up.sys.mg.mbState ≠ 1 ∧
      up.sys.boot.bothLost = false) ∧
    ((up.sys.mailbox 0x8020 0 0x10 1 2).gate .pcie 0x8020 false = .opened ∧
      (up.sys.mailbox 0x8020 0 0x10 2 2).gate .pcie 0x8020 true = .opened) ∧
    (keyed.sys.gate .eth 0x8020 false = .opened ∧ 3072 < (runBytes 0x8020 0 0x20 5).1) := by decide +kernel

/-- What the clauses of `Obligations.HashSeedIsWrittenWhileEmpty` assume is met. -/
theorem witness_HashSeedIsWrittenWhileEmpty :
    up.sys.takes .pcie 0x3010 ∧ up.sys.verState true = 0 ∧ up.sys.verState false = 1 ∧
      up.sys.copying true = false ∧ (up.sys.tab.seqVer true).em = [] ∧ (up.sys.tab.seqVer true).lpm = [] ∧
      (running 15 [] []).sys.copying false = true := by decide +kernel

/-- What the clauses of `Obligations.SaturatingClearNeedsRights` assume is met. -/
theorem witness_SaturatingClearNeedsRights :
    up.sys.takes .pcie 0x9000 ∧ keyed.sys.takes .eth 0x9000 ∧ keyed.sys.sessionOpen .eth = true ∧ keyed.sys.rights .eth = 3 := by
  decide +kernel

/-- What the clauses of `Obligations.VersionsMoveAsTheyMay` assume is met. -/
theorem witness_VersionsMoveAsTheyMay :
    (up.sys.takes .pcie 0x3002 ∧ up.sys.longOn true = false ∧ up.sys.verState true = 0) ∧
    ((upWith (Sys.setVer true 1 none)).sys.verState false = 1 ∧ (upWith (Sys.setVer true 1 none)).sys.verState true = 1) ∧
    (¬ ((2 : Word) = 1 ∧ up.sys.verState false = 0) ∧ up.sys.verState true ≠ 1 ∧ ((running 13 [] []).sys.longOn false = true)) ∧
    ((upWith (Sys.setVer true 2 (some retiring))).sys.fwd.retire1 = some retiring ∧
      (upWith (Sys.setVer true 2 (some retiring))).sys.verState true = 2) := by decide +kernel

/-- What the clauses of `Obligations.GrantsNeverShrinkAWindow` assume is met. -/
theorem witness_GrantsNeverShrinkAWindow :
    granting.sys.takeDelivery (fun d => d.core == 1 && d.pkt.kind == 6) =
        some (grantIn, granting.sys.modSw fun w => { w with svc := [] }) ∧
      (granting.sys.modSw fun w => { w with svc := [] }).findFlow 20 5 true = some (0, flowOut) ∧
      get? granting.sys.flows.ctx 0 = some flowOut ∧ flowOut.st ≠ .stale ∧
      (granting.sys.modSw fun w => { w with svc := [] }).isCached 1 0 = true ∧ serialAfter 1 flowOut.gseq = true ∧
      serialAfter 0 flowOut.gseq = false := by decide +kernel

/-- What the clauses of `Obligations.BothCrcsAreCrc32c` assume is met. -/
theorem witness_BothCrcsAreCrc32c : routed.plen ≠ 0 ∧ routed.seal.dataOk = true ∧ crc32c (ascii "123456789") = 0xE3069283 := by
  decide +kernel

/-- An ordered set has 16 bytes (02 R64). -/
theorem test_illformed_ordered_set :
    Instr.wf (.creditOsReceive 0 (List.replicate 15 0)) = false ∧
      Instr.wf (.timeOsReceive 0 []) = false ∧
      Instr.wf (.linkIdReceive 0 (List.replicate 17 0)) = false := by
  decide

/-- A flit has 128 bytes (15 R455). -/
theorem test_illformed_flit :
    Instr.wf (.feltFlitReceive 0 false 0 (List.replicate 127 0)) = false ∧
      Instr.wf (.feltNakReceive 0 true []) = false := by
  decide

/-- There are 38 Felt links, 0-37 (15 R453). -/
theorem test_illformed_link :
    Instr.wf (.feltFlitReceive 38 false 0 (List.replicate 128 0)) = false ∧
      Instr.wf (.feltNakReceive 38 true (List.replicate 128 0)) = false ∧
      Instr.wf (.feltModulePause 38 0 false []) = false ∧
      Instr.wf (.feltLaneRepair 38 0 0) = false ∧
      Instr.wf (.feltPropose 38 false []) = false ∧
      Instr.wf (.feltConfirm 38 false []) = false ∧
      Instr.wf (.feltAgreeTimeout 38) = false ∧
      Instr.wf (.feltLinkDown 38) = false ∧
      Instr.wf (.feltRetrainRetry 38 [] []) = false ∧
      Instr.wf (.feltRecentre 38 0) = false ∧
      Instr.wf (.feltModtestEnd 38 []) = false := by
  decide

/-- There are 20 logic dies, 0-19 (20 Table 20-1). -/
theorem test_illformed_die :
    Instr.wf (.grantTimeout 20) = false ∧
      Instr.wf (.dieLoss 20) = false ∧
      Instr.wf (.routeFenceReturn 20 0) = false ∧
      Instr.wf (.routeFenceReturn 0 20) = false := by
  decide

/-- There are 20 stacks, HS0-HS19 (01 R15). -/
theorem test_illformed_stack :
    Instr.wf (.stackLoss 20 0) = false := by
  decide

/-- Sensors are those of dies 0-19, stacks 0-19, the inlet and the flow (17 R509). -/
theorem test_illformed_sensor :
    Instr.wf (.sensorFail (.die 20)) = false ∧
      Instr.wf (.sensorFail (.stack 20)) = false ∧
      Instr.wf (.thermalTrip (.die 20)) = false := by
  decide

/-- A run covers 1-192 sub-indices (18 Table 18-5). -/
theorem test_illformed_run :
    Instr.wf (.mailboxRead 1 0 0 { sub := 0, count := 0 }) = false ∧
      Instr.wf (.mailboxRead 1 0 0 { sub := 0, count := 193 }) = false ∧
      Instr.wf (.mailboxWrite 0 0 0 193 [] { dma := .failed, cmis := none }) = false ∧
      Instr.wf (.stagingDataAccess .eth 0x40 0 none) = false := by
  decide

/-- An attempt that ends well measures the link delay with 16 probes (16 R480). -/
theorem test_illformed_probes :
    Instr.wf (.trainingComplete 0 { ok := true, usable := 1, peerMask := 1, probes := [] }) = false := by
  decide

/-- Readings of 19 dies only. -/
def shortCycle : CycleInput :=
  { tj := List.replicate 19 0, thbm := List.replicate 20 0, pin := 0, vin := 0, iin := 0, fwd := 0
    rails := List.replicate 20 (0, 0), vatDemand := [0, 0, 0, 0], hbmDemand := List.replicate 6 0, codewords := [], fine := [] }

/-- A control cycle measures every die, stack and rail (17 R504). -/
theorem test_illformed_cycle :
    Instr.wf (.controlCycle shortCycle) = false := by
  decide

/-- A group bitmap has 32 words (03 R86). -/
theorem test_illformed_bitmap :
    Instr.wf (.groupWrite .pcie false 0 0 (List.replicate 31 0)) = false := by
  decide

/-- A spray list has 64 slots in 32 words (04 R134). -/
theorem test_illformed_slots :
    Instr.wf (.sprayWrite .pcie false 0 (List.replicate 33 0)) = false := by
  decide

/-- A nonce has 8 words (19 R575). -/
theorem test_illformed_nonce :
    Instr.wf (.attest .pcie (List.replicate 7 0) 0 true) = false := by
  decide

/-- The module has no die 20, no stack 20 and no link 38 (20 Table 20-1, 01 R15, 15 R453): the command stops by name. -/
theorem test_missing_units_stop :
    exec (.dieLoss 20) up = .fault .noUnit ∧ exec (.stackLoss 20 0) up = .fault .noUnit ∧
      exec (.feltLinkDown 38) up = .fault .noUnit := ⟨rfl, rfl, rfl⟩

/-- The queue is first in, first out: the first command is taken and the second stays. -/
theorem test_step_takes_the_front (c d : Instr) :
    step { up with pending := [c, d] } = exec c { up with pending := [d] } := rfl

/-- A command that waits at a module fresh from reset is answered with a next state, and the queue is then empty. -/
theorem test_reset_runs_a_command :
    ∃ t, step { State.reset with pending := [.perstNAssert] } = .next t ∧ t.pending = [] := ⟨_, rfl, rfl⟩

/-- 02 R43: the check value of CRC-32C. -/
theorem test_crc_check_value : crc32c (ascii "123456789") = 0xE3069283 := by decide +kernel

/-- The memory of bytes is little more than its cells: a byte that reads 0 is not listed. -/
theorem test_memory_canonical : Memory.write (Memory.write [] 5 7) 5 0 = [] := by decide

/-- The first and the last shaper of a port with eight active lanes. -/
theorem witness_ShapersGainUpToTheirDepth :
    0 < 7 ∧ 6 < 7 ∧ popcount8 (wired.sys.port 8).active = 8 ∧
      nth ((wired.sys.refillPort 8).eg 8).tokens 6 0 ≠ nth (wired.sys.eg 8).tokens 6 0 := by decide +kernel

end Sys2Proof.Tests
end

