-- ==== Sys2Proof/Proofs/Crc.lean ====
section
/-! Both CRCs of a packet (02 R43): the two that a packet carries are CRC-32C, and each stands big-endian in its place. -/

namespace Sys2Proof.Machine

/-! ## One byte more of CRC-32C -/

/-- A byte is eight bits of the reflected polynomial, however they are counted. -/
theorem crcByte_eq_foldl_crcBit (c : BitVec 32) (b : Byte) :
    crcByte c b = (List.range 8).foldl (fun c _ => crcBit c) (c ^^^ b.setWidth 32) := rfl

/-- Without its final XOR, the CRC is the register that the bytes left. -/
theorem crc32c_xor_ones (l : List Byte) : crc32c l ^^^ 0xFFFFFFFF#32 = l.foldl crcByte 0xFFFFFFFF#32 := by
  rw [crc32c, BitVec.xor_assoc, BitVec.xor_self, BitVec.xor_zero]

theorem crc32c_append_singleton_xor_ones (l : List Byte) (b : Byte) :
    crc32c (l ++ [b]) ^^^ 0xFFFFFFFF#32 = crcByte (crc32c l ^^^ 0xFFFFFFFF#32) b := by
  simp only [crc32c_xor_ones, List.foldl_append, List.foldl_cons, List.foldl_nil]

/-! ## The header, its CRC last -/

@[simp] theorem length_toBe (n w : Nat) : (toBe n w).length = n := by
  induction n generalizing w with
  | zero => rfl
  | succ n ih => rw [toBe, List.length_append, ih, List.length_singleton]

@[simp] theorem Pkt.length_header (p : Pkt) : p.header.length = 32 := by
  simp [Pkt.header]

theorem Pkt.header_drop_28 (p : Pkt) : p.header.drop 28 = toBe 4 p.hcrc.toNat :=
  List.drop_left' (by simp)

/-- The header CRC's own field is not among the bytes that the CRC covers. -/
theorem Pkt.header_take_28_of_hcrc (p : Pkt) (w : Word) :
    ({ p with hcrc := w } : Pkt).header.take 28 = p.header.take 28 := by
  unfold Pkt.header
  rw [List.take_left' (by simp), List.take_left' (by simp)]

theorem Pkt.crc_of_hcrc (p : Pkt) (w : Word) : ({ p with hcrc := w } : Pkt).crc = p.crc := by
  have covered := Pkt.header_take_28_of_hcrc { p with hops := 0 } w
  simp only [Pkt.crc, covered]

/-! ## A sealed packet, and the end of its bytes -/

theorem Pkt.seal_hcrc (p : Pkt) : p.seal.hcrc = p.seal.crc :=
  (Pkt.crc_of_hcrc { p with pcrc := if p.plen = 0 then 0 else p.dataCrc } _).symm

theorem Pkt.seal_pcrc (p : Pkt) (h : p.plen ≠ 0) : p.seal.pcrc = crc32c (p.payload ++ p.pad) :=
  if_neg h

/-- With a payload, a packet ends with its payload CRC (02 R36). -/
theorem Pkt.bytes_drop_last_4 (p : Pkt) (h : p.plen ≠ 0) :
    p.bytes.drop (p.bytes.length - 4) = toBe 4 p.pcrc.toNat := by
  rw [Pkt.bytes, if_neg h]
  refine List.drop_left' ?_
  simp only [List.length_append, length_toBe]
  omega

/-- Settles O60: a byte more is eight steps of the register, the header CRC does not cover its own field, and the last four
bytes of the header and of a packet with a payload are its CRCs. -/
theorem bothCrcsAreCrc32c : Obligations.BothCrcsAreCrc32c := by
  refine ⟨fun l b => ?_, crc32c_xor_ones [], by decide +kernel, fun p => ⟨p.length_header, p.header_drop_28, ?_, ?_⟩⟩
  · exact (crc32c_append_singleton_xor_ones l b).trans (crcByte_eq_foldl_crcBit _ b)
  · exact ⟨p.seal_hcrc, p.seal_pcrc⟩
  · exact p.bytes_drop_last_4

end Sys2Proof.Machine
end

section
/-! The hash seeds of the two versions (04 R112, R144): the object that shows them, and what a write of one answers. -/

namespace Sys2Proof.Machine

/-! ## A write request that the path's gate lets through -/

section
variable {path : Path} {index block sub : Nat} {op : Sys → Except Word Sys} {s : Sys}

theorem request_of_error {c : Word} (hgate : s.takes path index) (hop : op s = .error c) :
    request path index block sub op s = s.refuse path c index block sub := by
  simp only [request, requestThen, hgate, hop]

theorem request_of_ok {f : Sys → Sys} (hgate : s.takes path index) (hop : op s = .ok (f s)) :
    request path index block sub op s = replied path index block sub f s := by
  simp only [request, requestThen, hgate, hop, replied, id]

end

/-! ## The object of the seeds, 0x3010 -/

theorem seed_reset (ver : Bool) : (State.reset.sys.tab.ver ver).seed = 0 := by
  cases ver <;> rfl

theorem view_hashSeed (path : Path) (ver : Bool) (s : Sys) :
    view path 0x3010 0 (b2n ver) s = toBe 4 (s.tab.ver ver).seed.toNat := by
  cases ver <;> rfl

/-- A read of a seed latches and clears nothing. -/
theorem readSub_hashSeed (path : Path) (ver : Bool) (st : Stores) (s : Sys) :
    readSub path 0x3010 0 (b2n ver) (st, s) = .ok (view path 0x3010 0 (b2n ver) s, s) := rfl

/-! ## The write of a seed -/

/-- The version may take a seed: it is FREE, and no exact-match entry and no prefix stands in it (04 R112), the writes that
the sequencer took up counted (R137). -/
abbrev Sys.seedOpen (b : Bool) (s : Sys) : Prop :=
  s.verState b = 0 ∧ (s.tab.seqVer b).em = [] ∧ (s.tab.seqVer b).lpm = []

section
variable {b : Bool} {value : Word} {s : Sys}

theorem writeHashSeed_of_copying (hcopy : s.copying b = true) : writeHashSeed b value s = .error tblBusy :=
  if_pos hcopy

theorem writeHashSeed_of_seedOpen (hcopy : ¬ s.copying b = true) (hopen : s.seedOpen b) :
    writeHashSeed b value s = .ok (s.modTab fun t => t.modVer b fun v => { v with seed := value }) := by
  simp only [writeHashSeed, if_neg hcopy, List.isEmpty_iff, if_pos hopen]

theorem writeHashSeed_of_not_seedOpen (hcopy : ¬ s.copying b = true) (hopen : ¬ s.seedOpen b) :
    writeHashSeed b value s = .error tblState := by
  simp only [writeHashSeed, if_neg hcopy, List.isEmpty_iff, if_neg hopen]

end

theorem exec_hashSeedWrite (path : Path) (ver : Bool) (value : Word) (s : State) :
    exec (.hashSeedWrite path ver value) s =
      .next (s.onSys (request path 0x3010 0 (b2n ver) (writeHashSeed ver value))) := rfl

/-- Settles O55: the write has three outcomes, as a copy uses the version, as it is FREE and empty, or as it is neither, and
an open gate passes each on as the path's refusal or answer. -/
theorem hashSeedIsWrittenWhileEmpty : Obligations.HashSeedIsWrittenWhileEmpty := by
  refine ⟨seed_reset, fun path s st ver => ?_, fun s path ver value hgate => ?_⟩
  · rw [readSub_hashSeed, view_hashSeed]
  · rw [exec_hashSeedWrite, State.onSys]
    congr 2
    split_ifs with hcopy hopen
    · exact request_of_error hgate (writeHashSeed_of_copying hcopy)
    · exact request_of_ok hgate (writeHashSeed_of_seedOpen hcopy hopen)
    · exact request_of_error hgate (writeHashSeed_of_not_seedOpen hcopy hopen)

end Sys2Proof.Machine
end

section
/-! A credit grant at its sender (05 R158, R180): what it makes of its flow's context, and which grants it lets pass. -/

namespace Sys2Proof.Machine

/-! ## The later of two numbers -/

theorem serialGe_self (a : Word) : serialGe a a = true := by
  simp [serialGe]

theorem serialGe_of_serialAfter {a b : Word} (h : serialAfter a b = true) : serialGe a b = true :=
  decide_eq_true (Int.le_of_lt (of_decide_eq_true h))

/-- The later of an old number and a new one is not before the old one. -/
theorem serialGe_ite_serialAfter (new old : Word) :
    serialGe (if serialAfter new old then new else old) old = true := by
  split_ifs with later
  · exact serialGe_of_serialAfter later
  · exact serialGe_self old

/-! ## A context that is written -/

theorem get?_update_same {α : Type} {t : Sparse α} {k : Nat} {v : α} (h : get? t k = some v) (f : α → α) :
    get? (update t k f) k = some (f v) := by
  simp only [update, h, get?_put_same]

section
variable {s : Sys} {i : Nat} {f : Flow}

theorem Sys.get?_modFlow_same (h : get? s.flows.ctx i = some f) (g : Flow → Flow) :
    get? (s.modFlow i g).flows.ctx i = some { g f with changed := true } :=
  get?_update_same h _

/-- A grant that is taken leaves its own number in the context, and the later of the two limits. -/
theorem Sys.get?_takeGrant_same (h : get? s.flows.ctx i = some f) (seq : Word) (g : GrantBody) :
    ∃ f', get? (s.takeGrant i seq g).flows.ctx i = some f' ∧ f'.gseq = seq ∧
      f'.limit = if serialAfter g.limit f.limit then g.limit else f.limit :=
  ⟨_, Sys.get?_modFlow_same h _, rfl, rfl⟩

/-- A grant that is taken never shrinks the window of its flow. -/
theorem Sys.takeGrant_limit_grows (h : get? s.flows.ctx i = some f) (seq : Word) (g : GrantBody) :
    ∃ f', get? (s.takeGrant i seq g).flows.ctx i = some f' ∧ f'.gseq = seq ∧
      f'.limit = (if serialAfter g.limit f.limit then g.limit else f.limit) ∧ serialGe f'.limit f.limit = true := by
  obtain ⟨f', hget, hseq, hlimit⟩ := Sys.get?_takeGrant_same h seq g
  exact ⟨f', hget, hseq, hlimit, hlimit ▸ serialGe_ite_serialAfter g.limit f.limit⟩

end

@[simp] theorem Sys.tally_flows (item port : Nat) (s : Sys) : (s.tally item port).flows = s.flows := by
  simp only [Sys.tally, Sys.count_flows]

/-! ## A context that is in the cache -/

theorem cacheVictim_of_contains {i : Nat} {l : List Nat} (h : l.contains i = true) : cacheVictim i l = none := by
  simp only [cacheVictim, h, Bool.true_or, if_true]

section
variable {s : Sys} {core i : Nat} (cached : s.isCached core i = true)
include cached

theorem Sys.writeBack_of_isCached : s.writeBack core i = none := by
  simp only [Sys.writeBack, cacheVictim_of_contains cached, Option.filter_none]

/-- The use of a cached context replaces none, so that no context changes. -/
theorem Sys.touch_ctx_of_isCached : (s.touch core i).flows.ctx = s.flows.ctx := by
  simp only [Sys.touch, Sys.writeBack_of_isCached cached, Sys.modFlows_flows]

theorem Sys.withContext_of_isCached (d : Delivery) (act : Sys → Sys) (whenFull : Sys) :
    s.withContext core i d act whenFull = act (s.touch core i) :=
  if_pos cached

end

/-! ## The two ends of a grant -/

section
variable {s whenFull : Sys} {core i : Nat} {d : Delivery} {f : Flow}
  (found : s.findFlow d.pkt.sgei d.pkt.flow true = some (i, f)) (live : f.st ≠ .stale)
  (cached : s.isCached core i = true)
include found live cached

theorem Sys.grantWith_of_serialAfter (follows : serialAfter d.pkt.seq f.gseq = true) :
    s.grantWith core d whenFull =
      ((((s.touch core i).takeGrant i d.pkt.seq (GrantBody.of d.pkt.payload)).modFlow i fun f =>
        { f with lastIv := (s.touch core i).startInterval 0 }).senderMoved i).consume d := by
  simp only [Sys.grantWith, found, if_neg live, Sys.withContext_of_isCached cached, if_pos follows]

theorem Sys.grantWith_of_not_serialAfter (stray : serialAfter d.pkt.seq f.gseq = false) :
    s.grantWith core d whenFull =
      ((s.touch core i).tally itemGrantIgnored ((s.touch core i).portOf d)).consume d := by
  simp only [Sys.grantWith, found, if_neg live, Sys.withContext_of_isCached cached, stray, Bool.false_eq_true, if_false]

end

theorem exec_creditGrantReceive (core : Core) (s : State) :
    exec (.creditGrantReceive core) s = .next (s.onSys (Sys.grantReceive core.toNat)) := rfl

theorem Sys.grantReceive_of_takeDelivery {s t : Sys} {core : Nat} {d : Delivery}
    (taken : s.takeDelivery (fun d => d.core == core && d.pkt.kind == 6) = some (d, t)) :
    s.grantReceive core = t.grantWith core d s := by
  simp only [Sys.grantReceive, taken]

/-- Settles O59: its context being cached, a grant is handled at once; one out of order is counted and writes no context, and
one in order leaves the later of the two limits. -/
theorem grantsNeverShrinkAWindow : Obligations.GrantsNeverShrinkAWindow := by
  intro s core d t i f taken found listed live cached u g
  have listed' : get? u.flows.ctx i = some f := (congrArg (get? · i) (Sys.touch_ctx_of_isCached cached)).trans listed
  rw [exec_creditGrantReceive, State.onSys, Sys.grantReceive_of_takeDelivery taken]
  refine ⟨fun stray => ⟨?_, ?_⟩, fun follows => ⟨?_, ?_⟩⟩
  · rw [Sys.grantWith_of_not_serialAfter found live cached stray]
  · rw [Sys.tally_flows]
    exact Sys.touch_ctx_of_isCached cached
  · rw [Sys.grantWith_of_serialAfter found live cached follows]
  · exact Sys.takeGrant_limit_grows listed' d.pkt.seq g

end Sys2Proof.Machine
end

section
/-! The shapers of a port (11 R360, R362): what a refill and a fill leave in each bucket, and what a refill leaves alone. -/

namespace Sys2Proof.Machine

/-! ## The buckets of a port -/

/-- The entry of a list that is computed place by place. -/
theorem nth_map_range {α : Type} {n i : Nat} (h : i < n) (f : Nat → α) (d : α) : nth ((List.range n).map f) i d = f i := by
  rw [nth, List.getElem?_map, List.getElem?_range h, Option.map_some, Option.getD_some]

section
variable (s : Sys) (port : Nat) {c : Nat} (shaper : c < 7)
include shaper

theorem Sys.tokens_refillPort :
    nth ((s.refillPort port).eg port).tokens c 0 = min (nth (s.eg port).tokens c 0 + s.gain port c) (s.depth port c) := by
  simp only [Sys.refillPort, Sys.eg_modEg_same, nth_map_range shaper]

theorem Sys.tokens_fillTokens : nth ((s.fillTokens port).eg port).tokens c 0 = s.depth port c := by
  simp only [Sys.fillTokens, Sys.eg_modEg_same, nth_map_range shaper]

theorem Sys.tokens_refillPort_le_depth : nth ((s.refillPort port).eg port).tokens c 0 ≤ s.depth port c := by
  rw [Sys.tokens_refillPort s port shaper]
  exact Nat.min_le_right ..

end

/-! ## The frame of a refill -/

@[simp] theorem Sys.modEg_sched (s : Sys) (p : Nat) (f : EgPort → EgPort) : (s.modEg p f).sw.sched = s.sw.sched := rfl

/-- The lanes that the gain counts are those of the port before its refill. -/
@[simp] theorem Sys.port_refillPort (s : Sys) (port p : Nat) : (s.refillPort port).port p = s.port p := by
  simp only [Sys.refillPort, Sys.port, Sys.modEg_ports]

@[simp] theorem Sys.schedOf_refillPort (s : Sys) (port p : Nat) : (s.refillPort port).schedOf p = s.schedOf p := by
  simp only [Sys.refillPort, Sys.schedOf, Sys.modEg_sched]

/-- Settles O56: the gain and the depth of R360 are `Sys.gain` and `Sys.depth`; a refill clips to the depth, a fill takes it,
and a refill writes neither the lanes nor the settings that they rest on. -/
theorem shapersGainUpToTheirDepth : Obligations.ShapersGainUpToTheirDepth := by
  intro s port c shaper
  exact ⟨s.tokens_refillPort port shaper, s.tokens_fillTokens port shaper, s.tokens_refillPort_le_depth port shaper,
    s.port_refillPort port port, s.schedOf_refillPort port port⟩

end Sys2Proof.Machine
end

section
/-! A run that does not fit the space for its values (18 R539): it is refused as a whole, before its first sub-index. -/

namespace Sys2Proof.Machine

/-! ## What the MSI-X vectors move -/

/-- A vector that is raised moves only the pending bits and what leaves the module. -/
theorem Sys.msix_keeps (s : Sys) (v : Nat) :
    s.msix v = { s with mg := { s.mg with pba := (s.msix v).mg.pba }, out := (s.msix v).out } := by
  simp only [Sys.msix]
  split_ifs <;> rfl

@[simp] theorem Sys.msix_sel (s : Sys) (v : Nat) : (s.msix v).mg.sel = s.mg.sel := by rw [Sys.msix_keeps]
@[simp] theorem Sys.msix_mbState (s : Sys) (v : Nat) : (s.msix v).mg.mbState = s.mg.mbState := by rw [Sys.msix_keeps]
@[simp] theorem Sys.msix_mbDone (s : Sys) (v : Nat) : (s.msix v).mg.mbDone = s.mg.mbDone := by rw [Sys.msix_keeps]
@[simp] theorem Sys.msix_mbAbort (s : Sys) (v : Nat) : (s.msix v).mg.mbAbort = s.mg.mbAbort := by rw [Sys.msix_keeps]

/-- Vectors that leave move only the pending bits and what leaves the module. -/
theorem Sys.msixFlush_keeps (s : Sys) :
    s.msixFlush = { s with mg := { s.mg with pba := s.msixFlush.mg.pba }, out := s.msixFlush.out } := by
  refine List.foldlRecOn (motive := fun t : Sys => t = { s with mg := { s.mg with pba := t.mg.pba }, out := t.out })
    (List.range 64) _ rfl fun t kept v _ => ?_
  split
  · rw [kept]; rfl
  · exact kept

@[simp] theorem Sys.msixFlush_pcieUp (s : Sys) : s.msixFlush.pcieUp = s.pcieUp := by
  rw [Sys.msixFlush_keeps]; rfl

@[simp] theorem Sys.msixFlush_gate (s : Sys) (path : Path) (index : Nat) (write : Bool) :
    s.msixFlush.gate path index write = s.gate path index write := by
  rw [Sys.msixFlush_keeps]; rfl

/-- A control host that has written neither BAR2 nor the MSI-X table lets no more happen than that vectors leave. -/
theorem World.enter_of_unwritten {w : World} (bar2 : w.bar2 = []) (msix : w.msix = []) (msixOn : w.msixOn = none)
    {m : Stores × Sys} (up : m.2.pcieUp = true) : World.enter w m = (m.1, m.2.msixFlush) := by
  simp only [World.enter, up, bar2, msix, msixOn, List.foldl_nil, Option.getD_none]
  rfl

/-! ## The error log leaves the selectors and the PCIe interface -/

@[simp] theorem Sys.log_sel (s : Sys) (c : Word) (t : BitVec 8) (u p k : Nat) (a : Word64) (d : List Word) :
    (s.log c t u p k a d).mg.sel = s.mg.sel := by
  simp only [Sys.log, Sys.record]
  split_ifs <;> simp

@[simp] theorem Sys.reqError_sel (s : Sys) (path : Path) (c : Word) (k : Nat) (a : Word64) (o : Nat) :
    (s.reqError path c k a o).mg.sel = s.mg.sel := by
  unfold Sys.reqError Sys.reqErrorKey
  dsimp only
  (repeat' split) <;> simp

@[simp] theorem Sys.reqError_pcieUp (s : Sys) (path : Path) (c : Word) (k : Nat) (a : Word64) (o : Nat) :
    (s.reqError path c k a o).pcieUp = s.pcieUp := by
  simp only [Sys.pcieUp, Sys.reqError_boot]

/-! ## What a refusal of the mailbox leaves -/

/-- The ports, the tables, the command slots and the selectors stand. -/
structure Sys.ObjectsStand (s t : Sys) : Prop where
  ports : t.ports = s.ports
  tab : t.tab = s.tab
  slots : t.mg.slots = s.mg.slots
  sel : t.mg.sel = s.mg.sel

theorem Sys.ObjectsStand.trans {s t u : Sys} (first : s.ObjectsStand t) (second : t.ObjectsStand u) : s.ObjectsStand u where
  ports := second.ports.trans first.ports
  tab := second.tab.trans first.tab
  slots := second.slots.trans first.slots
  sel := second.sel.trans first.sel

theorem Sys.objectsStand_msixFlush (s : Sys) : s.ObjectsStand s.msixFlush := by
  rw [Sys.msixFlush_keeps]
  exact ⟨rfl, rfl, rfl, rfl⟩

/-- STATE, DONECNT and ABORT tell of a request that was refused as a whole (18 R535). -/
structure Sys.MailboxRefused (code : Word) (t : Sys) : Prop where
  done : t.mg.mbDone = 0
  abort : t.mg.mbAbort = code
  state : t.mg.mbState = 3

/-- The answer to a request of the PCIe path is in the mailbox's registers, and the interface's vector 0 is raised. -/
theorem Sys.respond_pcie {s : Sys} (up : s.pcieUp = true) (prot : Bool) (tag : BitVec 16) (addr : Word64) (count : Nat)
    (abort : Word) (data : List Byte) :
    s.respond .pcie prot tag addr count abort data =
      ((s.event 20 0x40 0 1).modMg fun m =>
        { m with
          mbState := (if abort = 0 then 2 else 3), mbDone := BitVec.ofNat 8 count, mbAbort := abort
          mbData := data ++ m.mbData.drop data.length }).msix 0 := by
  have up' : (s.event 20 0x40 0 1).pcieUp = true := by rw [Sys.pcieUp, Sys.event_boot]; exact up
  exact if_pos up'

section
variable {q : Req} (mailbox : q.path = .pcie) (plain : q.prot = false)
include mailbox plain

theorem Req.refuse_mailbox (code : Word) (s : Sys) :
    q.refuse code s =
      ((s.reqError .pcie code 1 q.addr q.op).respond .pcie false q.tag q.addr 0 code []).event 20 0x43 0 1 := by
  simp only [Req.refuse, mailbox, plain, Bool.false_eq_true, if_false]

theorem Req.mailboxRefused_refuse {code : Word} (abort : code ≠ 0) {s : Sys} (up : s.pcieUp = true) :
    (q.refuse code s).MailboxRefused code := by
  rw [Req.refuse_mailbox mailbox plain, Sys.respond_pcie (by simpa using up)]
  exact ⟨by simp, by simp, by simpa using abort⟩

theorem Req.objectsStand_refuse (code : Word) {s : Sys} (up : s.pcieUp = true) : s.ObjectsStand (q.refuse code s) := by
  rw [Req.refuse_mailbox mailbox plain, Sys.respond_pcie (by simpa using up)]
  constructor <;> simp

end

/-! ## A run that does not fit -/

/-- The gate being open, the length of the run is looked at before any of its sub-indices. -/
theorem Req.run_of_runSpace_lt {q : Req} {m : Stores × Sys} (opened : m.2.gate q.path q.index q.write = .opened)
    (exceeds : runSpace q.path < (runBytes q.index q.block q.sub q.count).1) : q.run m = (m.1, q.refuse mgtRange m.2) := by
  simp only [Req.run, opened]
  exact if_pos (.inr (.inr exceeds))

/-- GO starts the request of a mailbox that is not busy, while a Collier can answer. -/
theorem Sys.go_of_idle {m : Stores × Sys} (up : m.2.pcieUp = true) (idle : m.2.mg.mbState ≠ 1)
    (served : m.2.boot.bothLost = false) (index : Nat) (write : Bool) (f : Stores × Sys → Stores × Sys) :
    Sys.go index write f m = f m := by
  simp only [Sys.go, up, idle, served, Bool.not_true, Bool.false_and, Bool.false_eq_true, if_false]

theorem State.onMach_congr {s : State} {f g : Stores × Sys → Stores × Sys} (h : f (s.stores, s.sys) = g (s.stores, s.sys)) :
    s.onMach f = s.onMach g := by
  simp only [State.onMach, h]

/-- The run that a GO with REQOP read asks for. -/
def mailboxReadReq (s : State) (index : BitVec 16) (block sub count : BitVec 8) : Req :=
  { path := .pcie, write := false, index := index.toNat, block := block.toNat, sub := sub.toNat, count := count.toNat
    data := fit 768 s.sys.mg.mbData }

/-- The request registers and DATA of the mailbox at a GO with REQOP write. -/
def Sys.mailboxWritten (index : BitVec 16) (block sub count : BitVec 8) (data : List Byte) (s : Sys) : Sys :=
  (s.mailbox index block sub 2 count).modMg fun x => { x with mbData := fit 768 (data ++ x.mbData.drop data.length) }

/-- The run that a GO with REQOP write asks for. -/
def mailboxWriteReq (s : State) (index : BitVec 16) (block sub count : BitVec 8) (data : List Byte) (world : World) : Req :=
  { path := .pcie, write := true, index := index.toNat, block := block.toNat, sub := sub.toNat, count := count.toNat
    data := (s.sys.mailboxWritten index block sub count data).mg.mbData, world }

section
variable {s : State} (up : s.sys.pcieUp = true) (idle : s.sys.mg.mbState ≠ 1) (served : s.sys.boot.bothLost = false)
  (index : BitVec 16) (block sub count : BitVec 8)
include up idle served

theorem exec_mailboxRead_of_idle :
    exec (.mailboxRead 1 index block { sub, count }) s =
      .next (s.onMach fun m => (mailboxReadReq s index block sub count).run (m.1, m.2.mailbox index block sub 1 count)) :=
  congrArg Host.Outcome.next (State.onMach_congr (Sys.go_of_idle up idle served _ _ _))

theorem exec_mailboxWrite_of_idle (data : List Byte) (world : World) :
    exec (.mailboxWrite index block sub count data world) s =
      .next (s.onMach fun m =>
        (mailboxWriteReq s index block sub count data world).run
          (World.enter world (m.1, m.2.mailboxWritten index block sub count data))) :=
  congrArg Host.Outcome.next (State.onMach_congr (Sys.go_of_idle up idle served _ _ _))

end

section
variable {q : Req} (mailbox : q.path = .pcie) (plain : q.prot = false)
include mailbox plain

/-- A GO that starts a run which does not fit ends with its refusal: no byte of memory has moved, and no object. -/
theorem Req.go_of_runSpace_lt {i : Instr} {s : State} {f : Stores × Sys → Stores × Sys} {m : Sys}
    (go : exec i s = .next (s.onMach f)) (start : f (s.stores, s.sys) = q.run (s.stores, m)) (up : m.pcieUp = true)
    (opened : m.gate q.path q.index q.write = .opened)
    (exceeds : runSpace q.path < (runBytes q.index q.block q.sub q.count).1) :
    ∃ t, exec i s = .next t ∧ t.pending = s.pending ∧ t.stores = s.stores ∧ t.sys.MailboxRefused mgtRange ∧
      m.ObjectsStand t.sys := by
  refine ⟨{ s with sys := q.refuse mgtRange m }, ?_, rfl, rfl, Req.mailboxRefused_refuse mailbox plain (by decide) up,
    Req.objectsStand_refuse mailbox plain mgtRange up⟩
  rw [go, State.onMach, start, Req.run_of_runSpace_lt (m := (s.stores, m)) opened exceeds]

end

/-- Settles O54: on every path the run is refused after the gate and before its sub-indices, and the mailbox, which a GO
reaches through its request registers alone, tells of no sub-index done. -/
theorem runsThatDoNotFitAreRefused : Obligations.RunsThatDoNotFitAreRefused := by
  refine ⟨fun q m opened exceeds => Req.run_of_runSpace_lt opened exceeds, ?_, ?_⟩
  · intro s index block sub count up idle served opened exceeds
    obtain ⟨t, ended, pending, stores, told, stand⟩ :=
      Req.go_of_runSpace_lt (q := mailboxReadReq s index block sub count) rfl rfl
        (exec_mailboxRead_of_idle up idle served index block sub count) rfl up opened exceeds
    exact ⟨t, ended, pending, stores, told.done, told.abort, told.state, stand.ports, stand.tab, stand.slots, stand.sel⟩
  · intro s index block sub count data world up idle served bar2 msix msixOn opened exceeds
    let w := s.sys.mailboxWritten index block sub count data
    have enter : World.enter world (s.stores, w) = (s.stores, w.msixFlush) :=
      World.enter_of_unwritten bar2 msix msixOn up
    obtain ⟨t, ended, pending, stores, told, stand⟩ :=
      Req.go_of_runSpace_lt (q := mailboxWriteReq s index block sub count data world) rfl rfl
        (exec_mailboxWrite_of_idle up idle served index block sub count data world) (congrArg _ enter)
        (w.msixFlush_pcieUp.trans up) ((w.msixFlush_gate ..).trans opened) exceeds
    have stand' : w.ObjectsStand t.sys := w.objectsStand_msixFlush.trans stand
    exact ⟨t, ended, pending, stores, told.done, told.abort, told.state, stand'.ports, stand'.tab, stand'.slots,
      stand'.sel⟩

end Sys2Proof.Machine
end

section
/-! The clear of the saturating counters (20 R591): which paths may ask for it, and what it makes of the counters. -/

namespace Sys2Proof.Machine

/-! ## The write of CTRL 0x5 -/

/-- The path may clear the saturating counters: PCIe, or a session with rights 0b11 (20 R591). -/
abbrev Sys.mayClearSaturating (path : Path) (s : Sys) : Prop :=
  path = .pcie ∨ (s.sessionOpen path = true ∧ s.rights path = 3)

/-- A counter action is queued for the boundary at which it takes effect (20 R589). -/
def Sys.queueAction (a : CtrAction) (at' : Word64) (s : Sys) : Sys :=
  s.modCnt fun c => { c with actions := c.actions ++ [(a, at')] }

section
variable {path : Path} {s : Sys}

theorem Sys.writeCtrl_5_of_mayClearSaturating (may : s.mayClearSaturating path) :
    s.writeCtrl path 5 = .ok (s.queueAction (.clearSat path) s.boundarySoon) :=
  if_pos (by simpa using may)

theorem Sys.writeCtrl_5_of_not_mayClearSaturating (barred : ¬ s.mayClearSaturating path) :
    s.writeCtrl path 5 = .error secRights :=
  if_neg (by simpa using barred)

end

theorem exec_counterClearSaturating (path : Path) (s : State) :
    exec (.counterClearSaturating path) s = .next (s.onSys (request path 0x9000 0 0 (Sys.writeCtrl path 5))) := rfl

/-! ## The clear at its boundary -/

/-- The saturating counters are 0; no record tells of it yet. -/
def Sys.zeroSaturating (s : Sys) : Sys :=
  (s.modCnt fun c => { c with fixed := c.fixed.filter fun e => !saturates (e.1 / 2 ^ 48) }).modMem fun m =>
    { m with stack := m.stack.map fun e => (e.1, { e.2 with ue := 0 }) }

theorem Sys.counterAct_clearSat (path : Path) (s : Sys) :
    s.counterAct (.clearSat path) =
      s.zeroSaturating.log Config.clearCode 0x06 20 0 0 0 [BitVec.ofNat 32 (pathNum path * 2 ^ 24)] := rfl

theorem Sys.saturates_of_mem_fixed_zeroSaturating {s : Sys} {e : Nat × Word64} (kept : e ∈ s.zeroSaturating.cnt.fixed) :
    saturates (e.1 / 2 ^ 48) = false := by
  simpa using List.of_mem_filter kept

@[simp] theorem Sys.zeroSaturating_unit (s : Sys) : s.zeroSaturating.cnt.unit = s.cnt.unit := rfl

/-- Settles O57: an open gate passes on the two outcomes of the write of CTRL 0x5, and the clear is the zeroed counters
followed by the log record, whose type and code are the model's (log 22, 56). -/
theorem saturatingClearNeedsRights : Obligations.SaturatingClearNeedsRights := by
  refine ⟨fun s path hgate => ?_, fun s path => ?_⟩
  · rw [exec_counterClearSaturating, State.onSys]
    congr 2
    split_ifs with may
    · exact request_of_ok (f := Sys.queueAction (.clearSat path) s.sys.boundarySoon) hgate
        (Sys.writeCtrl_5_of_mayClearSaturating may)
    · exact request_of_error hgate (Sys.writeCtrl_5_of_not_mayClearSaturating may)
  · exact ⟨s.zeroSaturating, s.counterAct_clearSat path, fun _ kept => Sys.saturates_of_mem_fixed_zeroSaturating kept,
      s.zeroSaturating_unit⟩

end Sys2Proof.Machine
end

section
/-! What a command can answer: a state whose queue stands, with the byte memories in canonical form again, or the one stop. -/

namespace Sys2Proof.Machine

/-! ## The commands that take the byte memories -/

/-- The commands that may read or write a byte of BAR2 or of a staging: the circuit and the security commands, and the
requests of the mailbox, of a message or of a sub-index. -/
def takesMemory : Instr → Bool
  | .planSubmit .. | .planCancel .. | .demandRead .. | .fwStage .. | .fwActivate .. | .fwCommit .. | .fwRevert ..
  | .attest .. | .mailboxRead .. | .mailboxWrite .. | .read .. | .write .. | .registerWrite ..
  | .stagingDataAccess .. => true
  | _ => false

/-- A command that names a unit acts when the module has it, and otherwise stops; it was not well formed then. -/
theorem outcome_of_guard {p : Prop} [Decidable p] {ok : Bool} (named : ok = true → p) (f : Sys → Sys) (s : State) :
    (∃ g, (if p then .next (s.onSys f) else .fault .noUnit : Host.Outcome State Fault Refusal) = .next (s.onSys g)) ∨
      (if p then .next (s.onSys f) else .fault .noUnit : Host.Outcome State Fault Refusal) = .fault .noUnit ∧ ok = false := by
  by_cases h : p
  · exact .inl ⟨f, if_pos h⟩
  · exact .inr ⟨if_neg h, Bool.eq_false_iff.mpr fun wf => h (named wf)⟩

/-- The sensors that a command may name are those that the Hearth reads (17 R509). -/
theorem sensorOk_eq (sensor : Sensor) : sensorOk sensor = Sys2Proof.sensorOk sensor := by
  cases sensor <;> rfl

/-- Every command but those acts on the registers alone, or stops at a unit that the module does not have. -/
theorem exec_of_not_takesMemory {i : Instr} (registers : takesMemory i = false) (s : State) :
    (∃ f, exec i s = .next (s.onSys f)) ∨ exec i s = .fault .noUnit ∧ i.wf = false := by
  cases i with
  | planSubmit | planCancel | demandRead | fwStage | fwActivate | fwCommit | fwRevert | attest | mailboxRead | mailboxWrite
  | read | write | registerWrite | stagingDataAccess => cases registers
  | grantTimeout | stackLoss | dieLoss | feltPropose | feltConfirm | feltAgreeTimeout | feltLinkDown | feltRetrainRetry
  | feltRecentre | feltModtestEnd | feltModulePause | feltLaneRepair => exact outcome_of_guard of_decide_eq_true _ s
  | feltFlitReceive | feltNakReceive =>
    exact outcome_of_guard (fun wf => of_decide_eq_true (Bool.and_eq_true_iff.mp wf).1) _ s
  | routeFenceReturn =>
    exact outcome_of_guard (fun wf => (Bool.and_eq_true_iff.mp wf).imp of_decide_eq_true of_decide_eq_true) _ s
  | thermalTrip sensor | sensorFail sensor => exact outcome_of_guard (fun wf => (sensorOk_eq sensor).trans wf) _ s
  | _ => exact .inl ⟨_, rfl⟩

/-! ## What a command may do with the byte memories -/

/-- The byte memories stay in canonical form. -/
def KeepsForm (f : Stores × Sys → Stores × Sys) : Prop := ∀ m : Stores × Sys, m.1.wf = true → (f m).1.wf = true

/-- The commands that take the byte memories stop at nothing, and keep their canonical form. -/
theorem exec_of_takesMemory {i : Instr} (memory : takesMemory i = true) (s : State) :
    ∃ f, exec i s = .next (s.onMach f) ∧ KeepsForm f := by
  cases i with
  | planSubmit | planCancel | demandRead => exact ⟨_, rfl, fun m => ocsReq_wf _ _ _ _ m⟩
  | fwStage | fwActivate | fwCommit | fwRevert | attest => exact ⟨_, rfl, fun m => secReq_wf _ _ _ _ m⟩
  | mailboxRead op index block run =>
    refine ⟨_, rfl, fun m form => Sys.go_wf _ _ _ m form ?_⟩
    dsimp only
    split
    · exact Req.run_wf _ _ form
    · rw [reservedOp_stores]; exact form
  | mailboxWrite => exact ⟨_, rfl, fun m form => Sys.go_wf _ _ _ m form (Req.run_wf _ _ (World.enter_wf _ _ form))⟩
  | read => exact ⟨_, rfl, fun m => onMessage_wf _ _ _ m⟩
  | write => exact ⟨_, rfl, fun m form => onMessage_wf _ _ _ _ (World.enter_wf _ m form)⟩
  | registerWrite =>
    refine ⟨_, rfl, fun m form => ?_⟩
    split
    · exact Sys.go_wf _ _ _ m form (Req.run_wf _ _ (World.enter_wf _ m form))
    · exact Req.run_wf _ _ (World.enter_wf _ m form)
  | stagingDataAccess => exact ⟨_, rfl, fun m => Req.run_wf _ m⟩
  | _ => cases memory

/-- Every command answers a state whose queue stands, with the byte memories in canonical form again, or stops at a unit
that the module does not have; it was not well formed then. -/
theorem exec_outcome (i : Instr) (s : State) :
    (∃ f, exec i s = .next (s.onMach f) ∧ KeepsForm f) ∨ exec i s = .fault .noUnit ∧ i.wf = false := by
  cases h : takesMemory i with
  | false =>
    refine (exec_of_not_takesMemory h s).imp_left ?_
    rintro ⟨f, answers⟩
    exact ⟨fun m => (m.1, f m.2), answers, fun _ form => form⟩
  | true => exact .inl (exec_of_takesMemory h s)

theorem exec_keeps_inv {i : Instr} {s t : State} (inv : s.Inv) (answers : exec i s = .next t) : t.Inv := by
  obtain ⟨f, h, form⟩ | ⟨h, -⟩ := exec_outcome i s
  · cases answers.symm.trans h
    exact form _ inv
  · cases answers.symm.trans h

/-- Settles O47. -/
theorem resetMeetsTheInvariant : Obligations.ResetMeetsTheInvariant := reset_wf

/-- Settles O45: the step looks at the front of the queue alone. -/
theorem stepRunsTheFrontCommand : Obligations.StepRunsTheFrontCommand := fun _ _ => rfl

theorem step_of_pending_nil {s : State} (idle : s.pending = []) : step s = .next (s.onSys Sys.tick) := by
  rw [step, idle]

theorem step_of_pending_cons {s : State} {c : Instr} {rest : List Instr} (queue : s.pending = c :: rest) :
    step s = exec c { s with pending := rest } := by
  rw [step, queue]

/-- Settles O46: the idle step is one tick of the clock. -/
theorem anEmptyQueueIdles : Obligations.AnEmptyQueueIdles :=
  fun s idle => ⟨s.onSys Sys.tick, step_of_pending_nil idle, idle, rfl, rfl, rfl⟩

/-- Settles O48: an idle step writes no byte, and a command keeps the form whatever the rest of the queue is. -/
theorem everyStepKeepsTheInvariant : Obligations.EveryStepKeepsTheInvariant := by
  intro s t inv answers
  cases queue : s.pending with
  | nil =>
    rw [step_of_pending_nil queue] at answers
    cases answers
    exact inv
  | cons c rest =>
    rw [step_of_pending_cons queue] at answers
    exact exec_keeps_inv (s := { s with pending := rest }) inv answers

/-- Settles O49: a command has two outcomes, and one that is well formed has the first. -/
theorem commandsAnswerAndKeepTheQueue : Obligations.CommandsAnswerAndKeepTheQueue := by
  refine ⟨fun i s wf => ?_, fun i s => ?_⟩
  · obtain ⟨f, answers, -⟩ | ⟨-, malformed⟩ := exec_outcome i s
    · exact ⟨_, answers, rfl⟩
    · cases wf.symm.trans malformed
  · obtain ⟨f, answers, -⟩ | ⟨stops, -⟩ := exec_outcome i s
    · exact .inl ⟨_, answers, rfl⟩
    · exact .inr stops

end Sys2Proof.Machine
end

section
/-! A packet is read back from its bytes (02 R36, R38, R55, R57): what each field of the layout gives where it was written. -/

namespace Sys2Proof.Machine

/-! ## Reading at a place of a byte list -/

theorem be_append_singleton (l : List Byte) (b : Byte) : be (l ++ [b]) = be l * 256 + b.toNat := by
  simp [be, List.foldl_append]

theorem be_toBe (n w : Nat) : be (toBe n w) = w % 256 ^ n := by
  induction n generalizing w with
  | zero => simp [toBe, be, Nat.mod_one]
  | succ n ih =>
    rw [toBe, be_append_singleton, ih, BitVec.toNat_ofNat, Nat.pow_succ' (m := 256), Nat.mod_mul]
    omega

theorem bytesAt_append_of_le {a r : List Byte} {i n : Nat} (h : a.length ≤ i) :
    bytesAt (a ++ r) i n = bytesAt r (i - a.length) n := by
  simp only [bytesAt, List.drop_append, List.drop_of_length_le h, List.nil_append]

theorem bytesAt_zero_append {a r : List Byte} {n : Nat} (h : a.length = n) : bytesAt (a ++ r) 0 n = a := by
  simp [bytesAt, List.take_left' h, h]

/-- The bytes of a list that follow a first part. -/
theorem bytesAt_append_append {a m r : List Byte} {i n : Nat} (hi : a.length = i) (hn : m.length = n) :
    bytesAt (a ++ (m ++ r)) i n = m := by
  rw [bytesAt_append_of_le (by omega), hi, Nat.sub_self, bytesAt_zero_append hn]

section
variable {m n k : Nat} {w : Nat} {r : List Byte}

/-- A number is read back where it was written. -/
theorem beAt_toBe_append : beAt (toBe 4 w ++ r) 0 4 = w % 2 ^ 32 := by
  rw [beAt, bytesAt_zero_append (length_toBe 4 w), be_toBe]
  rfl

/-- What stands behind a number is read as if the number were not there. -/
theorem beAt_toBe_append_of_le (behind : m ≤ k) : beAt (toBe m w ++ r) k n = beAt r (k - m) n := by
  rw [beAt, bytesAt_append_of_le ((length_toBe m w).trans_le behind), length_toBe, beAt]

theorem wordAt_toBe_append {w : Word} : wordAt (toBe 4 w.toNat ++ r) 0 = w := by
  rw [wordAt, beAt_toBe_append, Nat.mod_eq_of_lt w.isLt, BitVec.ofNat_toNat, BitVec.setWidth_eq]

theorem wordAt_toBe_append_of_le (behind : m ≤ k) : wordAt (toBe m w ++ r) k = wordAt r (k - m) := by
  rw [wordAt, beAt_toBe_append_of_le behind, wordAt]

end

/-! ## The words of the base header that hold several fields -/

/-- Bytes 0-3 of a packet as a number, field after field (02 Table 02-1). -/
def Pkt.word0 (p : Pkt) : Nat :=
  (((((((p.ver.toNat * 2 ^ 4 + p.hlen.toNat) * 2 ^ 3 + p.tc.toNat) * 2 ^ 1 + b2n p.ep) * 2 ^ 2 + p.rm.toNat) * 2 ^ 1 +
    b2n p.vc) * 2 ^ 1 + b2n p.xp) * 2 ^ 3 + p.rsv.toNat) * 2 ^ 13 + p.plen.toNat

/-- Bytes 12-15. -/
def Pkt.word3 (p : Pkt) : Nat := p.flow.toNat * 2 ^ 8 + p.kind.toNat

/-- Bytes 24-27. -/
def Pkt.word6 (p : Pkt) : Nat := (p.jtag.toNat * 2 ^ 8 + p.jgen.toNat) * 2 ^ 8 + p.hops.toNat

theorem b2n_lt (b : Bool) : b2n b < 2 ^ 1 := by
  cases b <;> decide

/-- One field more keeps the width. -/
theorem append_field_lt {h v a m : Nat} (front : h < 2 ^ a) (field : v < 2 ^ m) : h * 2 ^ m + v < 2 ^ (a + m) := by
  have : (h + 1) * 2 ^ m ≤ 2 ^ a * 2 ^ m := Nat.mul_le_mul_right _ front
  rw [Nat.pow_add]
  lia

/-- The lowest field of a word. -/
theorem bv_low {n : Nat} (h : Nat) (v : BitVec n) : bv n (h * 2 ^ n + v.toNat) 0 = v :=
  BitVec.eq_of_toNat_eq (by
    rw [bv, BitVec.toNat_ofNat, Nat.pow_zero, Nat.div_one, Nat.mul_add_mod_self_right, Nat.mod_eq_of_lt v.isLt])

theorem bit_low (h : Nat) (b : Bool) : bit (h * 2 ^ 1 + b2n b) 0 = b := by
  rw [bit, Nat.testBit_zero, Nat.pow_one, Nat.mul_add_mod_self_right]
  cases b <;> rfl

theorem append_field_div {h v m k : Nat} (field : v < 2 ^ m) (above : m ≤ k) :
    (h * 2 ^ m + v) / 2 ^ k = h / 2 ^ (k - m) := by
  have split : 2 ^ k = 2 ^ m * 2 ^ (k - m) := by rw [← Nat.pow_add, Nat.add_sub_cancel' above]
  rw [split, ← Nat.div_div_eq_div_mul, Nat.mul_comm h, Nat.mul_add_div (by positivity), Nat.div_eq_of_lt field,
    Nat.add_zero]

/-- A field above the lowest one. -/
theorem bv_high {n h v m k : Nat} (field : v < 2 ^ m) (above : m ≤ k) : bv n (h * 2 ^ m + v) k = bv n h (k - m) := by
  rw [bv, bv, append_field_div field above]

theorem bit_high {h v m k : Nat} (field : v < 2 ^ m) (above : m ≤ k) : bit (h * 2 ^ m + v) k = bit h (k - m) := by
  rw [bit, bit, Nat.testBit_eq_decide_div_mod_eq, Nat.testBit_eq_decide_div_mod_eq, append_field_div field above]

section
variable (p : Pkt)

theorem Pkt.word0_lt : p.word0 < 2 ^ 32 :=
  append_field_lt (a := 19) (append_field_lt (a := 16) (append_field_lt (a := 15) (append_field_lt (a := 14)
    (append_field_lt (a := 12) (append_field_lt (a := 11) (append_field_lt (a := 8)
      (append_field_lt (a := 4) p.ver.isLt p.hlen.isLt) p.tc.isLt) (b2n_lt _)) p.rm.isLt) (b2n_lt _)) (b2n_lt _))
    p.rsv.isLt) p.plen.isLt

theorem Pkt.word3_lt : p.word3 < 2 ^ 32 := append_field_lt (a := 24) p.flow.isLt p.kind.isLt

theorem Pkt.word6_lt : p.word6 < 2 ^ 32 :=
  append_field_lt (a := 24) (append_field_lt (a := 16) p.jtag.isLt p.jgen.isLt) p.hops.isLt

end

/-- The highest field of a word. -/
theorem bv_top {n : Nat} (v : BitVec n) : bv n v.toNat 0 = v := by
  simpa using bv_low 0 v

section
variable (p : Pkt)

/-- What follows the base header. -/
def Pkt.rest (p : Pkt) : List Byte :=
  p.ext.bytes ++ (p.payload ++ (p.pad ++ (if p.plen = 0 then [] else toBe 4 p.pcrc.toNat)))

/-- The bytes of a packet, word after word of its header (02 R36, Table 02-1). -/
theorem Pkt.bytes_layout :
    p.bytes = toBe 4 p.word0 ++ (toBe 4 p.dgei.toNat ++ (toBe 4 p.sgei.toNat ++ (toBe 4 p.word3 ++ (toBe 4 p.seq.toNat ++
      (toBe 4 p.ts.toNat ++ (toBe 4 p.word6 ++ (toBe 4 p.hcrc.toNat ++ p.rest))))))) := by
  have first : p.ver.toNat * 2 ^ 28 + p.hlen.toNat * 2 ^ 24 + p.tc.toNat * 2 ^ 21 + b2n p.ep * 2 ^ 20 +
      p.rm.toNat * 2 ^ 18 + b2n p.vc * 2 ^ 17 + b2n p.xp * 2 ^ 16 + p.rsv.toNat * 2 ^ 13 + p.plen.toNat = p.word0 := by
    unfold Pkt.word0; omega
  have fourth : p.flow.toNat * 256 + p.kind.toNat = p.word3 := by
    simp only [Pkt.word3, Nat.reducePow]
  have seventh : p.jtag.toNat * 65536 + p.jgen.toNat * 256 + p.hops.toNat = p.word6 := by
    simp only [Pkt.word6, Nat.reducePow]; lia
  simp only [Pkt.bytes, Pkt.header, Pkt.rest, first, fourth, seventh, List.append_assoc]

/-- The words of the header, read back. -/
structure Pkt.HeaderRead (p : Pkt) (b : List Byte) : Prop where
  word0 : beAt b 0 4 = p.word0
  dgei : wordAt b 4 = p.dgei
  sgei : wordAt b 8 = p.sgei
  word3 : beAt b 12 4 = p.word3
  seq : wordAt b 16 = p.seq
  ts : wordAt b 20 = p.ts
  word6 : beAt b 24 4 = p.word6
  hcrc : wordAt b 28 = p.hcrc

theorem Pkt.headerRead_bytes : p.HeaderRead p.bytes := by
  rw [Pkt.bytes_layout]
  constructor <;>
    simp only [beAt_toBe_append_of_le, wordAt_toBe_append_of_le, beAt_toBe_append, wordAt_toBe_append, Nat.reduceLeDiff,
      Nat.reduceSub, Nat.mod_eq_of_lt p.word0_lt, Nat.mod_eq_of_lt p.word3_lt, Nat.mod_eq_of_lt p.word6_lt]

/-- The fields that share a word with others, each read from its bits. -/
structure Pkt.FieldsRead (p : Pkt) : Prop where
  ver : bv 4 p.word0 28 = p.ver
  hlen : bv 4 p.word0 24 = p.hlen
  tc : bv 3 p.word0 21 = p.tc
  ep : bit p.word0 20 = p.ep
  rm : bv 2 p.word0 18 = p.rm
  vc : bit p.word0 17 = p.vc
  xp : bit p.word0 16 = p.xp
  rsv : bv 3 p.word0 13 = p.rsv
  plen : bv 13 p.word0 0 = p.plen
  flow : bv 24 p.word3 8 = p.flow
  kind : bv 8 p.word3 0 = p.kind
  jtag : bv 16 p.word6 16 = p.jtag
  jgen : bv 8 p.word6 8 = p.jgen
  hops : bv 8 p.word6 0 = p.hops

theorem Pkt.fieldsRead : p.FieldsRead := by
  constructor <;>
    simp only [Pkt.word0, Pkt.word3, Pkt.word6, bv_high, bit_high, bv_low, bit_low, bv_top, BitVec.isLt, b2n_lt,
      Nat.reduceLeDiff, Nat.reduceSub]

end

/-! ## What follows the header -/

/-- HLEN of a packet with an extension that the spec defines (02 R55, R57). -/
def Ext.hlen : Ext → Option (BitVec 4)
  | .none => .some 4
  | .sr _ => .some 6
  | .coll _ => .some 7
  | .raw _ => .none

/-- The fields of a packet agree with its lengths. -/
structure Pkt.LengthsAgree (p : Pkt) : Prop where
  ext : p.ext.hlen = some p.hlen
  payload : p.payload.length = p.plen.toNat
  pad : p.pad.length = (4 - p.plen.toNat % 4) % 4
  pcrc : p.plen = 0 → p.pcrc = 0

theorem Ext.length_bytes {e : Ext} {n : BitVec 4} (h : e.hlen = some n) : 32 + e.bytes.length = n.toNat * 8 := by
  cases e with
  | none | sr | coll =>
    obtain rfl := Option.some.inj h
    simp [Ext.bytes]
  | raw => cases h

section
variable {p : Pkt} (agree : p.LengthsAgree)
include agree

theorem Pkt.length_front : (p.header ++ p.ext.bytes).length = p.hlen.toNat * 8 := by
  rw [List.length_append, Pkt.length_header, Ext.length_bytes agree.ext]

theorem Pkt.bytesAt_payload : bytesAt p.bytes (p.hlen.toNat * 8) p.plen.toNat = p.payload := by
  rw [Pkt.bytes, List.append_assoc, List.append_assoc, bytesAt_append_append (Pkt.length_front agree) agree.payload]

theorem Pkt.bytesAt_pad :
    bytesAt p.bytes (p.hlen.toNat * 8 + p.plen.toNat) ((4 - p.plen.toNat % 4) % 4) = p.pad := by
  have front : (p.header ++ p.ext.bytes ++ p.payload).length = p.hlen.toNat * 8 + p.plen.toNat := by
    rw [List.length_append, Pkt.length_front agree, agree.payload]
  rw [Pkt.bytes, List.append_assoc, bytesAt_append_append front agree.pad]

theorem Pkt.wordAt_pcrc (h : p.plen ≠ 0) :
    wordAt p.bytes (p.hlen.toNat * 8 + p.plen.toNat + (4 - p.plen.toNat % 4) % 4) = p.pcrc := by
  have front : (p.header ++ p.ext.bytes ++ p.payload ++ p.pad).length =
      p.hlen.toNat * 8 + p.plen.toNat + (4 - p.plen.toNat % 4) % 4 := by
    rw [List.length_append, List.length_append, Pkt.length_front agree, agree.payload, agree.pad]
  rw [Pkt.bytes, if_neg h, ← front, wordAt, beAt, bytesAt_append_of_le (Nat.le_refl _), Nat.sub_self,
    ← List.append_nil (toBe 4 _)]
  exact wordAt_toBe_append

end

/-- The extension stands behind the base header. -/
theorem Pkt.beAt_ext (p : Pkt) {n v : Nat} (h : p.ext.bytes = toBe n v) : beAt p.bytes 32 n = v % 256 ^ n := by
  rw [Pkt.bytes, h, List.append_assoc, List.append_assoc, List.append_assoc, beAt,
    bytesAt_append_append p.length_header (length_toBe n v), be_toBe]

theorem ofNat_toNat_mod {m n : Nat} (v : BitVec m) (width : 256 ^ n = 2 ^ m) : BitVec.ofNat m (v.toNat % 256 ^ n) = v := by
  rw [width, Nat.mod_eq_of_lt v.isLt, BitVec.ofNat_toNat, BitVec.setWidth_eq]

/-- The extension as it is parsed. -/
theorem Pkt.parsed_ext {p : Pkt} (agree : p.ext.hlen = some p.hlen) :
    (if p.hlen == 4 then .none
      else if p.hlen == 6 then .sr (BitVec.ofNat 128 (beAt p.bytes 32 16))
      else if p.hlen == 7 then .coll (BitVec.ofNat 192 (beAt p.bytes 32 24))
      else .raw (p.bytes.drop 32)) = p.ext := by
  cases h : p.ext with
  | none =>
    rw [h] at agree
    rw [← Option.some.inj agree, if_pos (by decide)]
  | sr v =>
    rw [h] at agree
    rw [← Option.some.inj agree, if_neg (by decide), if_pos (by decide)]
    simp only [p.beAt_ext (congrArg Ext.bytes h), ofNat_toNat_mod v (n := 16) (by norm_num)]
  | coll v =>
    rw [h] at agree
    rw [← Option.some.inj agree, if_neg (by decide), if_neg (by decide), if_pos (by decide)]
    simp only [p.beAt_ext (congrArg Ext.bytes h), ofNat_toNat_mod v (n := 24) (by norm_num)]
  | raw =>
    rw [h] at agree
    cases agree

/-- The packet has one of the lengths of a header that the spec defines. -/
theorem Pkt.hlen_defined {p : Pkt} (agree : p.ext.hlen = some p.hlen) : (p.hlen == 4 || p.hlen == 6 || p.hlen == 7) = true := by
  cases h : p.ext <;> rw [h] at agree
  case raw => cases agree
  all_goals rw [← Option.some.inj agree]; rfl

/-- A packet is read back from its bytes. -/
theorem Pkt.parse_bytes {p : Pkt} (agree : p.LengthsAgree) : Pkt.parse p.bytes = p := by
  have w := p.headerRead_bytes
  have f := p.fieldsRead
  have pcrc : (if p.plen.toNat != 0 then
      wordAt p.bytes (p.hlen.toNat * 8 + p.plen.toNat + (4 - p.plen.toNat % 4) % 4) else 0) = p.pcrc := by
    by_cases h : p.plen = 0
    · rw [agree.pcrc h, h]; rfl
    · have some : (p.plen.toNat != 0) = true := bne_iff_ne.mpr fun zero => h (BitVec.eq_of_toNat_eq zero)
      rw [Pkt.wordAt_pcrc agree h, if_pos some]
  simp only [Pkt.parse, w.word0, w.dgei, w.sgei, w.word3, w.seq, w.ts, w.word6, w.hcrc, f.ver, f.hlen, f.tc, f.ep, f.rm,
    f.vc, f.xp, f.rsv, f.plen, f.flow, f.kind, f.jtag, f.jgen, f.hops, Pkt.parsed_ext agree.ext,
    Pkt.hlen_defined agree.ext, Bool.true_and, if_true, Pkt.bytesAt_payload agree, Pkt.bytesAt_pad agree, pcrc]

/-- Settles O50: the hypotheses are those of `Pkt.parse_bytes`, one kind of extension at a time. -/
theorem packetsRoundTrip : Obligations.PacketsRoundTrip := by
  intro p lengths payload pad pcrc
  refine Pkt.parse_bytes ⟨?_, payload, pad, pcrc⟩
  cases h : p.ext <;> rw [h] at lengths
  case raw => cases lengths
  all_goals exact congrArg some lengths.symm

end Sys2Proof.Machine
end

section
/-! Which commands change a byte of memory, and where (18 R536, R545, R547). -/

namespace Sys2Proof.Machine

/-! ## Requests that write no sub-index -/

theorem Req.run_stores_of_read {q : Req} (read : q.write = false) (m : Stores × Sys) : (q.run m).1 = m.1 := by
  simp only [Req.run, read]
  split
  · rfl
  · rfl
  · split_ifs
    · rfl
    · rename_i h; simp at h
    · rename_i h; simp at h
    · rw [Req.finish_stores, readRun_stores]

theorem Sys.go_stores {f : Stores × Sys → Stores × Sys} {m : Stores × Sys} (keeps : (f m).1 = m.1) (index : Nat) (write : Bool) :
    (Sys.go index write f m).1 = m.1 := by
  simp only [Sys.go]
  split_ifs <;> simp only [keeps]

/-! ## Messages that are no WRITE -/

theorem DictMsg.handle_stores {d : DictMsg} (noWrite : d.mtype ≠ 2) (path : Path) (world : World) (m : Stores × Sys) :
    (d.handle path world m).1 = m.1 := by
  simp only [DictMsg.handle]
  split
  · rfl
  · split_ifs
    · rfl
    · rfl
    · split
      · rfl
      · exact Req.run_stores_of_read (beq_false_of_ne noWrite) _

theorem DictMsg.turnAway_stores (d : DictMsg) (path : Path) (m : Stores × Sys) : (d.turnAway path m).1 = m.1 := by
  simp only [DictMsg.turnAway]
  split <;> rfl

/-- The delivery that is taken is the first that may be. -/
theorem Sys.find?_of_takeDelivery {s t : Sys} {p : Delivery → Bool} {d : Delivery} (taken : s.takeDelivery p = some (d, t)) :
    (s.sw.svc.find? fun d => p d && !s.heldDelivery d) = some d := by
  rw [List.find?_eq_bind_findIdx?_getElem?]
  simp only [Sys.takeDelivery] at taken
  split at taken
  · cases taken
  · next found =>
    split at taken
    · next listed =>
      cases taken
      rw [found]
      exact listed
    · cases taken

/-- An in-band message is of a type that was wanted. -/
theorem want_of_takeInband {want : Nat → Bool} {s t : Sys} {d : DictMsg} {late : Bool}
    (taken : takeInband want s = some (some (d, late), t)) : want d.mtype = true := by
  simp only [takeInband] at taken
  split at taken
  · cases taken
  · next first =>
    split_ifs at taken with wanted
    split at taken
    · cases taken
    · next x u delivered =>
      cases first.symm.trans (Sys.find?_of_takeDelivery delivered)
      split_ifs at taken <;> cases taken
      exact wanted

theorem beAt_drop (l : List Byte) (k i n : Nat) : beAt (l.drop k) i n = beAt l (k + i) n := by
  simp only [beAt, bytesAt, List.drop_drop]

/-- A command that takes no WRITE leaves the byte memories, whatever message it takes. -/
theorem onMessage_stores {want : Nat → Bool} (noWrite : want 2 = false) (msg : MsgIn) (world : World) (m : Stores × Sys) :
    (onMessage want msg world m).1 = m.1 := by
  have other {d : DictMsg} (wanted : want d.mtype = true) : d.mtype ≠ 2 := fun h => by
    rw [h, noWrite] at wanted
    cases wanted
  cases msg with
  | eth b =>
    simp only [onMessage]
    split_ifs with wanted
    · exact DictMsg.handle_stores (d := DictMsg.of false b) (other wanted) ..
    · rfl
  | facility f =>
    simp only [onMessage, onFrame]
    split_ifs with wanted
    · rfl
    · refine DictMsg.handle_stores (d := DictMsg.of true (f.drop 14)) (other ?_) ..
      rw [show (DictMsg.of true (f.drop 14)).mtype = beAt (f.drop 14) 0 1 from rfl, beAt_drop]
      exact wanted
    · rfl
  | inband =>
    simp only [onMessage]
    split
    · rfl
    · rfl
    · next taken =>
      split_ifs
      · exact DictMsg.turnAway_stores ..
      · exact DictMsg.handle_stores (other (want_of_takeInband taken)) ..

/-! ## Requests of a command object -/

/-- A request of a row that takes the byte memories changes them as its effect does, when it is carried out. -/
theorem requestM_stores (path : Path) (index block sub : Nat) (f : Stores × Sys → Except Word (Stores × Sys)) (m : Stores × Sys) :
    (requestM path index block sub f m).1 = m.1 ∨ ∃ t, f m = .ok t ∧ (requestM path index block sub f m).1 = t.1 := by
  simp only [requestM]
  split
  · exact .inl rfl
  · exact .inl rfl
  · split
    · exact .inl rfl
    · next t carried => exact .inr ⟨t, carried, rfl⟩

/-- Of the circuit commands only DEMAND_READ takes the byte memories. -/
theorem ocsCmd_stores {path : Path} {cmd : Word} {dma : Dma} {m r : Stores × Sys} (other : fld cmd 31 24 ≠ 3)
    (carried : ocsCmd path cmd dma m = .ok r) : r.1 = m.1 := by
  simp only [ocsCmd] at carried
  split_ifs at carried
  split at carried
  · cases carried; rfl
  · split at carried
    · split_ifs at carried
      cases carried; rfl
    · cases carried
  · next demandRead => exact absurd demandRead other
  · cases carried

/-- Of the security commands only ATTEST takes the byte memories. -/
theorem secCmd_stores {path : Path} {cmd : Word} {dma : Dma} {m r : Stores × Sys} (other : fld cmd 31 24 < 5)
    (carried : secCmd path cmd dma m = .ok r) : r.1 = m.1 := by
  simp only [secCmd] at carried
  split at carried
  · cases carried
  · split at carried
    · cases carried
    · next defined =>
      split at carried
      · cases carried
      · split at carried
        · split at carried <;> cases carried; rfl
        · split at carried <;> cases carried; rfl
        · split at carried <;> cases carried; rfl
        · split at carried <;> cases carried; rfl
        · next h1 h2 h3 h4 =>
          have : fld cmd 31 24 ≠ 1 ∧ fld cmd 31 24 ≠ 2 ∧ fld cmd 31 24 ≠ 3 ∧ fld cmd 31 24 ≠ 4 := ⟨h1, h2, h3, h4⟩
          omega

theorem ocsReq_stores {op : Nat} (path : Path) (args : List (Nat × Word)) (dma : Dma) (m : Stores × Sys)
    (other : fld (BitVec.ofNat 32 (op * 2 ^ 24)) 31 24 ≠ 3) : (ocsReq path op args dma m).1 = m.1 := by
  obtain h | ⟨t, carried, h⟩ := requestM_stores path 0x2042 0 0 _ m
  · exact h
  · exact h.trans (ocsCmd_stores (m := (m.1, m.2.setArgs .ocs path args)) other carried)

theorem secReq_stores {op : Nat} (path : Path) (args : List (Nat × Word)) (dma : Dma) (m : Stores × Sys)
    (other : fld (BitVec.ofNat 32 (op * 2 ^ 24)) 31 24 < 5) : (secReq path op args dma m).1 = m.1 := by
  obtain h | ⟨t, carried, h⟩ := requestM_stores path 0x8040 0 0 _ m
  · exact h
  · exact h.trans (secCmd_stores (m := (m.1, m.2.setArgs .sec path args)) other carried)

/-! ## Bytes that go into a region -/

/-- No byte changed but `len` bytes of the region `b` of a path. -/
structure WritesWithin (path : Path) (b : Bulk) (len : Nat) (st t : Stores) : Prop where
  bar2 : ∀ a, ¬ (b.dKind.toNat = 2 ∧ b.dAddr.toNat ≤ a ∧ a < b.dAddr.toNat + len) →
    Memory.read t.bar2 a = Memory.read st.bar2 a
  staging : ∀ q a, q ≠ path ∨ ¬ (b.dKind.toNat = 3 ∧ b.dAddr.toNat ≤ a ∧ a < b.dAddr.toNat + len) →
    Memory.read (t.stagingOf b.era q) a = Memory.read (st.stagingOf b.era q) a

theorem Memory.read_writeN_outside {m : List Host.Cell} {i a : Nat} {l : List Byte} (outside : ¬ (i ≤ a ∧ a < i + l.length)) :
    Memory.read (Memory.writeN m i l) a = Memory.read m a := by
  rw [Memory.read_writeN, if_neg outside]

theorem WritesWithin.refl (path : Path) (b : Bulk) (len : Nat) (st : Stores) : WritesWithin path b len st st :=
  ⟨fun _ _ => rfl, fun _ _ _ => rfl⟩

/-- Bytes written to a region change no other byte (18 R547). -/
theorem regionWrite_within {path : Path} {b : Bulk} {data : List Byte} {ok : Bool} {m r : Stores × Sys} (defined : b.dKind ≠ 0)
    (written : regionWrite path b data ok m = .ok r) : WritesWithin path b data.length m.1 r.1 := by
  simp only [regionWrite] at written
  split at written
  · split_ifs at written
    cases written
    exact .refl ..
  · next kind =>
    cases written
    exact ⟨fun a outside => Memory.read_writeN_outside fun inside => outside ⟨kind, inside⟩, fun _ _ _ => rfl⟩
  · next notHost notBar2 =>
    cases written
    have kind : b.dKind.toNat = 3 := by
      have := b.dKind.isLt
      have : b.dKind.toNat ≠ 0 := fun h => defined (BitVec.eq_of_toNat_eq h)
      have : b.dKind.toNat ≠ 1 := notHost
      have : b.dKind.toNat ≠ 2 := notBar2
      omega
    refine ⟨fun _ _ => rfl, fun q a outside => ?_⟩
    by_cases same : q = path
    · subst same
      rw [Stores.stagingOf_modStaging_same]
      exact Memory.read_writeN_outside fun inside => outside.resolve_left (fun h => h rfl) ⟨kind, inside⟩
    · rw [Stores.stagingOf_modStaging_ne _ _ _ _ _ same]

/-- A region that a handle names is defined in the present era (18 R546). -/
theorem Sys.defined_of_region {path : Path} {handle : Word} {need : Nat} {s : Sys} {b : Bulk}
    (named : s.region path handle need = .ok b) : b.dKind ≠ 0 ∧ b.era = s.mg.era := by
  simp only [Sys.region] at named
  split_ifs at named with h
  cases named
  exact ⟨h.2.2.1, h.2.2.2.2⟩

/-! ## DEMAND_READ and ATTEST -/

/-- A command writes, if anything, `len` bytes of the region that its handle names. -/
def WritesRegion (path : Path) (handle : Word) (need len : Nat) (m r : Stores × Sys) : Prop :=
  r.1 = m.1 ∨ ∃ b, m.2.region path handle need = .ok b ∧ WritesWithin path b len m.1 r.1

/-- The bytes of a DEMAND_READ are those of 4,096 cells of 8 (12 R394). -/
theorem length_demandData (snapshot : Sparse Nat) :
    ((List.range 4096).flatMap fun i => toBe 8 (getD snapshot i 0)).length = 32768 := by
  simp only [List.length_flatMap, length_toBe, List.map_const', List.length_range, List.sum_replicate, smul_eq_mul]

theorem demandRead_writesRegion (path : Path) (cmd handle : Word) (ok : Bool) (m : Stores × Sys) :
    WritesRegion path handle 32768 32768 m (demandRead path cmd handle ok m) := by
  simp only [demandRead]
  split
  · exact .inl rfl
  · next b named =>
    split
    · exact .inl rfl
    · next t written =>
      have within := regionWrite_within (Sys.defined_of_region named).1 written
      rw [length_demandData] at within
      exact .inr ⟨b, named, within⟩

@[simp] theorem length_fit (n : Nat) (l : List Byte) : (fit n l).length = n := by
  rw [fit, List.length_take, List.length_append, List.length_replicate]
  omega

/-- An attestation report has 2,788 bytes (19 Table 19-4). -/
theorem Sys.length_report (nonce : List Byte) (s : Sys) : (s.report nonce).length = 2788 := by
  simp [Sys.report, Sys.mr]

theorem attest_writesRegion (path : Path) (cmd : Word) (sl : Slot) (ok : Bool) (m : Stores × Sys) :
    WritesRegion path (sl.arg 8) 2816 2788 m (attest path cmd sl ok m) := by
  simp only [attest]
  split
  · exact .inl rfl
  · split
    · exact .inl rfl
    · next b named =>
      split
      · exact .inl rfl
      · next t written =>
        have within := regionWrite_within (Sys.defined_of_region named).1 written
        rw [Sys.length_report] at within
        exact .inr ⟨b, named, within⟩

theorem ocsCmd_writesRegion {path : Path} {cmd : Word} {dma : Dma} {m r : Stores × Sys} (op : fld cmd 31 24 = 3)
    (carried : ocsCmd path cmd dma m = .ok r) : WritesRegion path ((m.2.slot .ocs path).arg 0) 32768 32768 m r := by
  simp only [ocsCmd, op] at carried
  split_ifs at carried
  cases carried
  exact demandRead_writesRegion ..

theorem secCmd_writesRegion {path : Path} {cmd : Word} {dma : Dma} {m r : Stores × Sys} (op : fld cmd 31 24 = 5)
    (carried : secCmd path cmd dma m = .ok r) : WritesRegion path ((m.2.slot .sec path).arg 8) 2816 2788 m r := by
  simp only [secCmd, op] at carried
  split_ifs at carried
  cases carried
  exact attest_writesRegion ..

/-- The ARG that was written last is read back. -/
theorem Sys.arg_setArgs_last (o : SlotObj) (p : Path) (args : List (Nat × Word)) (n : Nat) (v : Word) (s : Sys) :
    ((s.setArgs o p (args ++ [(n, v)])).slot o p).arg n = v := by
  simp [Sys.setArgs, Sys.modSlot, Sys.slot, Slot.arg, List.foldl_append]

theorem ocsReq_writesRegion (path : Path) (args : List (Nat × Word)) (handle : Word) (dma : Dma) (m : Stores × Sys) :
    WritesRegion path handle 32768 32768 m (ocsReq path 3 (args ++ [(0, handle)]) dma m) := by
  obtain h | ⟨t, carried, h⟩ := requestM_stores path 0x2042 0 0 _ m
  · exact .inl h
  · have region := ocsCmd_writesRegion (m := (m.1, m.2.setArgs .ocs path (args ++ [(0, handle)]))) (by decide) carried
    rw [Sys.arg_setArgs_last] at region
    rw [WritesRegion, ocsReq, h]
    exact region

theorem secReq_writesRegion (path : Path) (args : List (Nat × Word)) (handle : Word) (dma : Dma) (m : Stores × Sys) :
    WritesRegion path handle 2816 2788 m (secReq path 5 (args ++ [(8, handle)]) dma m) := by
  obtain h | ⟨t, carried, h⟩ := requestM_stores path 0x8040 0 0 _ m
  · exact .inl h
  · have region := secCmd_writesRegion (m := (m.1, m.2.setArgs .sec path (args ++ [(8, handle)]))) (by decide) carried
    rw [Sys.arg_setArgs_last] at region
    rw [WritesRegion, secReq, h]
    exact region

theorem exec_demandRead (path : Path) (handle : Word) (ok : Bool) (s : State) :
    exec (.demandRead path handle ok) s =
      .next (s.onMach (ocsReq path 3 [(0, handle)] (if ok then .data [] else .failed))) := rfl

theorem exec_attest (path : Path) (nonce : List Word) (handle : Word) (ok : Bool) (s : State) :
    exec (.attest path nonce handle ok) s =
      .next (s.onMach (secReq path 5 (((List.range 8).map fun i => (i, nth nonce i 0)) ++ [(8, handle)])
        (if ok then .data [] else .failed))) := rfl

/-! ## The frame -/

theorem stores_of_exec_registers {i : Instr} {s t : State} (registers : takesMemory i = false) (answers : exec i s = .next t) :
    t.stores = s.stores := by
  obtain ⟨f, h⟩ | ⟨h, -⟩ := exec_of_not_takesMemory registers s
  · cases answers.symm.trans h; rfl
  · cases answers.symm.trans h

/-- A region that the command does not hit, or another path's staging, reads as before. -/
theorem WritesRegion.reads {path : Path} {handle : Word} {need len : Nat} {m r : Stores × Sys}
    (h : WritesRegion path handle need len m r) (a : Nat) :
    let hit (kind : Nat) : Prop :=
      ∃ b, m.2.region path handle need = .ok b ∧ b.dKind.toNat = kind ∧ b.dAddr.toNat ≤ a ∧ a < b.dAddr.toNat + len
    (¬ hit 2 → Memory.read r.1.bar2 a = Memory.read m.1.bar2 a) ∧
    (∀ q, q ≠ path ∨ ¬ hit 3 →
      Memory.read (r.1.stagingOf m.2.mg.era q) a = Memory.read (m.1.stagingOf m.2.mg.era q) a) := by
  intro hit
  obtain same | ⟨b, named, within⟩ := h
  · rw [same]
    exact ⟨fun _ => rfl, fun _ _ => rfl⟩
  · refine ⟨fun missed => within.bar2 a fun inside => missed ⟨b, named, inside⟩, fun q missed => ?_⟩
    rw [← (Sys.defined_of_region named).2]
    exact within.staging q a (missed.imp_right fun miss inside => miss ⟨b, named, inside⟩)

/-- Settles O53: the commands that act on the registers alone leave the byte memories, the others but the five that store
take no write of a sub-index, and those two store within the region that their handle names. -/
theorem memoryChangesOnlyWhereCommandsStore : Obligations.MemoryChangesOnlyWhereCommandsStore := by
  refine ⟨fun i s t answers => ?_, fun s t path nonce handle ok i need len a command answers => ?_⟩
  · cases h : takesMemory i with
    | false => cases i with
      | planSubmit | planCancel | demandRead | fwStage | fwActivate | fwCommit | fwRevert | attest | mailboxRead
      | mailboxWrite | read | write | registerWrite | stagingDataAccess => cases h
      | _ => exact stores_of_exec_registers h answers
    | true => cases i with
      | mailboxWrite | write | registerWrite | demandRead | attest => trivial
      | stagingDataAccess path sub count written =>
        rintro rfl
        cases answers
        exact Req.run_stores_of_read rfl _
      | mailboxRead op index block run =>
        intro noWrite
        cases answers
        refine Sys.go_stores ?_ ..
        dsimp only
        split
        · exact Req.run_stores_of_read (beq_false_of_ne noWrite) _
        · exact reservedOp_stores ..
      | planSubmit | planCancel => cases answers; exact ocsReq_stores _ _ _ _ (by decide)
      | fwStage | fwActivate | fwCommit | fwRevert => cases answers; exact secReq_stores _ _ _ _ (by decide)
      | read => cases answers; exact onMessage_stores rfl ..
      | _ => cases h
  · simp only [List.mem_cons, Prod.mk.injEq, List.not_mem_nil, or_false] at command
    obtain ⟨rfl, rfl, rfl⟩ | ⟨rfl, rfl, rfl⟩ := command
    · cases answers
      exact (ocsReq_writesRegion path [] handle _ (s.stores, s.sys)).reads a
    · cases answers
      exact (secReq_writesRegion path _ handle _ (s.stores, s.sys)).reads a

end Sys2Proof.Machine
end

section
/-! The frame of a request, and a module without a Collier that answers one all the same (18 R526, 21 R606, R607). -/

namespace Sys2Proof.Machine

/-- Kindling, past its ROM phase, with both Collier dies lost: both pairs are lost, and object 0x1050 still reports the phase
(21 R606, R607). -/
def stuckKindling : State :=
  State.reset.onSys fun x => x.modBoot fun b => { b with bothLost := true, phase := 2, lostDies := [16, 18] }

/-- The gate of object 0x1050 is open there to the PCIe path, although no Collier is left. -/
theorem gate_stuckKindling : stuckKindling.sys.takes .pcie 0x1050 := by decide

theorem exec_diereset (path : Path) (value : Word) (s : State) :
    exec (.diereset path value) s = .next (s.onSys (request path 0x1050 0 4 (Sys.writeDieReset value))) := rfl

/-- A DIERESET that names no port die is refused there like any other, and the refusal is the path's last abort. -/
theorem exec_diereset_stuckKindling :
    exec (.diereset .pcie 16) stuckKindling =
      .next (stuckKindling.onSys fun x => x.refuse .pcie mgtRange 0x1050 0 4) := by
  have barred : stuckKindling.sys.writeDieReset 16 = .error mgtRange := rfl
  rw [exec_diereset, State.onSys, request_of_error gate_stuckKindling barred]
  rfl

theorem lastAbort_refuse_stuckKindling :
    (stuckKindling.sys.refuse .pcie mgtRange 0x1050 0 4).mg.lastAbort ≠ stuckKindling.sys.mg.lastAbort := by
  decide +kernel

/-- Refutes O52: its last clause says that with both Collier pairs lost none of its requests does anything, but in Kindling
with both Collier dies lost object 0x1050 still answers over PCIe, so that a DIERESET of port die 16 is refused there, which
is the path's last abort from then on. -/
theorem not_requestsLeaveTheRest : ¬ Obligations.RequestsLeaveTheRest := by
  rintro ⟨-, -, silent⟩
  have stands := silent stuckKindling .pcie 16 0 false 0 (.diereset .pcie 16) (by simp) rfl
  rw [exec_diereset_stuckKindling] at stands
  injection stands with stands
  exact lastAbort_refuse_stuckKindling (congrArg (fun t : State => t.sys.mg.lastAbort) stands)

end Sys2Proof.Machine
end

section
/-! The registers of the table versions (03 R80, R81, R84, 04 R112, R129): what a write of each answers. -/

namespace Sys2Proof.Machine

/-! ## A row, and a write of a row that is carried out or refused -/

theorem next_onSys {s : State} {f : Sys → Sys} {t : Sys} (h : f s.sys = t) :
    (.next (s.onSys f) : Host.Outcome State Fault Refusal) = .next { s with sys := t } := by
  rw [State.onSys, h]

section
variable {path : Path} {index block sub : Nat} {op : Sys → Except Word Sys} {s : State} (gate : s.sys.takes path index)
include gate

theorem next_request_of_ok {f : Sys → Sys} (carried : op s.sys = .ok (f s.sys)) :
    (.next (s.onSys (request path index block sub op)) : Host.Outcome State Fault Refusal) =
      .next { s with sys := replied path index block sub f s.sys } := by
  rw [State.onSys, request_of_ok gate carried]

theorem next_request_of_error {c : Word} (barred : op s.sys = .error c) :
    (.next (s.onSys (request path index block sub op)) : Host.Outcome State Fault Refusal) =
      .next { s with sys := s.sys.refuse path c index block sub } := by
  rw [State.onSys, request_of_error gate barred]

end

/-! ## The state of a version -/

section
variable {s : Sys} {b : Bool} {value : Word}

theorem writeVersionState_activate (free : s.longOn b = false) (fromFree : s.verState b = 0) :
    writeVersionState b 1 s = .ok (s.setVer b 1 none) := by
  simp [writeVersionState, free, fromFree]

theorem writeVersionState_retire (free : s.longOn b = false) (fromActive : s.verState b = 1) (other : s.verState (!b) = 1) :
    writeVersionState b 2 s = .ok (s.setVer b 2 (some (s.startInterval s.drainNs))) := by
  simp [writeVersionState, free, fromActive, other]

/-- Any other write is refused: its value is out of range or reserved, a long command writes to the version, or the version
does not move that way. -/
theorem writeVersionState_error
    (h : s.longOn b = true ∨
      ¬ (value = 1 ∧ s.verState b = 0 ∨ value = 2 ∧ s.verState b = 1 ∧ s.verState (!b) = 1)) :
    ∃ code, writeVersionState b value s = .error code := by
  unfold writeVersionState
  split_ifs with large reserved busy up down
  · exact ⟨_, rfl⟩
  · exact ⟨_, rfl⟩
  · exact ⟨_, rfl⟩
  · exact absurd (.inl up.symm) (h.resolve_left busy)
  · exact absurd (.inr ⟨down.2.1, down.1, down.2.2⟩) (h.resolve_left busy)
  · exact ⟨_, rfl⟩

theorem Sys.retireExpire_of_retiring {i : Interval} (running : (if b then s.fwd.retire1 else s.fwd.retire0) = some i)
    (retiring : s.verState b = 2) : s.retireExpire b = (s.toEnd i).setVer b 0 none := by
  simp only [Sys.retireExpire, running, retiring, if_true]

theorem Sys.verState_setVer_same (v : BitVec 2) (i : Option Interval) : (s.setVer b v i).verState b = v := by
  cases b <;> rfl

theorem Sys.verState_setVer_other (v : BitVec 2) (i : Option Interval) : (s.setVer b v i).verState (!b) = s.verState (!b) := by
  cases b <;> rfl

end

theorem exec_versionStateWrite (path : Path) (ver : Bool) (value : Word) (s : State) :
    exec (.versionStateWrite path ver value) s =
      .next (s.onSys (request path 0x3002 0 (b2n ver) (writeVersionState ver value))) := rfl

theorem exec_versionStateWrite_activate {path : Path} {ver : Bool} {s : State} (gate : s.sys.takes path 0x3002)
    (free : s.sys.longOn ver = false) (fromFree : s.sys.verState ver = 0) :
    exec (.versionStateWrite path ver 1) s =
      .next { s with sys := replied path 0x3002 0 (b2n ver) (Sys.setVer ver 1 none) s.sys } :=
  next_request_of_ok gate (writeVersionState_activate free fromFree)

theorem exec_versionStateWrite_retire {path : Path} {ver : Bool} {s : State} (gate : s.sys.takes path 0x3002)
    (free : s.sys.longOn ver = false) (fromActive : s.sys.verState ver = 1) (other : s.sys.verState (!ver) = 1) :
    exec (.versionStateWrite path ver 2) s =
      .next { s with
        sys := replied path 0x3002 0 (b2n ver) (Sys.setVer ver 2 (some (s.sys.startInterval s.sys.drainNs))) s.sys } :=
  next_request_of_ok gate (writeVersionState_retire free fromActive other)

theorem exec_versionRetireExpire {ver : Bool} {s : State} {i : Interval}
    (running : (if ver then s.sys.fwd.retire1 else s.sys.fwd.retire0) = some i) (retiring : s.sys.verState ver = 2) :
    exec (.versionRetireExpire ver) s = .next { s with sys := (s.sys.toEnd i).setVer ver 0 none } :=
  next_onSys (Sys.retireExpire_of_retiring running retiring)

/-- Settles O58: of the writes of a state only the two moves of R80 are carried out, and a refusal writes no version. -/
theorem versionsMoveAsTheyMay : Obligations.VersionsMoveAsTheyMay := by
  refine ⟨fun s path ver value gate => ⟨?_, ?_, ?_⟩, fun s ver i running retiring => ?_⟩
  · rintro free ⟨rfl, fromFree⟩
    exact exec_versionStateWrite_activate gate free fromFree
  · rintro free ⟨rfl, fromActive, other⟩
    exact exec_versionStateWrite_retire gate free fromActive other
  · intro barred
    obtain ⟨code, h⟩ := writeVersionState_error barred
    refine ⟨code, _, next_request_of_error gate h, rfl, rfl, rfl, fun notInband v => ?_⟩
    simp only [Sys.verState, Sys.refuse_fwd _ _ _ _ _ _ notInband]
  · exact ⟨_, exec_versionRetireExpire running retiring, rfl, rfl, Sys.verState_setVer_same .., Sys.verState_setVer_other ..,
      rfl, rfl⟩

/-! ## The drain bound, the source epoch and the seeds -/

theorem Sys.rws_of_rwsOk {s : Sys} (may : s.rwsOk = .ok ()) (f : Persist → Persist) : s.rws f = .ok (s.modNv f).jrnl := by
  simp only [Sys.rws, may]

theorem exec_drainBoundWrite {path : Path} {value : Word} {s : State} (gate : s.sys.takes path 0x3001)
    (may : s.sys.rwsOk = .ok ()) (least : 100 ≤ value.toNat) (most : value.toNat ≤ 100000) :
    exec (.drainBoundWrite path value) s =
      .next { s with
        sys := replied path 0x3001 0 0 (fun x => (x.modNv fun n => { n with drainBound := value.toNat }).jrnl) s.sys } := by
  refine next_request_of_ok gate (op := writeDrainBound value) ?_
  rw [writeDrainBound, if_pos ⟨least, most⟩, Sys.rws_of_rwsOk may]

theorem exec_sourceEpochWrite {path : Path} {s : State} (gate : s.sys.takes path 0x3003) (b : Bool) :
    exec (.sourceEpochWrite path (if b then 1 else 0)) s =
      .next { s with sys := replied path 0x3003 0 0 (fun x => x.modFwd fun f => { f with epoch := b }) s.sys } := by
  refine next_request_of_ok gate (op := writeSourceEpoch (if b then 1 else 0)) ?_
  cases b <;> rfl

/-- Settles O5: each register's write is carried out with its value, and the end of the interval frees the version. -/
theorem versionRegistersRun : Obligations.VersionRegistersRun := by
  refine ⟨fun s path ver gate free => ⟨?_, ?_⟩, ?_, ?_, ?_, ?_⟩
  · exact exec_versionStateWrite_activate gate free
  · exact exec_versionStateWrite_retire gate free
  · exact fun s ver i => exec_versionRetireExpire
  · exact fun s path value => exec_drainBoundWrite
  · exact fun s path b gate => exec_sourceEpochWrite gate b
  · intro s path ver value gate free notCopied em lpm
    exact next_request_of_ok gate (writeHashSeed_of_seedOpen (Bool.eq_false_iff.mp notCopied) ⟨free, em, lpm⟩)

end Sys2Proof.Machine
end

section
/-! Packets at the ports: receipt, commit and transmission (02 R39, R62, R66, R70; 03 R71, R104; 11 R354-R358). -/

namespace Sys2Proof.Machine

/-! ## PACKET_RECEIVE -/

@[simp] theorem Sys.nextId_buffer (r : PktRec) (s : Sys) : (s.buffer r).2.sw.nextId = s.sw.nextId + 1 := by
  rw [Sys.buffer]
  cases r.pool <;> rfl

@[simp] theorem Sys.nextId_enqueue (p : Nat) (d : Desc) (s : Sys) : (s.enqueue p d).sw.nextId = s.sw.nextId := by
  unfold Sys.enqueue
  dsimp only
  split
  · rw [Sys.count_sw]; rfl
  · rfl

/-- A packet for an egress port is buffered under the next number. -/
theorem Sys.nextId_queueRoute_port (r : PktRec) (q : Nat) (spray : Option (Bool × Nat)) (p : Pkt) (s : Sys) :
    (s.queueRoute r (.port q spray p)).sw.nextId = s.sw.nextId + 1 := by
  simp only [Sys.queueRoute]
  split
  · exact Sys.nextId_buffer ..
  · rw [Sys.nextId_enqueue, Sys.nextId_buffer]

section
variable {s : Sys} {port : Port} {bytes : List Byte} (up : (s.port port.toNat).st = .up)
include up

theorem Sys.receive_of_check {code : Word} {notice : Bool}
    (bad : (s.arrived port.toNat bytes.length).receiveChecks (Pkt.parse bytes) bytes.length = some (code, notice)) :
    s.receive port.toNat bytes =
      (s.arrived port.toNat bytes.length).receiveDrop port.toNat (Pkt.parse bytes) bytes code notice := by
  rw [Sys.arrived] at *
  simp [Sys.receive, up, bad]

variable (good : (s.arrived port.toNat bytes.length).receiveChecks (Pkt.parse bytes) bytes.length = none)
include good

theorem Sys.receive_of_tooOld (old : (s.arrived port.toNat bytes.length).tooOld (Pkt.parse bytes) = true) :
    s.receive port.toNat bytes =
      (s.arrived port.toNat bytes.length).receiveDrop port.toNat (Pkt.parse bytes) bytes fwdAge false := by
  rw [Sys.arrived] at *
  simp [Sys.receive, up, good, old]

/-- A packet that passes, and whose route is an egress port, joins that port's queue. -/
theorem Sys.receive_of_port (young : (s.arrived port.toNat bytes.length).tooOld (Pkt.parse bytes) = false)
    (data : (Pkt.parse bytes).dataOk = true) {q : Nat} {spray : Option (Bool × Nat)} {x : Pkt} {c : Word × Sys}
    (ctr : (s.arrived port.toNat bytes.length).takeCtr
      ((s.arrived port.toNat bytes.length).pipeKey (port.toNat / 64) (some port.toNat)) = c)
    (route : (c.2.resolve (port.toNat / 64) (Pkt.parse bytes) (some port.toNat) c.1).1 = .port q spray x) :
    s.receive port.toNat bytes =
      ((c.2.resolve (port.toNat / 64) (Pkt.parse bytes) (some port.toNat) c.1).2.queueRoute
          { pkt := Pkt.parse bytes, ingress := some port, die := port.toNat / 64,
            pool := .ingress port (poolOf (Pkt.parse bytes).tc (Pkt.parse bytes).vc), cells := (bytes.length + 63) / 64,
            copies := 1, crcOk := true, arrived := s.clk.ext, header := bytes.take 32 }
          (.port q spray { x with hops := x.hops + 1 })).spillCheck
        port.toNat (poolOf (Pkt.parse bytes).tc (Pkt.parse bytes).vc) := by
  rw [Sys.arrived] at *
  simp [Sys.receive, up, good, young, data, ctr, route, Sys.svcFull, Sys.nextId_queueRoute_port, cellsOf]

end

/-- Settles O1: the three outcomes are the checks' refusal, the age, and the queue of the egress port. -/
theorem packetReceiveRuns : Obligations.PacketReceiveRuns := by
  intro s port bytes up y p c
  refine ⟨fun code notice bad => ?_, fun good old => ?_, fun q spray x good young data route => ?_⟩
  · exact next_onSys (Sys.receive_of_check up bad)
  · exact next_onSys (Sys.receive_of_tooOld up good old)
  · exact next_onSys (Sys.receive_of_port up good young data rfl route)

/-! ## PACKET_COMMIT -/

/-- The port as the scheduler finds it: a packet on the wire is at its last 120 ns, and no spilled head is too old. -/
def Sys.atCommit (p : Nat) (s : Sys) : Sys :=
  (if (s.eg p).tx.isSome ∧ (s.eg p).committed.isNone then s.toMono ((s.eg p).txEnd - 120) else s).dropSpilled p

section
variable {s : Sys} {p : Nat} {e : EgPort} (idle : ((s.atCommit p).eg p).committed = none)
include idle

/-- A port with nothing committed runs the scheduler. -/
theorem Sys.commitPort_of_idle :
    s.commitPort p = (s.atCommit p).commitLoop p (sum (((s.atCommit p).eg p).queue.map fun q => q.2.length) + 1) := by
  rw [Sys.atCommit] at *
  simp only [Sys.commitPort, idle, Option.isSome_none, Bool.false_eq_true, if_false]
  rw [Nat.add_comm]

theorem Sys.commitPort_of_pick {k : Nat} {d : Desc} (pick : (s.atCommit p).pick p = (some (k, d), e))
    (young : (s.atCommit p).descOld d = false) (good : (s.atCommit p).descBad d = false) :
    s.commitPort p = (s.atCommit p).commit p k d e := by
  rw [Sys.commitPort_of_idle idle, Sys.commitLoop, pick]
  simp only [young, good, Bool.false_eq_true, if_false]

theorem Sys.commitPort_of_noPick (pick : (s.atCommit p).pick p = (none, e)) :
    s.commitPort p = (s.atCommit p).modEg p fun _ => e := by
  rw [Sys.commitPort_of_idle idle, Sys.commitLoop, pick]

end

/-! ## PACKET_TRANSMIT_DONE -/

theorem Sys.txDone_of_tx {s : Sys} {p : Nat} {d : Desc} {r : PktRec} (tx : (s.eg p).tx = some d) (listed : s.pktRec d.id = some r) :
    s.txDone p = ((((s.toMono (s.eg p).txEnd).txLeave p d r).txFree p d r).txNext p) := by
  have listed' : (s.toMono (s.eg p).txEnd).pktRec d.id = some r := listed
  simp only [Sys.txDone, tx, listed']

section
variable (s : Sys) (p : Nat)

/-- What writes no port leaves each of them. -/
theorem Sys.port_of_ports {s t : Sys} (h : t.ports = s.ports) (p : Nat) : t.port p = s.port p := by
  rw [Sys.port, h, Sys.port]

@[simp] theorem Sys.port_count (f k i n : Nat) : (s.count f k i n).port p = s.port p := Sys.port_of_ports (by simp) p
@[simp] theorem Sys.port_event (u c q n : Nat) : (s.event u c q n).port p = s.port p := Sys.port_of_ports (by simp) p
@[simp] theorem Sys.port_emit (o : Output) : (s.emit o).port p = s.port p := rfl
@[simp] theorem Sys.port_modEg (q : Nat) (f : EgPort → EgPort) : (s.modEg q f).port p = s.port p := rfl
@[simp] theorem Sys.port_modOcs (f : Ocs → Ocs) : (s.modOcs f).port p = s.port p := rfl

end

section
variable (p : Nat) (d : Desc) (r : PktRec) (s : Sys)

theorem Sys.out_txLeave : (s.txLeave p d r).out = s.out ++ [.packet (BitVec.ofNat 10 p) (r.asSent d) !r.crcOk] := by
  unfold Sys.txLeave
  dsimp only
  split <;> split <;> simp

theorem Sys.txBytes_txLeave : ((s.txLeave p d r).port p).txBytes = (s.port p).txBytes + d.len := by
  unfold Sys.txLeave
  dsimp only
  split <;> split <;> simp

theorem Sys.matrix_txLeave {i : Port} (received : r.ingress = some i) :
    getD (s.txLeave p d r).ocs.matrix (64 * s.demandBucket i.toNat + s.demandBucket p) 0 =
      getD s.ocs.matrix (64 * s.demandBucket i.toNat + s.demandBucket p) 0 + d.len := by
  simp only [Sys.txLeave, received]
  split <;> simp

end

/-- Settles O2: the scheduler's round decides what a commit does, and a packet that leaves is sent and counted once. -/
theorem commitAndTransmitRun : Obligations.CommitAndTransmitRun := by
  refine ⟨?_, ?_, ?_⟩
  · intro s port k d e p v y idle pick young good
    exact next_onSys (Sys.commitPort_of_pick idle pick young good)
  · intro s port e p v y idle pick
    exact next_onSys (Sys.commitPort_of_noPick idle pick)
  · intro s port d r tx listed x
    refine ⟨next_onSys (Sys.txDone_of_tx tx listed), Sys.out_txLeave .., Sys.txBytes_txLeave .., fun i received => ?_⟩
    exact Sys.matrix_txLeave port.toNat d r (s.sys.toMono _) received

/-! ## CREDIT_OS_RECEIVE -/

/-- A well-formed ordered set of the command's type acts on a linked port, and is the last that came (02 R64). -/
theorem Sys.osReceive_of_linked {s : Sys} {p type : Nat} {bytes : List Byte} {act : Sys → Sys} (linked : (s.port p).linked = true)
    (length : bytes.length = 16) (ok : osOk bytes = true) (typed : beAt bytes 0 1 = type) :
    s.osReceive p type bytes act = act (s.modPort p fun q => { q with osLast := s.clk.mono }) := by
  simp [Sys.osReceive, linked, length, ok, typed]

/-- Settles O4: the set acts on the port alone, by `creditTake` of the four counters of Table 02-12. -/
theorem creditReceiveReturnsTheDifference : Obligations.CreditReceiveReturnsTheDifference := by
  intro s port bytes linked length ok typed
  refine next_onSys ?_
  rw [Sys.osReceive_of_linked linked length ok typed, Sys.modPort_modPort]
  rfl

end Sys2Proof.Machine
end

section
/-! Buffers, rings, ordered sets, refills and the notice cache (02 R64-R70; 03 R74, R108; 05 R170, R174; 09 R299; 11 R361). -/

namespace Sys2Proof.Machine

/-! ## SPILL_READBACK -/

theorem Sys.dropOldHeads_of_young {s : Sys} {p k : Nat} (young : ∀ x ∈ (s.eg p).q k, s.descOld x = false) (fuel : Nat) :
    s.dropOldHeads p k fuel = s := by
  cases fuel with
  | zero => rfl
  | succ fuel =>
    rw [Sys.dropOldHeads]
    split
    · next d _ head => simp [young d (by rw [head]; exact List.mem_cons_self)]
    · rfl

/-- The next spilled packet comes back when there is room, tokens remain and its stack grants (05 R170, R171). -/
theorem Sys.readback_of_room {s : Sys} {p : Nat} {tc : BitVec 3} {turned : Bool} {d : Desc} {rest : List Desc} {r : PktRec}
    (young : ∀ x ∈ (s.eg p).q (queueKey tc turned), s.descOld x = false)
    (next : ((s.eg p).q (queueKey tc turned)).drop
      (((s.eg p).q (queueKey tc turned)).takeWhile fun x => !x.spilled).length = d :: rest)
    (listed : s.pktRec d.id = some r)
    (short : sum ((((s.eg p).q (queueKey tc turned)).takeWhile fun x => !x.spilled).map Desc.len) < 16384)
    (tokens : d.len ≤ s.tokens .readBack) (grant : s.hearth.noGrant.contains (p / 64) = false)
    (room : getD s.sw.spillRet (p / 64) 0 + r.cells ≤ returnCells) :
    s.readback p tc turned =
      (((s.modSw fun w =>
        { w with
          pkt := if d.mcast then w.pkt else put w.pkt d.id { r with pool := .spillReturn (p / 64) }
          spillRet := modify w.spillRet (p / 64) 0 (· + r.cells)
          spillHeld := if d.mcast then w.spillHeld else w.spillHeld - d.len }).memUnits (p / 64) false r.pkt.bytes).spend
        .readBack d.len).modEg p fun e =>
          { e with
            queue := modify e.queue (queueKey tc turned) [] fun l =>
              l.map fun x => if x.id = d.id then { x with spilled := false, returned := d.mcast } else x } := by
  have served : ¬ (16384 ≤ sum ((((s.eg p).q (queueKey tc turned)).takeWhile fun x => !x.spilled).map Desc.len) ∨
      returnCells < getD s.sw.spillRet (p / 64) 0 + r.cells) := by omega
  have granted : ¬ (s.tokens .readBack < d.len ∨ s.hearth.noGrant.contains (p / 64) = true) := by
    rw [grant]; simpa using tokens
  simp only [Sys.readback, Sys.dropOldHeads_of_young young, next, listed, if_neg served, if_neg granted]

/-! ## RING_ENTRY -/

section
variable {s : Sys} {die : Nat} {up : Bool} {x : Crossing} {rest : List Crossing}

theorem Sys.ringTakePkt_of_room (waits : (s.ringDir die up).waitPkt = x :: rest)
    (room : (s.ringDir die up).pkts.length + 2 ≤ pktSlots) :
    s.ringTakePkt die up = s.modRing die up fun r => { r with pkts := r.pkts ++ [x], waitPkt := rest } := by
  simp only [Sys.ringTakePkt, waits, if_pos room]

theorem Sys.ringTakeMem_of_room (waits : (s.ringDir die up).waitMem = x :: rest)
    (room : (s.ringDir die up).mems.length + 2 ≤ memSlots) :
    s.ringTakeMem die up = s.modRing die up fun r => { r with mems := r.mems ++ [x], waitMem := rest } := by
  simp only [Sys.ringTakeMem, waits, if_pos room]

end

/-! ## REPLICATION_RESUME -/

theorem Sys.replResume_of_room {s : Sys} {die : Nat} {w : ReplWait} {r : PktRec}
    (first : (s.passUnicast die s.sw.replWait.length).sw.replWait.find? (fun w => w.die == die) = some w)
    (copy : w.unicast = none) (listed : (s.passUnicast die s.sw.replWait.length).pktRec w.id = some r)
    (room : (s.passUnicast die s.sw.replWait.length).copyRoom die r.cells = true) :
    let u := (s.passUnicast die s.sw.replWait.length).modSw fun x =>
      { x with replWait := x.replWait.filter fun y => !(y.die == die && y.id == w.id) }
    s.replResume die = ((u.copyDown die w.id w.ports).drainAfter r.pool).passUnicast die u.sw.replWait.length := by
  simp only [Sys.replResume, first, copy, listed, room, Option.isSome_none, Bool.false_eq_true, if_false, if_true]

/-! ## Ordered sets that a port sends -/

section
variable {s : Sys} {p : Nat} (linked : (s.port p).linked = true)
include linked

theorem Sys.creditSend_of_linked :
    s.creditSend p = (if (s.port p).freed = (s.port p).lastTx then s.toMono ((s.port p).creditSent + 1000) else s).osFlush p := by
  simp [Sys.creditSend, linked]

theorem Sys.timeSend_of_linked : s.timeSend p = (s.toExt (s.timeDueAt p)).osFlush p := by
  simp [Sys.timeSend, linked]

theorem Sys.linkIdSend_of_linked : s.linkIdSend p = (s.toMono ((s.port p).linkSent + 1048576)).osFlush p := by
  simp [Sys.linkIdSend, linked]

/-- Between packets, the sets that are due go in the order CREDIT, TIME, LINK_ID. -/
theorem Sys.osFlush_of_idle (idle : (s.eg p).tx = none) :
    s.osFlush p =
      (let a := if s.creditDue p then s.creditOut p else s
       let b := if serialGe64 a.clk.ext (a.timeDueAt p) then a.timeOut p else a
       if (b.port p).linkSent + 1048576 ≤ b.clk.mono then b.linkIdOut p else b) := by
  simp [Sys.osFlush, linked, idle]

end

section
variable (s : Sys) (p type : Nat) (body : List Byte)

@[simp] theorem Sys.out_osSend :
    (s.osSend p type body).out = s.out ++ [.orderedSet (BitVec.ofNat 10 p) (osBuild type (s.port p).osSeq body)] := rfl

@[simp] theorem Sys.port_osSend :
    (s.osSend p type body).port p = { s.port p with osSeq := (s.port p).osSeq + 1 } := by
  simp [Sys.osSend]

theorem Sys.port_creditOut :
    (s.creditOut p).port p =
      { s.port p with osSeq := (s.port p).osSeq + 1, lastTx := (s.port p).freed, creditSent := s.clk.mono } := by
  simp [Sys.creditOut]

theorem Sys.osSeq_timeOut : ((s.timeOut p).port p).osSeq = (s.port p).osSeq + 1 := by
  simp [Sys.timeOut]

theorem Sys.osSeq_linkIdOut : ((s.linkIdOut p).port p).osSeq = (s.port p).osSeq + 1 := by
  simp [Sys.linkIdOut]

theorem Sys.out_linkIdOut (valid : s.nv.coordValid = true) :
    (s.linkIdOut p).out = s.out ++
      [.orderedSet (BitVec.ofNat 10 p)
        (osBuild 3 (s.port p).osSeq
          (toBe 1 (s.nv.plane.toNat * 16 + 1) ++ toBe 1 s.nv.group.toNat ++ toBe 1 s.nv.index.toNat ++
            toBe 2 p ++ toBe 1 (s.port p).st.code))] := by
  simp [Sys.linkIdOut, valid]

end

/-! ## SHAPER_REFILL and NOTICE_CACHE_EXPIRE -/

/-- What each step of a fold leaves, the fold leaves. -/
theorem foldl_keeps {α β : Type} (part : Sys → β) {f : Sys → α → Sys} (keeps : ∀ s a, part (f s a) = part s) (l : List α)
    (s : Sys) : part (l.foldl f s) = part s := by
  induction l generalizing s with
  | nil => rfl
  | cons a l ih => rw [List.foldl_cons, ih, keeps]

theorem Sys.eg_modEg_ne (s : Sys) {p q : Nat} (other : q ≠ p) (f : EgPort → EgPort) : (s.modEg p f).eg q = s.eg q :=
  getD_modify_ne _ _ _ _ _ _ other

@[simp] theorem Sys.queue_refillPort (s : Sys) (port p : Nat) : ((s.refillPort port).eg p).queue = (s.eg p).queue := by
  by_cases same : p = port
  · rw [same, Sys.refillPort, Sys.eg_modEg_same]
  · rw [Sys.refillPort, Sys.eg_modEg_ne _ same]

/-- The waits for tokens move the counters alone. -/
@[simp] theorem Sys.sw_countTokenWaits (p : Nat) (s : Sys) : (s.countTokenWaits p).sw = s.sw :=
  foldl_keeps Sys.sw (fun s c => by dsimp only; split <;> simp) _ s

@[simp] theorem Sys.fwd_countTokenWaits (p : Nat) (s : Sys) : (s.countTokenWaits p).fwd = s.fwd :=
  foldl_keeps Sys.fwd (fun s c => by dsimp only; split <;> simp) _ s

/-- The parts of a refill: the waits are counted, the settings that wait take effect, and every port that is up gains. -/
def Sys.refilled (s : Sys) : Sys :=
  let t := s.toExt (nextBoundary 10 s.clk.lastRefill)
  let u := (t.upPorts.foldl (fun u p => u.countTokenWaits p) t).modSw fun w => { w with sched := t.nv.sched }
  u.upPorts.foldl (fun u p => u.refillPort p) u

theorem Sys.refill_eq (s : Sys) :
    s.refill =
      ((s.refilled.modFwd fun f => { f with bucket := f.bucket.map fun e => (e.1, min 32 (e.2 + 4)) }).modMem fun m =>
        { m with stack := m.stack.map fun e => (e.1, { e.2 with requests := 0 }) }).modClk fun c =>
          { c with
            lastRefill := ((s.refilled.modFwd fun f =>
              { f with bucket := f.bucket.map fun e => (e.1, min 32 (e.2 + 4)) }).modMem fun m =>
                { m with stack := m.stack.map fun e => (e.1, { e.2 with requests := 0 }) }).floorTo 10 } := rfl

section
variable (s : Sys)

theorem Sys.sched_refilled : s.refilled.sw.sched = s.nv.sched := by
  rw [Sys.refilled, foldl_keeps (f := fun u p => u.refillPort p) (fun t => t.sw.sched) fun _ _ => rfl]
  simp

theorem Sys.pkt_refilled : s.refilled.sw.pkt = s.sw.pkt := by
  rw [Sys.refilled, foldl_keeps (f := fun u p => u.refillPort p) (fun t => t.sw.pkt) fun _ _ => rfl]
  simp [foldl_keeps (f := fun u p => Sys.countTokenWaits p u) Sys.sw fun t p => t.sw_countTokenWaits p]

theorem Sys.bucket_refilled : s.refilled.fwd.bucket = s.fwd.bucket := by
  rw [Sys.refilled, foldl_keeps (f := fun u p => u.refillPort p) (fun t => t.fwd.bucket) fun _ _ => rfl]
  simp [foldl_keeps (f := fun u p => Sys.countTokenWaits p u) Sys.fwd fun t p => t.fwd_countTokenWaits p]

theorem Sys.queue_refilled (p : Nat) : (s.refilled.eg p).queue = (s.eg p).queue := by
  rw [Sys.refilled, foldl_keeps (f := fun u p => u.refillPort p) (fun t => (t.eg p).queue) fun t q => t.queue_refillPort q p]
  simp [Sys.eg, foldl_keeps (f := fun u p => Sys.countTokenWaits p u) Sys.sw fun t p => t.sw_countTokenWaits p]

end

theorem Sys.cacheExpire_of_cons {s : Sys} {die : Nat} {a b : Word} {time : Word64} {rest : List (Word × Word × Word64)}
    (oldest : getD s.fwd.cache die [] = (a, b, time) :: rest) :
    s.cacheExpire die = (s.toExt (time + 65536)).modFwd fun f => { f with cache := put f.cache die rest } := by
  simp only [Sys.cacheExpire, oldest]

/-- Settles O3: each row's own case, the ordered sets with what they carry, and the refill part by part. -/
theorem bufferAndOrderedSetEventsRun : Obligations.BufferAndOrderedSetEventsRun := by
  refine ⟨?_, ?_, ?_, ?_, ?_, ?_, fun s => ?_, ?_⟩
  · intro s port tc turned d rest r k q die young next listed short tokens grant room
    exact next_onSys (Sys.readback_of_room young next listed short tokens grant room)
  · intro s die up x rest t waits room
    exact next_onSys (Sys.ringTakePkt_of_room waits room)
  · intro s die up x rest t waits room
    exact next_onSys (Sys.ringTakeMem_of_room waits room)
  · intro s die w r d t first copy listed room u
    exact next_onSys (Sys.replResume_of_room first copy listed room)
  · intro s port linked p q
    exact ⟨next_onSys (Sys.creditSend_of_linked linked), next_onSys (Sys.timeSend_of_linked linked),
      next_onSys (Sys.linkIdSend_of_linked linked), Sys.osFlush_of_idle linked⟩
  · intro s port p q
    exact ⟨rfl, Sys.port_creditOut s.sys p, rfl, Sys.osSeq_timeOut s.sys p, Sys.out_linkIdOut s.sys p,
      Sys.osSeq_linkIdOut s.sys p⟩
  · refine ⟨{ s with sys := s.sys.refill }, rfl, rfl, rfl, ?_⟩
    have sw : s.sys.refill.sw = s.sys.refilled.sw := by simp [Sys.refill_eq]
    have bucket : s.sys.refill.fwd.bucket = s.sys.refilled.fwd.bucket.map fun e => (e.1, min 32 (e.2 + 4)) := by
      simp [Sys.refill_eq]
    exact ⟨(congrArg Switch.sched sw).trans s.sys.sched_refilled, (congrArg Switch.pkt sw).trans s.sys.pkt_refilled,
      bucket.trans (congrArg _ s.sys.bucket_refilled), fun p => by
        rw [Sys.eg, sw]; exact s.sys.queue_refilled p⟩
  · exact fun s die a b time rest oldest => next_onSys (Sys.cacheExpire_of_cons oldest)

end Sys2Proof.Machine
end

section
/-! SUPPORT. What the module sends of itself leaves alone: no packet, flit, access or log record of its own moves a table, a slot
of a command object, or the start-up state. -/

namespace Sys2Proof.Machine

/-! ## What the Felt, the counters and the memory accesses leave -/

/-- A part of the state that no update of the Felt, the egress, the counters, the memory, the free inputs or the output moves. -/
structure Carried {β : Type} (part : Sys → β) : Prop where
  felt : ∀ (s : Sys) (f : Felt → Felt), part (s.modFelt f) = part s
  emit : ∀ (s : Sys) (o : Output), part (s.emit o) = part s
  sw : ∀ (s : Sys) (f : Switch → Switch), part (s.modSw f) = part s
  cnt : ∀ (s : Sys) (f : Counters → Counters), part (s.modCnt f) = part s
  mem : ∀ (s : Sys) (f : Mem → Mem), part (s.modMem f) = part s
  free : ∀ (s : Sys) (f : Free → Free), part (s.modFree f) = part s

namespace Carried

variable {β : Type} {part : Sys → β} (carried : Carried part) (s : Sys)
include carried

theorem count (a b c n : Nat) : part (s.count a b c n) = part s := by
  unfold Sys.count
  split
  · rfl
  · rw [carried.cnt]

theorem event (u c p n : Nat) : part (s.event u c p n) = part s := by
  unfold Sys.event
  dsimp only
  repeat' split
  all_goals simp [carried.cnt]

theorem modDir (l : Nat) (far : Bool) (f : FeltDir → FeltDir) : part (s.modDir l far f) = part s := by
  rw [Sys.modDir, Sys.modLink, carried.felt]

theorem putFlit (l : Nat) (far : Bool) (m : Nat) (q : BitVec 12) (t : Nat) (b : List Byte) :
    part (s.putFlit l far m q t b) = part s := carried.emit s _

theorem freeBuf (b : Option (Nat × Bool × Nat)) : part (s.freeBuf b) = part s := by
  rcases b with _ | ⟨l, far, st⟩
  · rfl
  · rw [Sys.freeBuf, carried.modDir]

theorem pumpLoop (l : Nat) (far : Bool) (fuel : Nat) : part (s.pumpLoop l far fuel) = part s := by
  induction fuel generalizing s with
  | zero => rfl
  | succ fuel ih =>
    unfold Sys.pumpLoop
    dsimp only
    repeat' split
    all_goals simp [ih, carried.freeBuf, carried.putFlit, carried.modDir]

theorem pump (l : Nat) (far : Bool) : part (s.pump l far) = part s := by
  unfold Sys.pump
  split
  · exact carried.pumpLoop s l far 256
  · rfl

theorem feltHop (k : Traffic) (a b : Nat) (c : Option Came) (x : List Byte) (buf : Option (Nat × Bool × Nat)) :
    part (s.feltHop k a b c x buf) = part s := by
  unfold Sys.feltHop
  split
  · exact carried.freeBuf s buf
  · rw [carried.pump, carried.modDir]

theorem feltSend (k : Traffic) (a b : Nat) (x : List Byte) : part (s.feltSend k a b x) = part s :=
  carried.feltHop s k a b none x none

theorem enterRing (x : Crossing) : part (s.enterRing x) = part s := by
  unfold Sys.enterRing Sys.countRingWait Sys.modRing
  dsimp only
  repeat' split
  all_goals simp [carried.sw, carried.count, carried.event]

theorem crossNow (x : Crossing) : part (s.crossNow x).2 = part s := by
  unfold Sys.crossNow
  dsimp only
  repeat' split
  all_goals simp [carried.feltSend, carried.enterRing]

theorem cross (x : Crossing) : part (s.cross x).2 = part s := by
  unfold Sys.cross
  split
  · simp [carried.felt]
  · exact carried.crossNow s x

theorem sinkMem (n : Option Nat) : part (s.sinkMem n) = part s := by
  cases n with
  | none => rfl
  | some n => rw [Sys.sinkMem, carried.mem]

theorem memAccess (d : Nat) (r : Bool) (b : List Byte) : part (s.memAccess d r b) = part s := by
  unfold Sys.memAccess Sys.draw
  dsimp only
  repeat' split
  all_goals simp [carried.free, carried.cross, carried.sinkMem]

end Carried

theorem flows_carried : Carried Sys.flows :=
  { felt := fun _ _ => rfl, emit := fun _ _ => rfl, sw := fun _ _ => rfl, cnt := fun _ _ => rfl, mem := fun _ _ => rfl
    free := fun _ _ => rfl }

/-! ## What packets, log records and messages of the module's own leave -/

/-- A part of the state that no packet, log record or message of the module's own moves. -/
structure Sent {β : Type} (part : Sys → β) : Prop extends Carried part where
  fwd : ∀ (s : Sys) (f : Fwd → Fwd), part (s.modFwd f) = part s
  ports : ∀ (s : Sys) (f : Ports → Ports), part (s.modPorts f) = part s
  flows : ∀ (s : Sys) (f : Flows → Flows), part (s.modFlows f) = part s
  hearth : ∀ (s : Sys) (f : Hearth → Hearth), part (s.modHearth f) = part s
  nv : ∀ (s : Sys) (f : Persist → Persist), part (s.modNv f) = part s
  jr : ∀ (s : Sys) (f : Journal → Journal), part (s.modJr f) = part s
  mg : ∀ (s : Sys) (f : Mgmt → Mgmt), (∀ m, (f m).slots = m.slots) → part (s.modMg f) = part s

namespace Sent

variable {β : Type} {part : Sys → β} (sent : Sent part) (s : Sys)
include sent

theorem modPort (p : Nat) (f : PortSt → PortSt) : part (s.modPort p f) = part s := by rw [Sys.modPort, sent.ports]

theorem modEg (p : Nat) (f : EgPort → EgPort) : part (s.modEg p f) = part s := by rw [Sys.modEg, sent.sw]

theorem spend (k : TokClass) (n : Nat) : part (s.spend k n) = part s := by rw [Sys.spend, sent.hearth]

/-! ### Log records -/

theorem msix (v : Nat) : part (s.msix v) = part s := by
  unfold Sys.msix
  repeat' split
  · rfl
  · rw [sent.emit]
  · simp [sent.mg]

theorem jrnl : part s.jrnl = part s := by rw [Sys.jrnl, sent.event, sent.jr]

theorem log (c : Word) (t : BitVec 8) (u p k : Nat) (a : Word64) (d : List Word) : part (s.log c t u p k a d) = part s := by
  unfold Sys.log Sys.record Sys.countError
  dsimp only
  repeat' split
  all_goals simp [sent.cnt, sent.count, sent.nv, sent.jrnl, sent.msix]

theorem reqError (p : Path) (c : Word) (k : Nat) (a : Word64) (o : Nat) : part (s.reqError p c k a o) = part s := by
  unfold Sys.reqError Sys.reqErrorKey
  dsimp only
  repeat' split
  all_goals simp [sent.cnt, sent.count, sent.log, sent.mg]

/-! ### Flow contexts -/

theorem touch (core i : Nat) : part (s.touch core i) = part s := by
  unfold Sys.touch
  dsimp only
  split <;> simp [sent.flows, sent.spend, sent.memAccess]

theorem openFlow {f : Flow} {i : Nat} {t : Sys} (opened : s.openFlow f = some (i, t)) : part t = part s := by
  unfold Sys.openFlow at opened
  split at opened
  · obtain ⟨j, -, same⟩ := Option.map_eq_some_iff.mp opened
    cases same
    simp [sent.touch, Sys.wrote, sent.mem, sent.flows]
  · cases opened

theorem noteSent (i : Nat) (x : Word) (again : Bool) : part (s.noteSent i x again) = part s := by
  rw [Sys.noteSent, Sys.modFlow, sent.flows]

/-! ### The pipeline of what the module originates -/

theorem seenVer (b : Bool) : part (s.seenVer b).2 = part s := by
  unfold Sys.seenVer Sys.draw
  split <;> simp [sent.free]

theorem lookup (die : Nat) (p : Pkt) (down : Bool) (ctr : Word) : part (s.lookup die p down ctr).2 = part s := by
  unfold Sys.lookup
  dsimp only
  repeat' split
  all_goals simp [sent.seenVer]

theorem resolve (die : Nat) (p : Pkt) (i : Option Nat) (ctr : Word) : part (s.resolve die p i ctr).2 = part s := by
  unfold Sys.resolve
  dsimp only
  repeat' split
  all_goals simp [sent.lookup]

theorem dropCount (port die : Nat) (c : Word) (n : Bool) (p : Pkt) : part (s.dropCount port die c n p) = part s := by
  unfold Sys.dropCount
  dsimp only
  split <;> simp [sent.event, sent.count, sent.log, sent.fwd]

theorem buffer (r : PktRec) : part (s.buffer r).2 = part s := by
  unfold Sys.buffer
  dsimp only
  split <;> simp [sent.sw, sent.modPort]

theorem freeCells (p : Pool) (n : Nat) : part (s.freeCells p n) = part s := by
  cases p <;> simp [Sys.freeCells, sent.sw, sent.modPort]

theorem releaseCopy (id : Nat) : part (s.releaseCopy id) = part s := by
  unfold Sys.releaseCopy
  dsimp only
  repeat' split
  all_goals simp [sent.sw, sent.freeCells]

theorem releaseTransit (d id n : Nat) : part (s.releaseTransit d id n) = part s := by
  unfold Sys.releaseTransit
  split <;> simp [sent.sw]

theorem enqueue (p : Nat) (d : Desc) : part (s.enqueue p d) = part s := by
  unfold Sys.enqueue
  dsimp only
  split <;> simp [sent.count, sent.modEg]

theorem portStage (die id : Nat) (ports : List Nat) : part (s.portStage die id ports) = part s := by
  unfold Sys.portStage
  split
  · rfl
  · rw [foldl_keeps part fun t _ => sent.releaseCopy t id, sent.releaseTransit, foldl_keeps part]
    intro t q
    dsimp only
    split <;> simp [sent.count, sent.enqueue]

theorem copyDown (die id : Nat) (ports : List Nat) : part (s.copyDown die id ports) = part s := by
  unfold Sys.copyDown
  dsimp only
  repeat' split
  all_goals simp [sent.portStage, sent.cross, sent.event, sent.sw]

theorem replicate (id : Nat) (ports : List Nat) (die : Nat) : part (s.replicate id ports die) = part s := by
  unfold Sys.replicate
  repeat' split
  all_goals simp [sent.copyDown, sent.sw]

theorem spread (id : Nat) (ports : List Nat) (own : Option Nat) : part (s.spread id ports own) = part s := by
  unfold Sys.spread
  split
  · rfl
  · dsimp only
    rw [foldl_keeps part fun t d => sent.replicate t id _ d, foldl_keeps part]
    simp [sent.event, sent.feltSend]

theorem coreStage (id : Nat) (ports : List Nat) (own : Option Nat) : part (s.coreStage id ports own) = part s := by
  unfold Sys.coreStage
  dsimp only
  repeat' split
  all_goals simp [sent.spread, sent.cross]

theorem queueRoute (r : PktRec) (rt : Route) : part (s.queueRoute r rt) = part s := by
  unfold Sys.queueRoute
  dsimp only
  repeat' split
  all_goals simp [sent.sw, sent.buffer, sent.enqueue, sent.coreStage, sent.count, sent.cross]

theorem enterOriginated (core : Nat) (p : Pkt) : part (s.enterOriginated core p) = part s := by
  unfold Sys.enterOriginated Sys.takeCtr
  dsimp only
  repeat' split
  all_goals simp [sent.dropCount, sent.resolve, sent.queueRoute, sent.fwd]

theorem enterLocal (core port : Nat) (p : Pkt) : part (s.enterLocal core port p) = part s := by
  unfold Sys.enterLocal
  dsimp only
  split <;> simp [sent.dropCount, sent.enqueue, sent.buffer]

theorem enter (core : Nat) (w : Pkt × Option Nat) : part (s.enter core w) = part s := by
  unfold Sys.enter Sys.enterAt
  dsimp only
  repeat' split
  all_goals simp [sent.enterOriginated, sent.enterLocal, sent.cross]

theorem originate (core : Nat) (p : Pkt) : part (s.originate core p) = part s := by
  unfold Sys.originate Sys.enterOrWait
  dsimp only
  repeat' split
  all_goals simp [sent.enter, sent.sw]

/-! ### Fault notices -/

theorem notify (code : Word) (port : Nat) : part (s.notify code port) = part s := by
  unfold Sys.notify
  rw [foldl_keeps part]
  intro t g
  split <;> simp [sent.originate]

/-! ### In-band messages and the answers on the paths -/

theorem inbandOut (i : Nat) (q : Word) (again : Bool) (m : List Byte) : part (s.inbandOut i q again m) = part s := by
  unfold Sys.inbandOut
  split
  · rfl
  · simp [sent.originate, sent.mg, sent.noteSent]

theorem inbandPump (i fuel : Nat) : part (s.inbandPump i fuel) = part s := by
  induction fuel generalizing s with
  | zero => rfl
  | succ fuel ih =>
    unfold Sys.inbandPump
    repeat' split
    case h_1.isTrue => simp [ih, sent.inbandOut, sent.mg]
    all_goals rfl

theorem inbandTo (gei : Word) : part (s.inbandTo gei) = part s := by
  unfold Sys.inbandTo
  dsimp only
  split
  · rw [sent.inbandPump]
  · split
    · next opened => rw [sent.inbandPump, sent.openFlow s opened]
    · rfl

theorem inbandGo : part s.inbandGo = part s := by
  rw [Sys.inbandGo, foldl_keeps part fun t g => sent.inbandTo t g]

theorem protect (path : Path) (m : List Byte) : part (s.protect path m).2 = part s := by
  unfold Sys.protect
  dsimp only
  split
  · simp [sent.mg]
  · rfl

theorem sendMsg (path : Path) (prot : Bool) (m : List Byte) : part (s.sendMsg path prot m) = part s := by
  cases path <;> cases prot <;> simp only [Sys.sendMsg]
  all_goals (try split) <;> simp [sent.inbandGo, sent.mg, sent.protect, sent.emit]

theorem notifySlot (o : SlotObj) (p : Path) (st ab : Word) : part (s.notifySlot o p st ab) = part s := by
  unfold Sys.notifySlot
  repeat' split
  all_goals simp [sent.msix, sent.sendMsg]

theorem respond (path : Path) (prot : Bool) (tag : BitVec 16) (addr : Word64) (n : Nat) (abort : Word) (data : List Byte) :
    part (s.respond path prot tag addr n abort data) = part s := by
  unfold Sys.respond
  dsimp only
  split
  · split
    · rw [sent.msix, sent.mg _ _ (by intro; rfl), sent.event]
    · exact sent.event s _ _ _ _
  · rw [sent.sendMsg, sent.event]

theorem answer (path : Path) (prot : Bool) (addr : Word64) (n : Nat) (abort : Word) (data : List Byte) :
    part (s.answer path prot addr n abort data) = part s := by
  unfold Sys.answer Sys.heard
  rw [sent.respond]
  split
  · simp [sent.mg]
  · rfl

end Sent

/-! ## The desk and the start-up state -/

/-- The tables and the slots of the command objects. -/
def Sys.desk (s : Sys) : Tables × Sparse Slot := (s.tab, s.mg.slots)

theorem desk_sent : Sent Sys.desk :=
  { felt := fun _ _ => rfl, emit := fun _ _ => rfl, sw := fun _ _ => rfl, cnt := fun _ _ => rfl, mem := fun _ _ => rfl
    free := fun _ _ => rfl, fwd := fun _ _ => rfl, ports := fun _ _ => rfl, flows := fun _ _ => rfl, hearth := fun _ _ => rfl
    nv := fun _ _ => rfl, jr := fun _ _ => rfl, mg := fun s _ keeps => congrArg (Prod.mk s.tab) (keeps s.mg) }

theorem boot_sent : Sent Sys.boot :=
  { felt := fun _ _ => rfl, emit := fun _ _ => rfl, sw := fun _ _ => rfl, cnt := fun _ _ => rfl, mem := fun _ _ => rfl
    free := fun _ _ => rfl, fwd := fun _ _ => rfl, ports := fun _ _ => rfl, flows := fun _ _ => rfl, hearth := fun _ _ => rfl
    nv := fun _ _ => rfl, jr := fun _ _ => rfl, mg := fun _ _ _ => rfl }

end Sys2Proof.Machine
end

section
/-! The sequencer: the steps of long commands and the completion of their writes (04 R124-R147). -/

namespace Sys2Proof.Machine

/-! ## TABLE_SEQUENCER_STEP -/

theorem runs_of_left {l : LongJob} {s : Sys} (runs : l.finished = false) (left : s.boot.bothLost = false) :
    ¬ (l.finished = true ∨ s.boot.bothLost = true) := by simp [runs, left]

section
variable {s : Sys} {l : LongJob} {rest : List LongJob}
  (first : s.tab.long = l :: rest) (runs : l.finished = false) (left : s.boot.bothLost = false)
include first runs left

theorem Sys.longSteps_flush (op : l.op = 13) (n : Nat) :
    let r := flushSteps l (s.tab.seqVer l.ver) l.pos (l.pos + n)
    let counts := (List.range 4).map fun i => nth l.counts i 0 + nth r.2 i 0
    let l1 := { l with pos := l.pos + n, counts }
    let t1 := { r.1.foldl (fun t w => t.push w) s.tab with long := l1 :: rest }
    s.longSteps n = { s with
      tab := if l.pos + n < nth (walkStarts l.scope) 4 0 then t1
        else t1.endLong l1 rest 2 0 ((List.range 4).map fun i => (i, BitVec.ofNat 32 (nth counts i 0))) } := by
  simp only [Sys.longSteps, first, if_neg (runs_of_left runs left), congrArg BitVec.toNat op]
  rfl

theorem Sys.longSteps_clear (op : l.op = 14) (n : Nat) :
    let l1 := { l with pos := l.pos + n }
    let t1 := { (clearSteps l (s.tab.seqVer l.ver) l.pos (l.pos + n)).foldl (fun t w => t.push w) s.tab with long := l1 :: rest }
    s.longSteps n = { s with
      tab := if l.pos + n < nth (walkStarts 15) 4 0 then t1 else t1.endLong l1 rest 2 0 [] } := by
  simp only [Sys.longSteps, first, if_neg (runs_of_left runs left), congrArg BitVec.toNat op]
  rfl

theorem Sys.longSteps_copy (op : l.op = 15) (n : Nat) :
    let st := walkStarts 15
    let src := s.tab.seqVer (!l.ver)
    let hi := l.pos + n
    let v := s.tab.seqVer l.ver
    let es :=
      (inSteps src.em (stepOf emRegions) 0 l.pos hi).map (fun e => Sum.inl e.2) ++
        (inSteps src.lpm (stepOf lpmRegions) (nth st 1 0) l.pos hi).map fun e => Sum.inr e.2
    let sets := inSteps (v.spray.map fun e => (e.1, src.sprayOf e.1)) id (nth st 2 0) l.pos hi ++
      inSteps src.spray id (nth st 2 0) l.pos hi
    let groups := inSteps (v.groups.map fun e => (e.1, getD src.groups e.1 {})) id (nth st 3 0) l.pos hi ++
      inSteps src.groups id (nth st 3 0) l.pos hi
    let r := copyEntries l.ver es (nth l.counts 0 0) s.tab
    let l1 := { l with pos := hi, counts := [r.2.1, 0, 0, 0] }
    let t1 := sets.foldl (fun t e => t.push (.spray l.ver e.1 e.2)) r.1
    let t2 := { groups.foldl (fun t e => t.push (.group l.ver e.1 e.2)) t1 with long := l1 :: rest }
    s.longSteps n = { s with
      tab := if r.2.2 = false then r.1.endLong l1 rest 5 tblFull [(0, BitVec.ofNat 32 r.2.1)]
        else if hi < nth st 4 0 then t2 else t2.endLong l1 rest 2 0 [(0, BitVec.ofNat 32 r.2.1)] } := by
  intro st src hi v es sets groups r l1 t1 t2
  have whole : (if r.2.2 = false then r.1.endLong l1 rest 5 tblFull [(0, BitVec.ofNat 32 r.2.1)]
        else if hi < nth st 4 0 then t2 else t2.endLong l1 rest 2 0 [(0, BitVec.ofNat 32 r.2.1)]) =
      if r.2.2 = true then (if hi < nth st 4 0 then t2 else t2.endLong l1 rest 2 0 [(0, BitVec.ofNat 32 r.2.1)])
        else r.1.endLong l1 rest 5 tblFull [(0, BitVec.ofNat 32 r.2.1)] := by
    cases r.2.2 <;> rfl
  rw [whole]
  simp only [Sys.longSteps, first, if_neg (runs_of_left runs left), congrArg BitVec.toNat op]
  rfl

/-- The records of a bulk load: it goes on, ends DONE with the last, or ends FAILED with the code of the first that fails, which
is counted when it found no place. -/
theorem Sys.longSteps_bulk (op : l.op = 16) {data : List Byte} (host : l.host = .data data) (n : Nat) :
    let r := bulkSteps l data rest n l.pos s.tab
    let l1 := { l with pos := r.2.1 }
    let t := { s with
      tab := if r.2.2 ≠ 0 then r.1.endLong l1 rest 5 r.2.2 [(0, BitVec.ofNat 32 r.2.1)]
        else if l.count ≤ r.2.1 then r.1.endLong l1 rest 2 0 [(0, BitVec.ofNat 32 r.2.1)]
        else { r.1 with long := l1 :: rest } }
    s.longSteps n = if r.2.2 = tblFull then t.countFull l.ver else t := by
  simp only [Sys.longSteps, first, if_neg (runs_of_left runs left), congrArg BitVec.toNat op, host]
  rfl

end

/-! ## TABLE_WRITE_COMPLETE -/

/-- A slot that completes takes its status, and no table moves. -/
theorem Sys.desk_complete (s : Sys) (left : s.boot.bothLost = false) (o : SlotObj) (p : Path) (st ab : Word)
    (res : List (Nat × Word)) :
    (s.complete o p st ab res).desk =
      (s.tab, modify s.mg.slots (slotKey o p) {} fun sl =>
        { sl with status := st, abort := ab, uses := [], res := res.foldl (fun a e => put a e.1 e.2) sl.res }) := by
  unfold Sys.complete
  rw [if_neg (by simp [left])]
  dsimp only
  split
  · rw [desk_sent.notifySlot]
    rfl
  · rw [desk_sent.notifySlot, desk_sent.reqError]
    rfl

theorem Sys.tab_complete (s : Sys) (left : s.boot.bothLost = false) (o : SlotObj) (p : Path) (st ab : Word)
    (res : List (Nat × Word)) : (s.complete o p st ab res).tab = s.tab :=
  congrArg Prod.fst (s.desk_complete left o p st ab res)

theorem Sys.status_complete (s : Sys) (left : s.boot.bothLost = false) (o : SlotObj) (p : Path) (st ab : Word)
    (res : List (Nat × Word)) : ((s.complete o p st ab res).slot o p).status = st := by
  have slots := congrArg Prod.snd (s.desk_complete left o p st ab res)
  dsimp only [Sys.desk] at slots
  rw [Sys.slot, slots, getD_modify_same]

theorem Sys.tab_finishTable (s : Sys) (left : s.boot.bothLost = false) (p : Path) (st ab : Word) (res : List (Nat × Word)) :
    (s.finishTable p st ab res).tab = s.tab := by
  unfold Sys.finishTable
  dsimp only
  split
  · next e _ => rw [Sys.tab_complete (s.modSlot .table p fun sl => { sl with cursor := e.2 }) left]; rfl
  · rw [s.tab_complete left]

theorem Sys.status_finishTable (s : Sys) (left : s.boot.bothLost = false) (p : Path) (st ab : Word) (res : List (Nat × Word)) :
    ((s.finishTable p st ab res).slot .table p).status = st := by
  unfold Sys.finishTable
  dsimp only
  split
  · next e _ => rw [Sys.status_complete (s.modSlot .table p fun sl => { sl with cursor := e.2 }) left]
  · rw [s.status_complete left]

section
variable {s : Sys} {a b : List InFlight} {w : InFlight} {path : Path} {status abort : Word} {res : List (Nat × Word)}
  (left : s.boot.bothLost = false) (split : splitOwner s.tab.inflight = (a, some w, b))
  (owner : w.owner = some (path, status, abort, res))
include left split owner

/-- The module with the oldest writes applied, before the command that they end leaves BUSY. -/
theorem Sys.writeComplete_of_split :
    s.writeComplete =
      (((s.modTab fun t => { t.applyAll (a ++ [w]) with inflight := b }).event 20 0x41 0
          ((a ++ [w]).filter fun w => w.write != .none).length).modTab fun t =>
        { t with long := t.long.filter fun l => !(l.finished && l.path == path) }).finishTable path status abort res := by
  simp [Sys.writeComplete, left, split, owner]

end

/-- Settles O10: each long command's own step, and the completion that ends a command. -/
theorem sequencerRuns : Obligations.SequencerRuns := by
  refine ⟨fun s n l rest first runs left => ⟨?_, ?_, ?_, ?_⟩, ?_⟩
  · exact fun op => next_onSys (Sys.longSteps_flush first runs left op n)
  · exact fun op => next_onSys (Sys.longSteps_clear first runs left op n)
  · exact fun op => next_onSys (Sys.longSteps_copy first runs left op n)
  · intro op data host
    have steps := Sys.longSteps_bulk first runs left op host n
    dsimp only at steps ⊢
    refine ⟨fun good => ?_, fun bad other => ?_, fun full => ?_⟩
    · refine next_onSys (steps.trans ?_)
      rw [good, if_neg (by decide), if_neg (by simp)]
    · refine next_onSys (steps.trans ?_)
      rw [if_neg other, if_pos bad]
    · refine next_onSys (steps.trans ?_)
      rw [full, if_pos rfl, if_pos (by decide)]
  · intro s a b w path status abort res left split owner
    refine ⟨{ s with sys := s.sys.writeComplete }, rfl, rfl, rfl, ?_, ?_⟩
    · dsimp only
      rw [Sys.writeComplete_of_split left split owner, Sys.tab_finishTable _ (by simpa using left)]
      simp
    · dsimp only
      rw [Sys.writeComplete_of_split left split owner, Sys.status_finishTable _ (by simpa using left)]

end Sys2Proof.Machine
end

section
/-! The flow-control rows: grants and their refresh, the timer wheel, and contexts that are freed and fetched (05 R158-R183). -/

namespace Sys2Proof.Machine

theorem Sys.grantRefresh_of_missing {s : Sys} {i : Nat} {f : Flow} (held : get? s.flows.ctx i = some f) (opened : f.st = .opened)
    (inbound : f.outbound = false) (missing : f.next ≠ f.ack) :
    s.grantRefresh i = (s.toExt (f.grantTime + 65536)).sendGrant i false := by
  simp [Sys.grantRefresh, held, opened, inbound, missing]

theorem Sys.wheelSlot_of_listed {s : Sys} {core : Nat} {e : Nat × Nat} {r : List (Nat × Nat)}
    (listed : (s.flows.ctx.filter fun e => e.2.home == core).filterMap (fun e => (s.deadline e.2).map fun n => (e.1, n)) = e :: r) :
    s.wheelSlot core =
      (((e :: r).filter fun x => x.2 ≤ s.slotEnd (r.foldl (fun a x => min a x.2) e.2)).foldl
        (fun u x => u.wheelAct core x.1) (s.advance (s.slotEnd (r.foldl (fun a x => min a x.2) e.2)))).settle := by
  rw [Sys.wheelSlot, listed]

/-! ## FLOW_CONTEXT_FREE -/

theorem Sys.contextFree_of_closing {s : Sys} {i : Nat} {f : Flow} {v : Interval} (held : get? s.flows.ctx i = some f)
    (closing : f.st = .closing) (due : f.closing = some v) : s.contextFree i = (s.toEnd v).freeFlow i := by
  obtain ⟨⟩ := f
  cases closing
  cases due
  simp only [Sys.contextFree, held]

theorem Sys.ctx_freeFlow (s : Sys) (i : Nat) : (s.freeFlow i).flows.ctx = del s.flows.ctx i := rfl

/-- Every object forgets a freed context. -/
theorem Sys.receivers_freeFlow (s : Sys) (i : Nat) :
    (s.freeFlow i).bc.objs.map (fun o => (o.obj, o.receivers.map fun r => r.flow)) =
      s.bc.objs.map (fun o => (o.obj, o.receivers.map fun r => if r.flow = some i then none else r.flow)) := by
  simp [Sys.freeFlow, Sys.forgetFlow]

/-- The key of a sender rests for the idle time and a drain bound. -/
theorem Sys.resting_freeFlow {s : Sys} {i : Nat} {f : Flow} (held : get? s.flows.ctx i = some f) (sender : f.outbound = true) :
    (f.peer, f.flow, { f.lastIv with len := s.nv.flowIdle * 1000 + s.drainNs }) ∈ (s.freeFlow i).flows.resting := by
  simp [Sys.freeFlow, held, sender]

/-! ## CONTEXT_FETCH_COMPLETE -/

/-- A fetched grant is handled, and the fetch spends its tokens (05 R182). -/
theorem Sys.fetchComplete_of_grant {s : Sys} {core : Nat} {d : Delivery} {rest : List Delivery} {i : Nat} {f : Flow}
    (first : getD s.flows.missq core [] = d :: rest) (found : s.findFlow d.pkt.sgei d.pkt.flow true = some (i, f))
    (kind : d.pkt.kind = 6) (tokens : s.fetchBytes core (some i) ≤ s.tokens .flow)
    (grant : s.hearth.noGrant.contains (16 + core) = false) :
    s.fetchComplete core =
      ((((((s.memAccess (16 + core) false []).spend .flow 256).modFlows fun f =>
        { f with missq := put f.missq core rest }).touch core i).grantWith core d s).settle) := by
  have served : ¬ (s.tokens .flow < s.fetchBytes core (some i) ∨ s.hearth.noGrant.contains (16 + core) = true) := by
    rw [grant]; simpa using tokens
  have outbound : (d.pkt.kind == 6) = true := by rw [kind]; rfl
  have fetched : (((s.memAccess (16 + core) false []).spend .flow 256).modFlows fun f =>
      { f with missq := put f.missq core rest }).findFlow d.pkt.sgei d.pkt.flow true = some (i, f) := by
    have ctx := congrArg Flows.ctx (flows_carried.memAccess s (16 + core) false [])
    rw [← found, Sys.findFlow, Sys.findFlow, ← ctx]
    rfl
  have request : ¬ (d.svc = 0 ∧ d.pkt.kind = 9) := by simp [kind]
  simp only [Sys.fetchComplete, first, outbound, found, Option.map_some, if_neg served, fetched, if_neg request, if_pos kind]

/-- Settles O11: each row's own case. -/
theorem flowControlRuns : Obligations.FlowControlRuns := by
  refine ⟨?_, ?_, ?_, ?_, ?_⟩
  · intro s core d t i f taken found live cached follows
    exact next_onSys ((Sys.grantReceive_of_takeDelivery taken).trans
      (Sys.grantWith_of_serialAfter found live cached follows))
  · exact fun s i f held opened inbound missing => next_onSys (Sys.grantRefresh_of_missing held opened inbound missing)
  · exact fun s core e r listed => next_onSys (Sys.wheelSlot_of_listed listed)
  · intro s i f v held closing due
    exact ⟨next_onSys (Sys.contextFree_of_closing held closing due), Sys.ctx_freeFlow _ i, Sys.receivers_freeFlow _ i,
      Sys.resting_freeFlow (s := s.sys.toEnd v) held⟩
  · exact fun s core d rest i f first found kind tokens grant =>
      next_onSys (Sys.fetchComplete_of_grant first found kind tokens grant)

end Sys2Proof.Machine
end

section
/-! Command objects: what their slots hold once ARGs are written and commands are accepted, and the job commands of the
collective object (07 R257-R262; 18 R544). -/

namespace Sys2Proof.Machine

/-! ## Slots -/

section
variable (s : Sys) (o : SlotObj) (p : Path)

@[simp] theorem Sys.slot_modSlot (f : Slot → Slot) : (s.modSlot o p f).slot o p = f (s.slot o p) := by
  simp [Sys.slot, Sys.modSlot]

theorem Sys.slot_setArgs (args : List (Nat × Word)) :
    (s.setArgs o p args).slot o p =
      { s.slot o p with args := args.foldl (fun a e => put a e.1 e.2) (s.slot o p).args } := by
  simp [Sys.setArgs]

@[simp] theorem Sys.busy_setArgs (args : List (Nat × Word)) : ((s.setArgs o p args).slot o p).busy = (s.slot o p).busy := by
  simp [Sys.slot_setArgs, Slot.busy]

@[simp] theorem Sys.arg_setArgs_one (n : Nat) (v : Word) : ((s.setArgs o p [(n, v)]).slot o p).arg n = v :=
  s.arg_setArgs_last o p [] n v

end

/-! ## Job commands -/

theorem tag_jobArg (tag : BitVec 16) (gen : BitVec 8) : BitVec.ofNat 16 (fld (jobArg tag gen) 31 16) = tag := by
  have := tag.isLt
  have := gen.isLt
  apply BitVec.eq_of_toNat_eq
  simp only [jobArg, fld, bits, BitVec.toNat_ofNat]
  omega

theorem gen_jobArg (tag : BitVec 16) (gen : BitVec 8) : BitVec.ofNat 8 (fld (jobArg tag gen) 15 8) = gen := by
  have := tag.isLt
  have := gen.isLt
  apply BitVec.eq_of_toNat_eq
  simp only [jobArg, fld, bits, BitVec.toNat_ofNat]
  omega

section
variable {path : Path} {tag : BitVec 16} {gen : BitVec 8} {st : Stores} {dma : Dma} {s : Sys}
  (idle : (s.slot .coll path).busy = false)
include idle

theorem collCmd_activate (time : s.clk.valid = true) (low : tag ≠ 0) (high : tag ≠ 0xFFFF) (free : (s.job tag).active = false) :
    collCmd path (BitVec.ofNat 32 (4 * 2 ^ 24)) st dma (s.setArgs .coll path [(0, jobArg tag gen)]) =
      .ok (((cmdTaken .coll path 4 [(0, jobArg tag gen)] [] s).setJob tag.toNat { active := true, gen }).done .coll path []) := by
  have job : (s.setArgs .coll path [(0, jobArg tag gen)]).job tag = s.job tag := rfl
  simp only [collCmd, Sys.busy_setArgs, idle, Sys.arg_setArgs_one, tag_jobArg, gen_jobArg, job]
  simpa [fld, bits, time, cmdTaken] using And.intro low (And.intro high free)

theorem collCmd_read :
    collCmd path (BitVec.ofNat 32 (7 * 2 ^ 24)) st dma (s.setArgs .coll path [(0, jobArg tag gen)]) =
      .ok ((cmdTaken .coll path 7 [(0, jobArg tag gen)] [] s).done .coll path
        [(0, BitVec.ofNat 32 (b2n (s.job tag).active * 2 ^ 31 + (s.job tag).gen.toNat * 256))]) := by
  have job : (s.setArgs .coll path [(0, jobArg tag gen)]).job tag = s.job tag := rfl
  simp only [collCmd, Sys.busy_setArgs, idle, Sys.arg_setArgs_one, tag_jobArg, job]
  simp [fld, bits, cmdTaken]

theorem collCmd_flush (own : s.ownJob tag = true) :
    collCmd path (BitVec.ofNat 32 (5 * 2 ^ 24)) st dma (s.setArgs .coll path [(0, jobArg tag gen)]) =
      .ok ((cmdTaken .coll path 5 [(0, jobArg tag gen)] [] s).flushJob path tag (some gen)) := by
  have owned : (s.setArgs .coll path [(0, jobArg tag gen)]).ownJob tag = true := own
  simp only [collCmd, Sys.busy_setArgs, idle, Sys.arg_setArgs_one, tag_jobArg, gen_jobArg, owned]
  simp [fld, bits, cmdTaken]

theorem collCmd_deactivate (own : s.ownJob tag = true) :
    collCmd path (BitVec.ofNat 32 (6 * 2 ^ 24)) st dma (s.setArgs .coll path [(0, jobArg tag gen)]) =
      .ok ((cmdTaken .coll path 6 [(0, jobArg tag gen)] [] s).flushJob path tag none) := by
  have owned : (s.setArgs .coll path [(0, jobArg tag gen)]).ownJob tag = true := own
  simp only [collCmd, Sys.busy_setArgs, idle, Sys.arg_setArgs_one, tag_jobArg, owned]
  simp [fld, bits, cmdTaken]

end

/-! ## The end of a reclaim -/

section
variable {α : Type}

theorem foldl_del (l : List Nat) (t : Sparse α) : l.foldl del t = t.filter fun e => !l.contains e.1 := by
  induction l generalizing t with
  | nil => simp
  | cons k l ih =>
    rw [List.foldl_cons, ih, del, List.filter_filter]
    apply List.filter_congr
    intro e _
    by_cases here : e.1 = k <;> simp [here]

/-- A part that each step of a fold updates on its own, the fold updates by the fold of those updates. -/
theorem foldl_moves {β : Type} (part : Sys → β) {f : Sys → α → Sys} {g : β → α → β} (moves : ∀ s a, part (f s a) = g (part s) a)
    (l : List α) (s : Sys) : part (l.foldl f s) = l.foldl g (part s) := by
  induction l generalizing s with
  | nil => rfl
  | cons a l ih => rw [List.foldl_cons, ih, moves, List.foldl_cons]

@[simp] theorem Option.filter_fun_true (x : Option α) : x.filter (fun _ => true) = x := by cases x <;> rfl

/-- Steps that each map a list, the one after the other, map it once by all of them. -/
theorem foldl_map_map {γ : Type} (h : α → γ → γ) (l : List α) (t : List γ) :
    l.foldl (fun t a => t.map (h a)) t = t.map fun x => l.foldl (fun x a => h a x) x := by
  induction l generalizing t with
  | nil => simp
  | cons a l ih => rw [List.foldl_cons, ih, List.map_map]; rfl

end

/-- A context forgets the graph that opened it when that graph is freed. -/
def forgetOpener (e : Nat × Ctx) (gid : Nat) : Nat × Ctx :=
  (e.1, match e.2.opener with | some o => if o.1 = gid then { e.2 with opener := none } else e.2 | none => e.2)

theorem foldl_forgetOpener (l : List Nat) (e : Nat × Ctx) :
    l.foldl forgetOpener e = (e.1, { e.2 with opener := e.2.opener.filter fun o => !l.contains o.1 }) := by
  induction l generalizing e with
  | nil => simp
  | cons g l ih =>
    rw [List.foldl_cons, ih, forgetOpener]
    rcases h : e.2.opener with _ | o
    · simp [h]
    · by_cases here : o.1 = g
      · simp [Option.filter_some, here]
      · simp [Option.filter_some, here, h]

/-- What an object keeps of its flow contexts when one is freed. -/
def forgetInflow (o : BcObj) (i : Nat) : BcObj :=
  { o with
    inflow := if o.inflow = some i then none else o.inflow
    receivers := o.receivers.map fun r => { r with flow := if r.flow = some i then none else r.flow } }

theorem foldl_forgetInflow (l : List Nat) (o : BcObj) :
    l.foldl forgetInflow o =
      { o with
        inflow := o.inflow.filter fun i => !l.contains i
        receivers := o.receivers.map fun r => { r with flow := r.flow.filter fun i => !l.contains i } } := by
  induction l generalizing o with
  | nil => simp
  | cons i l ih =>
    have one (x : Option Nat) : (if x = some i then none else x).filter (fun j => !l.contains j) =
        x.filter fun j => !(i :: l).contains j := by
      rcases x with _ | j
      · rfl
      · by_cases here : j = i <;> simp [Option.filter_some, here]
    rw [List.foldl_cons, ih, forgetInflow]
    simp only [one, List.map_map, Function.comp_def]

/-- The module when graphs and flow contexts have been freed, one after the other. -/
def Sys.swept (graphs flows : List Nat) (s : Sys) : Sys :=
  flows.foldl (fun t i => t.freeFlow i) (graphs.foldl (fun t g => t.freeGraph g) s)

section
variable (s : Sys) (graphs flows : List Nat)

theorem Sys.graph_swept : (s.swept graphs flows).graphs.graph = s.graphs.graph.filter fun e => !graphs.contains e.1 := by
  rw [Sys.swept, foldl_keeps (f := fun t i => t.freeFlow i) (fun t => t.graphs.graph) fun _ _ => rfl,
    foldl_moves (fun t => t.graphs.graph) (g := del) fun _ _ => rfl, foldl_del]

theorem Sys.flowCtx_swept : (s.swept graphs flows).flows.ctx = s.flows.ctx.filter fun e => !flows.contains e.1 := by
  rw [Sys.swept, foldl_moves (fun t => t.flows.ctx) (g := del) fun _ _ => rfl, foldl_del,
    foldl_keeps (f := fun t g => t.freeGraph g) (fun t => t.flows.ctx) fun _ _ => rfl]

theorem Sys.collCtx_swept :
    (s.swept graphs flows).coll.ctx =
      s.coll.ctx.map fun e => (e.1, { e.2 with opener := e.2.opener.filter fun o => !graphs.contains o.1 }) := by
  rw [Sys.swept, foldl_keeps (f := fun t i => t.freeFlow i) (fun t => t.coll.ctx) fun _ _ => rfl,
    foldl_moves (fun t => t.coll.ctx) (g := fun t g => t.map fun e => forgetOpener e g) fun _ _ => rfl,
    foldl_map_map fun g e => forgetOpener e g]
  exact List.map_congr_left fun e _ => foldl_forgetOpener graphs e

theorem Sys.objs_swept :
    (s.swept graphs flows).bc.objs =
      s.bc.objs.map fun o =>
        { o with
          inflow := o.inflow.filter fun i => !flows.contains i
          receivers := o.receivers.map fun r => { r with flow := r.flow.filter fun i => !flows.contains i } } := by
  rw [Sys.swept, foldl_moves (fun t => t.bc.objs) (g := fun t i => t.map fun o => forgetInflow o i) fun _ _ => rfl,
    foldl_keeps (f := fun t g => t.freeGraph g) (fun t => t.bc.objs) fun _ _ => rfl,
    foldl_map_map fun i o => forgetInflow o i]
  exact List.map_congr_left fun o _ => foldl_forgetInflow flows o

theorem Sys.fwd_swept : (s.swept graphs flows).fwd = s.fwd := by
  rw [Sys.swept, foldl_keeps (f := fun t i => t.freeFlow i) Sys.fwd fun _ _ => rfl,
    foldl_keeps (f := fun t g => t.freeGraph g) Sys.fwd fun _ _ => rfl]

theorem Sys.boot_swept : (s.swept graphs flows).boot = s.boot := by
  rw [Sys.swept, foldl_keeps (f := fun t i => t.freeFlow i) Sys.boot fun _ _ => rfl,
    foldl_keeps (f := fun t g => t.freeGraph g) Sys.boot fun _ _ => rfl]

end

/-- The module at the end of the reclaim of a tag, before its command ends. -/
def Sys.reclaimed (tag : BitVec 16) (f : Flush) (s : Sys) : Sys :=
  let graphs := (s.graphs.graph.filter fun e => e.2.st == .stale && e.2.jtag == tag).map fun e => e.1
  let flows := (s.flows.ctx.filter fun e => e.2.st == .stale && e.2.jtag == tag).map fun e => e.1
  let u := s.swept graphs flows
  let t := (u.modColl fun k =>
    { k with
      ctx := k.ctx.filter fun e => !(e.2.st == .stale && e.2.desc.jtag == tag)
      flushes := k.flushes.eraseP fun x => x.jtag == tag }).modBc fun b =>
    { b with objs := b.objs.filter fun o => !(o.jtag == tag && (o.st == .stale || f.deactivate || o.jgen != (u.job tag).gen)) }
  if f.deactivate then t.setJob tag.toNat { active := false, gen := (u.job tag).gen } else t

section
variable (s : Sys) (tag : BitVec 16) (f : Flush)

theorem Sys.reclaimDone_of_found (found : s.coll.flushes.find? (fun f => f.jtag == tag) = some f) :
    s.reclaimDone tag =
      (s.reclaimed tag f).done .coll f.path [(0, BitVec.ofNat 32 f.ctxs), (1, BitVec.ofNat 32 f.flows)] := by
  have flows (graphs : List Nat) : (graphs.foldl (fun t g => t.freeGraph g) s).flows.ctx = s.flows.ctx :=
    foldl_keeps (f := fun t g => t.freeGraph g) (fun t => t.flows.ctx) (fun _ _ => rfl) graphs s
  simp only [Sys.reclaimDone, found, flows]
  rfl

theorem Sys.job_swept (graphs flows : List Nat) : (s.swept graphs flows).job tag = s.job tag := by
  rw [Sys.job, Sys.job, s.fwd_swept]

/-- Only the record of the tag is written when the reclaim ends. -/
theorem Sys.reclaimed_part {β : Type} (part : Sys → β) (fwd : ∀ (t : Sys) (g : Fwd → Fwd), part (t.modFwd g) = part t) :
    let graphs := (s.graphs.graph.filter fun e => e.2.st == .stale && e.2.jtag == tag).map fun e => e.1
    let flows := (s.flows.ctx.filter fun e => e.2.st == .stale && e.2.jtag == tag).map fun e => e.1
    part (s.reclaimed tag f) = part (((s.swept graphs flows).modColl fun k =>
      { k with
        ctx := k.ctx.filter fun e => !(e.2.st == .stale && e.2.desc.jtag == tag)
        flushes := k.flushes.eraseP fun x => x.jtag == tag }).modBc fun b =>
      { b with objs := b.objs.filter fun o => !(o.jtag == tag && (o.st == .stale || f.deactivate || o.jgen != (s.job tag).gen)) }) := by
  simp only [Sys.reclaimed, Sys.job_swept]
  split
  · exact fwd _ _
  · rfl

theorem Sys.jobs_reclaimed :
    getD (s.reclaimed tag f).fwd.jobs tag.toNat {} =
      if f.deactivate then { active := false, gen := (s.job tag).gen } else getD s.fwd.jobs tag.toNat {} := by
  simp only [Sys.reclaimed, Sys.job_swept]
  split
  · simp [Sys.setJob]
  · simp [s.fwd_swept]

end

theorem exec_jobFlushReclaimDone (tag : BitVec 16) (s : State) :
    exec (.jobFlushReclaimDone tag) s = .next (s.onSys (Sys.reclaimDone tag)) := rfl

/-- Settles O13: the four commands of a tag, and the end of a reclaim part by part. -/
theorem jobCommandsRun : Obligations.JobCommandsRun := by
  refine ⟨?_, ?_, ?_, ?_, ?_⟩
  · intro s path tag gen ⟨gate, idle⟩ time low high free
    exact next_request_of_ok gate (f := fun x => _) (collCmd_activate idle time low high free)
  · intro s path tag ⟨gate, idle⟩
    exact next_request_of_ok gate (f := fun x => _) (collCmd_read idle)
  · intro s path tag gen ⟨gate, idle⟩ own
    exact next_request_of_ok gate (f := fun x => _) (collCmd_flush idle own)
  · intro s path tag ⟨gate, idle⟩ own
    exact next_request_of_ok gate (f := fun x => _) (collCmd_deactivate idle own)
  · intro s tag f found graphs flows flow
    refine ⟨s.sys.reclaimed tag f, ?_, ?_, ?_, ?_, ?_, Sys.jobs_reclaimed _ _ _, fun left _ => ?_⟩
    · exact next_onSys (Sys.reclaimDone_of_found _ _ _ found)
    · rw [Sys.reclaimed_part _ _ _ (fun t => t.graphs.graph) fun _ _ => rfl]
      exact Sys.graph_swept _ _ _
    · rw [Sys.reclaimed_part _ _ _ (fun t => t.flows.ctx) fun _ _ => rfl]
      exact Sys.flowCtx_swept _ _ _
    · rw [Sys.reclaimed_part _ _ _ (fun t => t.coll.ctx) fun _ _ => rfl]
      exact congrArg _ (Sys.collCtx_swept _ _ _)
    · rw [Sys.reclaimed_part _ _ _ (fun t => t.bc.objs) fun _ _ => rfl]
      exact congrArg _ (Sys.objs_swept _ _ _)
    · refine Sys.status_complete _ ?_ _ _ _ _ _
      rw [Sys.reclaimed_part _ _ _ Sys.boot fun _ _ => rfl]
      exact (congrArg Boot.bothLost (Sys.boot_swept _ _ _)).trans left

end Sys2Proof.Machine
end

section
/-! Graphs: the command object, images on both paths, messages and deadlines (08 R270-R295). -/

namespace Sys2Proof.Machine

/-! ## The command object -/

section
variable (s : Sys) (o : SlotObj) (p : Path) (u v w : Word)

@[simp] theorem Sys.arg0_setArgs_two : ((s.setArgs o p [(0, u), (1, v)]).slot o p).arg 0 = u := by
  simp [Sys.slot_setArgs, Slot.arg, getD_put_ne]

@[simp] theorem Sys.arg1_setArgs_two : ((s.setArgs o p [(0, u), (1, v)]).slot o p).arg 1 = v :=
  s.arg_setArgs_last o p [(0, u)] 1 v

@[simp] theorem Sys.arg0_setArgs_three : ((s.setArgs o p [(0, u), (1, v), (2, w)]).slot o p).arg 0 = u := by
  simp [Sys.slot_setArgs, Slot.arg, getD_put_ne]

@[simp] theorem Sys.arg1_setArgs_three : ((s.setArgs o p [(0, u), (1, v), (2, w)]).slot o p).arg 1 = v := by
  simp [Sys.slot_setArgs, Slot.arg, getD_put_ne]

@[simp] theorem Sys.arg2_setArgs_three : ((s.setArgs o p [(0, u), (1, v), (2, w)]).slot o p).arg 2 = w :=
  s.arg_setArgs_last o p [(0, u), (1, v)] 2 w

end

section
variable {s : Sys} {path : Path}

theorem graphCmd_submit {handle length : Word} {b : Bulk} (idle : (s.slot .graph .pcie).busy = false)
    (region : s.region .pcie handle length.toNat = .ok b) :
    graphCmd .pcie (BitVec.ofNat 32 (1 * 2 ^ 24)) (s.setArgs .graph .pcie [(0, handle), (1, length)]) =
      .ok ((cmdTaken .graph .pcie 1 [(0, handle), (1, length)] (usesOf .pcie handle) s).modGraphs fun g =>
        { g with loads := g.loads ++ [{ path := .pcie, handle, length := length.toNat }] }) := by
  have kept : (s.setArgs .graph .pcie [(0, handle), (1, length)]).region .pcie handle length.toNat = .ok b := region
  simp only [graphCmd, Sys.busy_setArgs, idle, Sys.arg0_setArgs_two, Sys.arg1_setArgs_two, kept]
  rfl

variable {gid cookie : Word} {g : Graph} (idle : (s.slot .graph path).busy = false)
  (named : s.named (fld gid 9 0) cookie = some g)
include idle named

theorem graphCmd_cancel (running : g.st = .running) :
    graphCmd path (BitVec.ofNat 32 (2 * 2 ^ 24)) (s.setArgs .graph path [(0, gid), (1, cookie)]) =
      .ok (((cmdTaken .graph path 2 [(0, gid), (1, cookie)] [] s).cancelGraph (fld gid 9 0)).done .graph path []) := by
  have kept : (s.setArgs .graph path [(0, gid), (1, cookie)]).named (fld gid 9 0) cookie = some g := named
  simp only [graphCmd, Sys.busy_setArgs, idle, Sys.arg0_setArgs_two, Sys.arg1_setArgs_two, kept]
  simp [fld, bits, running, cmdTaken]

theorem graphCmd_release (ended : g.ended.isSome = true) :
    graphCmd path (BitVec.ofNat 32 (3 * 2 ^ 24)) (s.setArgs .graph path [(0, gid), (1, cookie)]) =
      .ok (((cmdTaken .graph path 3 [(0, gid), (1, cookie)] [] s).freeGraph (fld gid 9 0)).done .graph path []) := by
  have kept : (s.setArgs .graph path [(0, gid), (1, cookie)]).named (fld gid 9 0) cookie = some g := named
  simp only [graphCmd, Sys.busy_setArgs, idle, Sys.arg0_setArgs_two, Sys.arg1_setArgs_two, kept]
  simp [fld, bits, ended, cmdTaken]

end

/-- A part that has not arrived at a barrier of a RUNNING graph arrives (08 R283). -/
theorem Sys.arriveAt_of_barrier {s : Sys} {gid node part : Nat} {cookie : Word} {g : Graph} {n : Node}
    (named : s.named gid cookie = some g) (running : g.st = .running) (listed : g.nodes[node]? = some n)
    (barrier : n.kind.toNat = kBarrier) (inside : part < n.a 351 341) (waits : n.st ≠ .done)
    (fresh : n.arrived.contains part = false) :
    s.arriveAt gid cookie node part =
      .ok (s.modNode gid node fun n => { n with arrived := insertNat part n.arrived }).settle := by
  have held : ¬ (n.kind.toNat ≠ kBarrier ∨ n.a 351 341 ≤ part) := by simp [barrier, inside]
  have first : ¬ (n.st = .done ∨ n.arrived.contains part = true) := by rw [fresh]; simpa using waits
  simp only [Sys.arriveAt, named, running, listed, if_neg held, if_neg first]
  rfl

theorem graphCmd_arrive {s t : Sys} {path : Path} {gid cookie nodePart : Word} (idle : (s.slot .graph path).busy = false)
    (arrived : (cmdTaken .graph path 4 [(0, gid), (1, cookie), (2, nodePart)] [] s).arriveAt (fld gid 9 0) cookie
      (fld nodePart 31 16) (fld nodePart 15 0) = .ok t) :
    graphCmd path (BitVec.ofNat 32 (4 * 2 ^ 24)) (s.setArgs .graph path [(0, gid), (1, cookie), (2, nodePart)]) =
      .ok (t.done .graph path []) := by
  rw [cmdTaken] at arrived
  simp only [graphCmd, Sys.busy_setArgs, idle, Sys.arg0_setArgs_three, Sys.arg1_setArgs_three, Sys.arg2_setArgs_three, arrived]
  rfl

/-- Settles O17: the four commands of the graph object. -/
theorem graphCommandsRun : Obligations.GraphCommandsRun := by
  refine ⟨?_, ?_, ?_⟩
  · intro s handle length b ⟨gate, idle⟩ region
    exact next_request_of_ok gate (f := fun x => _) (graphCmd_submit idle region)
  · intro s path gid cookie g ⟨gate, idle⟩ named
    exact ⟨fun running => next_request_of_ok gate (f := fun x => _) (graphCmd_cancel idle named running),
      fun ended => next_request_of_ok gate (f := fun x => _) (graphCmd_release idle named ended)⟩
  · intro s path gid cookie nodePart g n ⟨gate, idle⟩ named running listed barrier inside waits fresh
    exact next_request_of_ok gate (f := fun x => _)
      (graphCmd_arrive idle (Sys.arriveAt_of_barrier named running listed barrier inside waits fresh))

/-! ## Images -/

theorem Sys.loadComplete_of_image {s : Sys} {st : Stores} {host : Dma} {l : GraphLoad} {rest : List GraphLoad} {b : Bulk}
    {data : List Byte} (first : s.graphs.loads = l :: rest) (region : s.region l.path l.handle l.length = .ok b)
    (read : regionRead st l.path b l.length host = .ok data)
    (good : imageCheck data none (s.modGraphs fun g => { g with loads := rest }) = none) :
    let x := s.modGraphs fun g => { g with loads := rest }
    s.loadComplete st host =
      ((x.acceptGraph data).2.done .graph l.path [(0, BitVec.ofNat 32 (x.acceptGraph data).1)]).settle := by
  have kept : (s.modGraphs fun g => { g with loads := rest }).region l.path l.handle l.length = .ok b := region
  simp only [Sys.loadComplete, first, kept, read, good]

/-- A packet of a flow that is at hand is checked against its context, acted on and consumed, and the grant that is due goes. -/
theorem Sys.inbound_of_found {s : Sys} {core : Nat} {d : Delivery} {act : Nat → Sys → Sys} {i : Nat} {f : Flow} {u : Sys}
    (whenFull : Sys) (found : s.findFlow d.pkt.sgei d.pkt.flow false = some (i, f)) (cached : s.isCached core i = true)
    (accepted : (s.touch core i).flowAccepts i d = (true, u)) :
    s.inbound core d act whenFull = ((act i u).grantIfDue i).consume d := by
  simp only [Sys.inbound, found, Sys.withContext_of_isCached cached, accepted]
  rfl

theorem Sys.submitData_of_taken {s t u : Sys} {core : Nat} {d : Delivery} {i : Nat} {f : Flow}
    (taken : s.takeMessage core (fun m => m != 2 && m != 4 && m != 5) = some (d, t)) (chunk : d.pkt.mtype = 1)
    (found : t.findFlow d.pkt.sgei d.pkt.flow false = some (i, f)) (cached : t.isCached core i = true)
    (accepted : (t.touch core i).flowAccepts i d = (true, u)) :
    s.submitData core = ((u.stage core d).grantIfDue i).consume d := by
  simp only [Sys.submitData, taken, Sys.submitDataWith, if_pos chunk]
  exact Sys.inbound_of_found s found cached accepted

theorem Sys.submitCommit_of_image {s t : Sys} {core : Nat} {d : Delivery} {x : Staging} {b : List Byte}
    (taken : s.takeMessage core (fun m => m == 2) = some (d, t))
    (staged : t.graphs.stagings.find? (Staging.is core d.pkt.sgei (wordAt d.pkt.payload 4)) = some x)
    (whole : x.image (beAt d.pkt.payload 8 4) = some b) (crc : crc32c b = wordAt d.pkt.payload 12)
    (good : imageCheck b (some (x.jtag, !x.mixed && x.jtag == d.pkt.jtag)) (t.modGraphs fun g =>
      { g with stagings := g.stagings.filter fun x => !x.is core d.pkt.sgei (wordAt d.pkt.payload 4) }) = none) :
    let u := t.modGraphs fun g =>
      { g with stagings := g.stagings.filter fun x => !x.is core d.pkt.sgei (wordAt d.pkt.payload 4) }
    let v := (u.acceptGraph b).2
    s.submitCommit core =
      ((v.originate core (v.graphPkt d.pkt.sgei (u.acceptGraph b).1 d.pkt.jtag d.pkt.jgen 3 (wordAt d.pkt.payload 4) 0 0
        [])).consume d).settle := by
  simp only [Sys.submitCommit, taken, staged, whole, if_pos crc, good]

/-- Settles O18: an image that is pulled, a chunk that is staged and a commit. -/
theorem graphImagesRun : Obligations.GraphImagesRun := by
  refine ⟨?_, ?_, ?_⟩
  · intro s host l rest b data first region read x good
    exact next_onSys (Sys.loadComplete_of_image first region read good)
  · intro s core d t u i f taken chunk found cached accepted
    exact next_onSys (Sys.submitData_of_taken taken chunk found cached accepted)
  · intro s core d t x b taken staged whole crc u good v
    exact next_onSys (Sys.submitCommit_of_image taken staged whole crc good)

/-! ## Messages and deadlines -/

section
variable {s : Sys}

theorem Sys.arriveMsg_of_ok {t u : Sys} {core : Nat} {d : Delivery} (taken : s.takeMessage core (fun m => m == 4) = some (d, t))
    (arrived : t.arriveAt (beAt d.pkt.payload 0 4 % 1024) (wordAt d.pkt.payload 4) (beAt d.pkt.payload 8 2)
      (beAt d.pkt.payload 10 2) = .ok u) : s.arriveMsg core = u.consume d := by
  simp only [Sys.arriveMsg, taken, arrived]

theorem Sys.cancelMsg_of_own {t : Sys} {core : Nat} {d : Delivery} {g : Graph}
    (taken : s.takeMessage core (fun m => m == 5) = some (d, t))
    (named : t.named (beAt d.pkt.payload 0 4 % 1024) (wordAt d.pkt.payload 4) = some g)
    (own : g.st = .running ∧ g.jtag = d.pkt.jtag ∧ g.jgen = d.pkt.jgen) :
    s.cancelMsg core = (t.cancelGraph (beAt d.pkt.payload 0 4 % 1024)).consume d := by
  simp only [Sys.cancelMsg, taken, named, if_pos own]

theorem Sys.stagingTimeout_of_staged {core : Nat} {sgei cookie : Word} {x : Staging}
    (staged : s.graphs.stagings.find? (Staging.is core sgei cookie) = some x) :
    s.stagingTimeout core sgei cookie =
      ((s.toMono (x.since + 100000000)).modGraphs fun g =>
        { g with stagings := g.stagings.filter fun y => !y.is core sgei cookie }).tally itemStagingDropped 0 := by
  simp only [Sys.stagingTimeout, staged]

section
variable {gid i : Nat} {g : Graph} {n : Node} (graph : s.graph gid = some g) (node : s.node gid i = some n)
  (running : g.st = .running)
include graph node running

theorem Sys.waitDue_of_wait (wait : n.kind.toNat = kWait) (open' : n.st = .ready ∨ n.st = .running) (time : s.clk.valid = true) :
    let ahead := (BitVec.ofNat 32 (n.a 351 320) - s.now).toNat
    s.waitDue gid i = ((s.advance (if ahead ≤ 2 ^ 31 then ahead else 0)).finishNode gid i false).settle := by
  simp only [Sys.waitDue, graph, node, if_pos (And.intro running (And.intro wait (And.intro open' time)))]

theorem Sys.starved_of_ready (ready : n.st = .ready) (limited : g.waitLim ≠ 0) :
    s.starved gid i = ((s.toExt (n.readyExt + BitVec.ofNat 64 (g.waitLim * 1000000))).failNode gid i graphStarved).settle := by
  simp only [Sys.starved, graph, node, if_pos (And.intro running (And.intro ready limited))]

end

theorem Sys.autorelease_of_ended {gid : Nat} {g : Graph} {i : Interval} (graph : s.graph gid = some g) (auto : g.autoRel = true)
    (ended : g.ended = some i) : s.autorelease gid = (s.toEnd i).freeGraph gid := by
  obtain ⟨⟩ := g
  cases auto
  cases ended
  simp only [Sys.autorelease, graph]

end

/-- Settles O19: each message and each deadline. -/
theorem graphMessagesAndTimersRun : Obligations.GraphMessagesAndTimersRun := by
  refine ⟨?_, ?_, ?_, ?_, ?_⟩
  · exact fun s core d t u taken arrived => next_onSys (Sys.arriveMsg_of_ok taken arrived)
  · exact fun s core d t g taken named running tag gen => next_onSys (Sys.cancelMsg_of_own taken named ⟨running, tag, gen⟩)
  · intro s core sgei cookie x staged
    refine ⟨{ s with sys := s.sys.stagingTimeout core.toNat sgei cookie }, rfl, rfl, rfl, ?_⟩
    dsimp only
    rw [Sys.stagingTimeout_of_staged staged, Sys.tally]
    exact ⟨by rw [Sys.count_graphs, Sys.modGraphs_graphs, Sys.toMono_graphs], by rw [Sys.count_clk, Sys.modGraphs_clk],
      by rw [Sys.count_out, Sys.modGraphs_out, Sys.toMono_out]⟩
  · intro s gid node g n graph listed running
    exact ⟨fun wait open' time => next_onSys (Sys.waitDue_of_wait graph listed running wait open' time),
      fun ready limited => next_onSys (Sys.starved_of_ready graph listed running ready limited)⟩
  · exact fun s gid g i graph auto ended => next_onSys (Sys.autorelease_of_ended graph auto ended)

end Sys2Proof.Machine
end

section
/-! The control cycle (17 R504): what comes before the READY part leaves the start-up state alone. -/

namespace Sys2Proof.Machine

section
variable (s : Sys)

theorem Sys.boot_faultUnit (c : Word) (u : Nat) (d : List Word) : (s.faultUnit c u d).boot = s.boot := by
  simp [Sys.faultUnit, Sys.fault, boot_sent.notify]

theorem Sys.boot_tellDies (b : List Byte) : (s.tellDies b).boot = s.boot := by
  refine foldl_keeps Sys.boot (fun t d => ?_) _ s
  split
  · rfl
  · unfold Sys.sendControl
    split
    · rfl
    · exact boot_sent.cross t _

theorem Sys.boot_correct (off : Int) : (s.correct off).boot = s.boot := by
  unfold Sys.correct Sys.nameStep
  dsimp only
  repeat' split
  all_goals simp [Sys.boot_tellDies]

theorem Sys.boot_chooseSource : s.chooseSource.boot = s.boot := by
  unfold Sys.chooseSource Sys.dictCheck Sys.enterHoldover
  dsimp only
  repeat' split
  all_goals rfl

theorem Sys.boot_timeCycle : s.timeCycle.boot = s.boot := by
  unfold Sys.timeCycle Sys.sendTime
  dsimp only
  repeat' split
  all_goals simp [Sys.boot_tellDies, Sys.boot_correct, Sys.boot_chooseSource, Sys.reference, Sys.slew]

theorem Sys.boot_newCycle : s.newCycle.boot = s.boot := by
  have stretched (us : Nat) : (s.stretch us).boot = s.boot := by
    unfold Sys.stretch
    split
    · rfl
    · simp only [Sys.modPorts_boot, Sys.modGraphs_boot, Sys.modBc_boot, Sys.modColl_boot, Sys.modFlows_boot, Sys.modFwd_boot]
  simp only [Sys.newCycle, Sys.modClk_boot, Sys.modMem_boot, Sys.modSw_boot, Sys.modFwd_boot, Sys.modCnt_boot, stretched]

theorem Sys.boot_spareRow (k row addr : Nat) : (s.spareRow k row addr).boot = s.boot := by
  have logged (t : Sys) (n : BitVec 64) (d : List Word) : (t.log Config.memErrorCode 0x05 k 0 2 n d).boot = t.boot :=
    boot_sent.log t _ _ _ _ _ _ _
  unfold Sys.spareRow
  generalize BitVec.ofNat 64 addr = a
  generalize regionAt (regionSizes s.mem.alloc) 0 addr * 2 ^ 24 + k * 2 ^ 16 = d
  dsimp only
  split
  · rfl
  · split
    · rw [logged, boot_sent.jrnl, boot_sent.nv]
    · split
      · rfl
      · rw [Sys.boot_faultUnit, Sys.modStack, boot_sent.mem]

theorem Sys.boot_correctable (addr : Nat) : (s.correctable addr).boot = s.boot := by
  unfold Sys.correctable
  dsimp only
  split
  · rw [Sys.boot_spareRow]
    rfl
  · rfl

theorem Sys.boot_fineEvent (e : FineEvent) (n : Nat) : (s.fineEvent e n).boot = s.boot := by
  cases e with
  | hbmCorrected a => exact foldl_keeps Sys.boot (fun t _ => t.boot_correctable a.toNat) _ s
  | sramCorrected u => exact boot_sent.count s 0 u.toNat 0 n
  | slot p => exact boot_sent.event s _ _ _ _
  | creditClock p => exact boot_sent.event s _ _ _ _
  | corrected p => exact boot_sent.event s _ _ _ _
  | vatClock c => exact boot_sent.event s _ _ _ _

theorem Sys.boot_takeCycle (m : CycleInput) : (s.takeCycle m).boot = s.boot := by
  unfold Sys.takeCycle
  exact (foldl_keeps (f := fun a e => Sys.fineEvent e.1 e.2 a) Sys.boot (fun t e => t.boot_fineEvent e.1 e.2) m.fine
    (s.takeReadings m)).trans rfl

end

/-- The module when a control cycle has taken its settings, its correction and its readings. -/
def Sys.cycleTaken (m : CycleInput) (s : Sys) : Sys :=
  ((s.toExt (s.dueOnce 17 s.clk.firstCycle s.clk.lastCycle s.clk.ranCycle)).newCycle.timeCycle).takeCycle m

theorem Sys.boot_cycleTaken (s : Sys) (m : CycleInput) : (s.cycleTaken m).boot = s.boot := by
  rw [Sys.cycleTaken, Sys.boot_takeCycle, Sys.boot_timeCycle, Sys.boot_newCycle, Sys.toExt_boot]

/-- The part of a control cycle that runs in READY only. -/
def Sys.cycleReady (m : CycleInput) (t : Sys) : Sys :=
  let v := (List.range 4).foldl (fun a c => a.movePoint c) t.stackCheck
  let w := (List.range 20).foldl (fun a i => (a.warn (.die i)).warn (.stack i)) v
  let x := (if w.hearth.change then w.applyProfile else w).hearthCycle m
  (x.takeCodewords m.codewords).fenceCtxs.pruneFenced.settle

theorem Sys.controlCycle_eq (s : Sys) (m : CycleInput) :
    s.controlCycle m =
      if s.boot.mode = .off ∨ s.boot.mode = .held then s
      else if (s.cycleTaken m).boot.mode ≠ .ready then s.cycleTaken m else (s.cycleTaken m).cycleReady m := by
  unfold Sys.controlCycle Sys.cycleTaken Sys.cycleReady
  dsimp only

theorem Sys.controlCycle_of_ready {s : Sys} (ready : s.boot.mode = .ready) (m : CycleInput) :
    s.controlCycle m = (s.cycleTaken m).cycleReady m := by
  rw [Sys.controlCycle_eq, Sys.boot_cycleTaken, if_neg (by simp [ready]), if_neg (by simp [ready])]

/-- Settles O36: the module stays READY up to the second part of the cycle, which then runs. -/
theorem controlCycleRuns : Obligations.ControlCycleRuns := by
  intro s m ready t
  refine ⟨?_, next_onSys ?_⟩
  · rw [Sys.boot_takeCycle, Sys.boot_timeCycle, Sys.boot_newCycle, Sys.toExt_boot, ready]
  · rw [Sys.controlCycle_of_ready ready]
    unfold Sys.cycleReady Sys.cycleTaken
    dsimp only [t]

end Sys2Proof.Machine
end

section
/-! Counter actions, samples, records and bandwidth windows (20 R588-R603). -/

namespace Sys2Proof.Machine

/-! ## CTRL and ATACT -/

theorem Sys.writeAtact (s : Sys) {path : Path} {v : Word} (low : v.toNat ≤ 3) :
    s.writeCounterCtl path 2 v =
      .ok (s.modCnt fun c => { c with atAct := BitVec.ofNat 2 v.toNat, armed := v != 0, atExt := s.extOf c.atTime }) :=
  if_neg (by omega)

/-! ## COUNTER_ACTION_APPLY -/

/-- The oldest action of CTRL runs while no armed one is due. -/
theorem Sys.counterApply_of_queued {s : Sys} {a : CtrAction} {due : Word64} {rest : List (CtrAction × Word64)}
    (queued : s.cnt.actions = (a, due) :: rest) (idle : s.cnt.armed = false ∨ s.clk.valid = false) :
    s.counterApply = ((s.toExt due).modCnt fun c => { c with actions := rest }).counterAct a := by
  have unarmed : (s.cnt.armed && s.clk.valid) = false := by
    rcases idle with free | free <;> simp [free]
  have dropped : ((s.toExt due).modCnt fun c => { c with actions := c.actions.drop 1 }) =
      (s.toExt due).modCnt fun c => { c with actions := rest } := by
    simp only [Sys.modCnt, Sys.toExt_cnt, queued, List.drop_one, List.tail_cons]
  simp only [Sys.counterApply, queued, unarmed, List.head?_cons, Sys.runQueued, dropped]

theorem Sys.counterApply_of_armed {s : Sys} (none : s.cnt.actions = []) (armed : s.cnt.armed = true)
    (time : s.clk.valid = true) :
    s.counterApply =
      ((s.toExt (boundaryAt s.cnt.atExt)).modCnt fun c => { c with armed := false }).counterAct (armedAction s.cnt.atAct) := by
  simp only [Sys.counterApply, none, armed, time, List.head?_nil, Bool.and_self, Sys.runArmed]

/-! ## Samples and records -/

/-- An overflow that no other one precedes reloads its counter and records the packet with a free SKID. -/
theorem Sys.sample_of_overflow {s : Sys} {unit : BitVec 8} {ctr : BitVec 3} {port : Port} (header : List Byte)
    (inside : unit.toNat ≤ 20) (collier : unit.toNat = 20 → ctr.toNat < 4)
    (on : fld (getD (s.unitCtr unit.toNat).cfg ctr.toNat 0) 31 31 = 1)
    (sampled : fld (getD (s.unitCtr unit.toNat).cfg ctr.toNat 0) 29 29 = 1) (runs : s.cnt.frozen = false)
    (paid : (s.unitCtr unit.toNat).owed = []) :
    let t := s.modCnt fun x =>
      { x with
        unit := modify x.unit unit.toNat {} fun u => { u with pc := put u.pc ctr.toNat (getD u.reload ctr.toNat 0) } }
    ∃ skid, skid ≤ 64 ∧
      s.sample unit.toNat ctr.toNat port.toNat header =
        t.draw.2.addSample
          { num := s.cnt.sampleNext, time := s.now, unit, port
            event := BitVec.ofNat 8 (fld (getD (s.unitCtr unit.toNat).cfg ctr.toNat 0) 23 16), ctr
            header := withSkid header skid } := by
  intro t
  have taken : ¬ (20 < unit.toNat ∨ (unit.toNat = 20 ∧ 4 ≤ ctr.toNat) ∨
      fld (getD (s.unitCtr unit.toNat).cfg ctr.toNat 0) 31 31 = 0 ∨
      fld (getD (s.unitCtr unit.toNat).cfg ctr.toNat 0) 29 29 = 0 ∨ s.cnt.frozen = true) := by
    rw [on, sampled, runs]
    simp
    omega
  have reloaded : (s.modCnt fun x =>
      { x with
        unit := modify x.unit unit.toNat {} fun u =>
          if u.owed.contains ctr.toNat then { u with owed := u.owed.filter fun i => i != ctr.toNat }
          else { u with pc := put u.pc ctr.toNat (getD u.reload ctr.toNat 0) } }) = t := by
    have owed : (getD s.cnt.unit unit.toNat {}).owed = [] := paid
    simp only [t, Sys.modCnt, modify, owed, List.contains_nil, Bool.false_eq_true, if_false]
  refine ⟨Config.sampleSkid t.draw.1 % 65, by omega, ?_⟩
  simp only [Sys.sample, if_neg taken, reloaded, BitVec.ofNat_toNat, BitVec.setWidth_eq]
  rfl

/-- A read of the record that SEQ names answers it and moves SEQ on. -/
theorem readRecord_of_found {α : Type} {s : Sys} {path : Path} {index sub : Nat} {find : Nat → Option α} {bytes : α → List Byte}
    {r : α} (found : find (s.selOf path index sub).toNat = some r) :
    readRecord path index sub (fun n => (find n).map bytes) s =
      .ok (bytes r, s.setSel path index sub (s.selOf path index sub + 1)) := by
  simp only [readRecord, found, Option.map_some]

theorem requestR_of_ok {path : Path} {index block sub : Nat} {op : Sys → Except Word (List Byte × Sys)} {s t : Sys}
    {b : List Byte} (gate : s.gate path index false = .opened) (carried : op s = .ok (b, t)) :
    requestR path index block sub op s = t.answer path (s.sessionOpen path) (dictAddr index block sub) 1 0 b := by
  simp only [requestR, gate, carried]

/-! ## BANDWIDTH_WINDOW_CLOSE -/

section
variable (s : Sys)

theorem Sys.ports_windowClose :
    s.windowClose.ports.port =
      s.ports.port.map fun e =>
        (e.1, { e.2 with
          rxBw := e.2.rxBytes * 1000 / 2 ^ (17 + s.cnt.wexp) % 2 ^ 32
          txBw := e.2.txBytes * 1000 / 2 ^ (17 + s.cnt.wexp) % 2 ^ 32, rxBytes := 0, txBytes := 0 }) := by
  simp only [Sys.windowClose, Sys.modClk_ports, Sys.modCnt_ports, Sys.modPorts_ports, Sys.toExt_ports]

theorem Sys.cnt_windowClose :
    let t := s.toExt (s.dueOnce (17 + s.cnt.wexp) s.clk.firstWindow s.clk.lastWindow s.clk.ranWindow)
    s.windowClose.cnt =
      { s.cnt with
        wend := t.now, wflags := BitVec.ofNat 2 (b2n t.clk.stepInWindow + 2 * b2n (!t.clk.valid)), wexp := s.nv.wexp } := by
  simp only [Sys.windowClose, Sys.modClk_cnt, Sys.modCnt_cnt, Sys.modPorts_cnt, Sys.toExt_cnt, Sys.toExt_nv]

theorem Sys.stepInWindow_windowClose : s.windowClose.clk.stepInWindow = false := by
  simp only [Sys.windowClose, Sys.modClk_clk]

theorem Sys.nv_windowClose : s.windowClose.nv = s.nv := by
  simp only [Sys.windowClose, Sys.modClk_nv, Sys.modCnt_nv, Sys.modPorts_nv, Sys.toExt_nv]

theorem Sys.sw_windowClose : s.windowClose.sw = s.sw := by
  simp only [Sys.windowClose, Sys.modClk_sw, Sys.modCnt_sw, Sys.modPorts_sw, Sys.toExt_sw]

end

/-- Settles O39: what each write queues or arms, the action that runs, the records and the window. -/
theorem counterAndSampleCommandsRun : Obligations.CounterAndSampleCommandsRun := by
  refine ⟨?_, ?_, ?_, ?_, ?_, ?_, ?_, fun s => ?_⟩
  · intro s path gate
    exact ⟨next_request_of_ok gate (f := fun x => _) rfl, next_request_of_ok gate (f := fun x => _) rfl,
      next_request_of_ok gate (f := fun x => _) rfl, next_request_of_ok gate (f := fun x => _) rfl,
      fun may => next_request_of_ok gate (f := fun x => _) (Sys.writeCtrl_5_of_mayClearSaturating may)⟩
  · exact fun s path value gate low => next_request_of_ok gate (f := fun x => _) (s.sys.writeAtact low)
  · exact fun s a due rest queued idle => next_onSys (Sys.counterApply_of_queued queued idle)
  · exact fun s none armed time => next_onSys (Sys.counterApply_of_armed none armed time)
  · intro s unit ctr port header c inside collier on sampled runs paid t
    obtain ⟨skid, small, sampled⟩ := Sys.sample_of_overflow (port := port) header inside collier on sampled runs paid
    exact ⟨skid, small, next_onSys sampled⟩
  · exact fun s path r gate found => next_onSys (requestR_of_ok gate (readRecord_of_found found))
  · exact fun s path r gate found => next_onSys (requestR_of_ok gate (readRecord_of_found found))
  · exact ⟨{ s with sys := s.sys.windowClose }, rfl, rfl, rfl, s.sys.ports_windowClose, s.sys.cnt_windowClose,
      s.sys.stepInWindow_windowClose, s.sys.nv_windowClose, s.sys.sw_windowClose⟩

end Sys2Proof.Machine
end

section
/-! The Collier's failover and standby, and the journal (18 R524-R526, R555-R559). -/

namespace Sys2Proof.Machine

/-! ## Failover -/

/-- The standby takes over for a cause: what R525 asks of it. -/
def Sys.takenOver (cause : BitVec 2) (s : Sys) : Sys :=
  let real := cause != 3
  let t := s.modBoot fun b =>
    { b with
      cd2Active := !b.cd2Active, standby := if real then 2 else 1
      pair0Failed := b.pair0Failed || (real && !b.cd2Active), pair2Failed := b.pair2Failed || (real && b.cd2Active) }
  let v := ((((t.modNv fun n => { n with failovers := n.failovers + 1, fcause := cause }).jrnl).endSession .eth).endSession
    .inband).moveServices
  (if real then v.faultUnit faultCollierFailover 20 [] else v).planOverdue

section
variable {s : Sys} (on : s.collierOn = true)
include on

theorem Sys.failover_of_standby (standby : s.boot.standby ≠ 2) (cause : BitVec 2) :
    s.failover cause.toNat = s.takenOver cause := by
  have real : (cause.toNat != 3) = (cause != 3) := by
    simp only [bne, beq_eq_decide, ← BitVec.toNat_inj]
    rfl
  simp only [Sys.failover, on, if_neg standby, real, BitVec.ofNat_toNat, BitVec.setWidth_eq]
  rfl

theorem Sys.failover_of_none (gone : s.boot.standby = 2) {cause : Nat} (real : cause ≠ 3) : s.failover cause = s.losePairs := by
  simp [Sys.failover, on, gone, real]

theorem Sys.loseStandby_of_standby (standby : s.boot.standby ≠ 2) :
    s.loseStandby =
      (s.modBoot fun b =>
        { b with
          standby := 2, pair0Failed := b.pair0Failed || b.cd2Active, pair2Failed := b.pair2Failed || !b.cd2Active }).faultUnit
        faultCollierStandby 20 [] := by
  have there : ¬ ((!s.collierOn || s.boot.standby == 2) = true) := by simpa [on] using standby
  rw [Sys.loseStandby, if_neg there]

theorem Sys.standbyReady_of_syncing (syncing : s.boot.standby = 1) :
    s.standbyReady = s.modBoot fun b => { b with standby := 0 } := by
  simp [Sys.standbyReady, on, syncing]

end

theorem Sys.collierOn_of_boot {s t : Sys} (same : t.boot = s.boot) : t.collierOn = s.collierOn := by
  rw [Sys.collierOn, Sys.collierOn, same]

/-- A written failover is answered first, and the standby then takes over. -/
theorem exec_failover_of_ready {s : State} {path : Path} (gate : s.sys.gate path 0x1030 true = .opened)
    (on : s.sys.collierOn = true) (ready : s.sys.boot.standby = 0) :
    exec (.failover path 1) s = .next { s with sys := (replied path 0x1030 0 3 id s.sys).takenOver 3 } := by
  have allowed : s.sys.failoverAllowed 1 = .ok s.sys := by
    simp [Sys.failoverAllowed, ready]
  have boot : (replied path 0x1030 0 3 id s.sys).boot = s.sys.boot := boot_sent.answer _ _ _ _ _ _ _
  refine next_onSys ?_
  rw [requestThen, gate]
  simp only [allowed]
  exact Sys.failover_of_standby ((Sys.collierOn_of_boot boot).trans on) (by rw [boot, ready]; decide) 3

/-! ## The journal -/

section
variable {s : Sys}

theorem Sys.flush_of_room (works : s.jr.failed = false) (room : s.jr.used + s.jr.buffered ≤ 33554432) :
    s.flush true =
      s.modJr fun j =>
        { j.setHalf j.onB { j.half j.onB with recs := (j.half j.onB).recs ++ j.buf } with
          buf := [], used := j.used + j.buffered, buffered := 0, lastFlush := s.now } := by
  have fits : ¬ ((!true) = true ∨ journalHalf < s.jr.used + s.jr.buffered) := by
    rw [journalHalf]
    simpa using room
  rw [Sys.flush, works, if_neg Bool.false_ne_true, if_neg fits]

theorem Sys.flush_of_failure (works : s.jr.failed = false) :
    s.flush false = (s.modJr fun j => { j with failed := true }).faultUnit faultJournal 20 [] := by
  simp [Sys.flush, Sys.journalFail, works]

end

theorem Journal.half_setHalf_same (j : Journal) (b : Bool) (h : Half) : (j.setHalf b h).half b = h := by cases b <;> rfl

theorem Journal.half_setHalf_other (j : Journal) (b : Bool) (h : Half) : (j.setHalf (!b) h).half b = j.half b := by
  cases b <;> rfl

/-- The module when the other half has taken the snapshot of a compaction, of `bytes` bytes. -/
def Sys.compacted (bytes : Nat) (s : Sys) : Sys :=
  ((s.modNv fun n =>
    { n with
      log := n.log.drop s.nv.logExcess, dropped := n.dropped + BitVec.ofNat 32 s.nv.logExcess
      epoch := n.epoch + 1 }).draw.2).modJr fun j =>
    { (j.setHalf j.onB {}).setHalf (!j.onB)
        { valid := true, epoch := s.nv.epoch + 1
          recs := [{ seq := j.seq, bytes
                     content := { s.nv with
                       log := s.nv.log.drop s.nv.logExcess, dropped := s.nv.dropped + BitVec.ofNat 32 s.nv.logExcess
                       epoch := s.nv.epoch + 1 } }] } with
      onB := !j.onB, seq := j.seq + 1, buf := [], buffered := 0, used := bytes, lastFlush := s.now }

theorem Sys.compact_of_full {s : Sys} (full : 25165824 ≤ s.jr.used) (works : s.jr.failed = false)
    (power : s.powerWarned = false) (on : s.collierOn = true) :
    ∃ bytes, bytes ≤ journalHalf ∧ s.compact true = s.compacted bytes := by
  have runs : ¬ (s.jr.used < 25165824 ∨ s.jr.failed = true ∨ s.powerWarned = true ∨ (!s.collierOn) = true) := by
    simpa [works, power, on] using full
  refine ⟨(Config.freeWord (s.modNv fun n =>
      { n with
        log := n.log.drop s.nv.logExcess, dropped := n.dropped + BitVec.ofNat 32 s.nv.logExcess
        epoch := n.epoch + 1 }).draw.1).toNat % (journalHalf + 1), Nat.lt_succ_iff.mp (Nat.mod_lt _ (Nat.succ_pos _)), ?_⟩
  rw [Sys.compact, if_neg runs]
  rfl

/-- The half that a compaction leaves active holds what is live as one record, and the other one is erased. -/
theorem Journal.half_compacted (j : Journal) (h : Half) (used : Nat) (last : Word) (n : Word64) :
    let k : Journal :=
      { (j.setHalf j.onB {}).setHalf (!j.onB) h with
        onB := !j.onB, seq := n, buf := [], buffered := 0, used, lastFlush := last }
    k.half (!j.onB) = h ∧ k.half j.onB = {} := by
  cases onB : j.onB <;> exact ⟨rfl, rfl⟩

/-- Settles O40: each event of the pairs, the flush, the compaction part by part, and the armed clear. -/
theorem collierAndJournalRun : Obligations.CollierAndJournalRun := by
  refine ⟨?_, ?_, ?_, ?_, ?_, ?_, ?_, ?_⟩
  · intro s turn on standby
    exact ⟨fun cause => next_onSys (Sys.failover_of_standby on standby cause),
      next_onSys (Sys.failover_of_standby on standby 1), fun path gate ready => exec_failover_of_ready gate on ready⟩
  · intro s on gone t u
    have real {cause : BitVec 2} (other : cause ≠ 3) : cause.toNat ≠ 3 := fun same =>
      other (BitVec.eq_of_toNat_eq same)
    exact ⟨fun cause other => next_onSys (Sys.failover_of_none on gone (real other)),
      next_onSys (Sys.failover_of_none on gone (by decide))⟩
  · exact fun s on standby => next_onSys (Sys.loseStandby_of_standby on standby)
  · exact fun s on syncing => next_onSys (Sys.standbyReady_of_syncing on syncing)
  · exact fun s on works room => next_onSys (f := fun t => if t.collierOn then t.flush true else t)
      ((if_pos on).trans (Sys.flush_of_room works room))
  · exact fun s on works => next_onSys (f := fun t => if t.collierOn then t.flush false else t)
      ((if_pos on).trans (Sys.flush_of_failure works))
  · intro s full works power on extra
    obtain ⟨bytes, fits, compacted⟩ := Sys.compact_of_full full works power on
    obtain ⟨live, erased⟩ := Journal.half_compacted s.sys.jr _ bytes s.sys.now (s.sys.jr.seq + 1)
    exact ⟨_, next_onSys compacted, rfl, rfl, rfl, rfl, live, erased, rfl, rfl, fits, rfl, rfl, rfl, rfl⟩
  · intro s path gate quiet
    refine next_request_of_ok gate (f := fun x => _) ?_
    rw [Sys.writeJournal, if_neg (by decide), quiet]
    rfl

end Sys2Proof.Machine
end

section
/-! Full resets, Kindling's phases, shutdown, trials, and partial resets of port dies (21 R605-R620). -/

namespace Sys2Proof.Machine

/-! ## Full resets -/

theorem Sys.cool_modBoot (s : Sys) (f : Boot → Boot) : (s.modBoot f).cool = s.cool := rfl

section
variable {s : Sys}

theorem Sys.resetPin_of_warm {cause : BitVec 4} (millivolts : Nat) (known : cause.toNat ≤ 7) (other : cause ≠ 0)
    (powered : s.boot.mode ≠ .off) (free : s.boot.mode ≠ .thermal ∨ s.cool = true) :
    s.resetPin cause millivolts =
      (((((s.modBoot fun b => { b with resetN := false }).flush true).startKindling cause).modNv fun n =>
        { n with boots := n.boots + 1 }).jrnl).flush true := by
  have takes : ¬ (7 < cause.toNat ∨ (cause ≠ 0 ∧ s.boot.mode = .off)) := by
    rintro (big | ⟨-, off⟩)
    · omega
    · exact powered off
  have cools : ¬ ((decide (s.boot.mode = .thermal) && !s.cool) = true) := by
    rcases free with free | free <;> simp [free]
  rw [Sys.resetPin, if_neg takes]
  dsimp only
  rw [if_neg other]
  refine (if_neg cools).trans ?_
  rw [Sys.fullReset, if_neg other]

/-- Power-on starts when the input, MATE_N and the coolant allow it, and waits otherwise (22 R635). -/
theorem Sys.resetPin_of_power_on (millivolts : Nat) :
    let r := ((s.modBoot fun b => { b with resetN := false }).dark .held).modBoot fun b =>
      { b with waiting := true, lowInput := decide (millivolts < 41000) }
    let t := r.toMono (match r.boot.mateFell with | some t => t + 100000000 | none => 0)
    s.resetPin 0 millivolts =
      if 41000 ≤ millivolts ∧ r.boot.mateHigh = false ∧ r.coolantFlows = true then
        (((t.startKindling 0).modNv fun n => { n with boots := n.boots + 1 }).jrnl).flush true
      else r := by
  intro r t
  have waits : (r.boot.waiting && !r.boot.mateHigh && !r.boot.lowInput && r.coolantFlows) =
      decide (41000 ≤ millivolts ∧ r.boot.mateHigh = false ∧ r.coolantFlows = true) := by
    have low : r.boot.lowInput = decide (millivolts < 41000) := rfl
    have waiting : r.boot.waiting = true := rfl
    rw [low, waiting]
    rw [Bool.eq_iff_iff]
    simp
    tauto
  have reset : s.resetPin 0 millivolts = r.tryPowerOn := rfl
  rw [reset, Sys.tryPowerOn, waits]
  simp only [decide_eq_true_eq]
  rfl

theorem Sys.resetHold_of_on (powered : s.boot.mode ≠ .off) (free : s.boot.mode ≠ .thermal ∨ s.cool = true) :
    s.resetHold = ((s.modBoot fun b => { b with resetN := true, stopped := false }).flush true).dark .held := by
  refine if_neg ?_
  rintro (off | ⟨hot, warm⟩)
  · exact powered off
  · rcases free with free | free
    · exact free hot
    · exact absurd free (by simpa [Sys.cool_modBoot] using warm)

end

/-! ## Kindling's phases -/

section
variable {s : Sys} (kindling : s.boot.mode = .kindling) (left : s.boot.bothLost = false)
include kindling left

theorem Sys.phaseEnd_of_kindling (r : KindlingResult) :
    s.phaseEnd r =
      (match s.boot.phase.toNat with
      | 1 => s.romPhase r
      | 2 => s.journalPhase r
      | 3 => s.feltPhase r
      | 4 => s.memoryPhase r
      | 5 => s.servicesPhase
      | _ => s).squelchStuck := by
  exact if_neg (by simp [kindling, left])

end

theorem Sys.boot_sourceChange (s : Sys) : s.sourceChange.boot = s.boot := by
  unfold Sys.sourceChange Sys.dictCheck
  dsimp only
  repeat' split
  all_goals simp [Sys.boot_chooseSource]

theorem Sys.hearth_chooseSource (s : Sys) : s.chooseSource.hearth = s.hearth := by
  unfold Sys.chooseSource Sys.dictCheck Sys.enterHoldover
  dsimp only
  repeat' split
  all_goals rfl

theorem Sys.hearth_sourceChange (s : Sys) : s.sourceChange.hearth = s.hearth := by
  unfold Sys.sourceChange Sys.dictCheck
  dsimp only
  repeat' split
  all_goals simp [Sys.hearth_chooseSource]

theorem Sys.boot_servicesPhase (s : Sys) :
    s.servicesPhase.boot =
      { s.boot with
        mode := .ready, phase := 6, tready := BitVec.ofNat 32 s.clk.mono, readyAt := s.clk.mono, warm := true
        standby := if s.boot.standby = 2 then 2 else 1 } := by
  rw [Sys.servicesPhase, Sys.boot_sourceChange]
  rfl

theorem Sys.lastGrant_servicesPhase (s : Sys) : s.servicesPhase.hearth.lastGrant = s.clk.mono := by
  rw [Sys.servicesPhase, Sys.hearth_sourceChange]
  rfl

/-- A module that has become READY is not stuck in a phase. -/
theorem Sys.squelchStuck_of_ready {s : Sys} (ready : s.boot.mode = .ready) : s.squelchStuck = s := by
  rw [Sys.squelchStuck, if_neg (by simp [ready])]

/-! ## Commands, watchdogs and partial resets -/

section
variable {s : Sys}

theorem Sys.resetAllowed_of_cool (free : s.boot.mode ≠ .thermal ∨ s.cool = true) : s.resetAllowed 1 = .ok s := by
  have cools : ¬ (s.boot.mode = .thermal ∧ ((1 : Word) = 2 ∨ (!s.cool) = true)) := by
    rcases free with free | free <;> simp [free]
  rw [Sys.resetAllowed, if_neg (by decide), if_neg cools]

theorem Sys.resetAllowed_shutdown (cold : s.boot.mode ≠ .thermal) : s.resetAllowed 2 = .ok s := by
  rw [Sys.resetAllowed, if_neg (by decide), if_neg (by simp [cold])]

/-- A write that is accepted is answered, and what follows the answer is done (18 R535). -/
theorem next_requestThen_of_ok {s : State} {path : Path} {index block sub : Nat} {op : Sys → Except Word Sys} {next : Sys → Sys}
    (gate : s.sys.gate path index true = .opened) (carried : op s.sys = .ok s.sys) :
    (.next (s.onSys (requestThen path index block sub op next)) : Host.Outcome State Fault Refusal) =
      .next { s with sys := next (replied path index block sub id s.sys) } := by
  refine next_onSys ?_
  simp only [requestThen, gate, carried]
  rfl

theorem Sys.collierWatchdog_of_lost (lost : s.boot.bothLost = true) (auto : s.nv.autoReset = true) :
    s.collierWatchdog = if s.sec.onTrial then s.failTrial 5 else s.fullReset 5 := by
  rw [Sys.collierWatchdog, lost, auto]
  rfl

theorem Sys.trialTimeout_of_trial (trial : s.sec.onTrial = true) (kindling : s.boot.mode = .kindling) :
    s.trialTimeout = (s.toMono 300000000000).failTrial s.boot.cause := by
  rw [Sys.trialTimeout, trial, kindling]
  rfl

theorem Sys.failTrial_eq (cause : BitVec 4) :
    s.failTrial cause =
      let t := s.modSec fun c => { c with fails := s.sec.fails + 1 }
      if s.sec.fails + 1 < 2 then t.fullReset cause
      else ((t.modSec fun c => { c with next := !c.running, trial := false }).fullReset 6).faultUnit faultSecFallback 20 [] := rfl

/-- A port die that is up enters partial reset. -/
theorem Sys.resetDie_of_up {d : Nat} (on : s.diesOn = true) (up : s.dieUp d = true) (own : Bool) :
    s.resetDie d own =
      (let up := if own then (s.diePorts d).filter fun p => (s.port p).st == .up else []
       let t := up.foldl (fun t p => t.healthEvent p)
         (s.modBoot fun b => { b with dieResets := put b.dieResets d s.clk.mono })
       let v := up.foldl
         (fun v p =>
           v.linkReport p Config.dieResetCause.toNat faultLinkDown true (widthMask (s.pcfg p).width) (s.port p).active)
         ((t.dropLinks d).dropDie d)
       let w := v.clearDie d
       if w.noPortDie then w.fullReset 7 else (w.loseIsolated 20).settle) :=
  if_neg (by simp [on, up])

theorem Sys.resetDie_by_command {d : Nat} (on : s.diesOn = true) (up : s.dieUp d = true) :
    s.resetDie d false =
      (let u := (((s.modBoot fun b => { b with dieResets := put b.dieResets d s.clk.mono }).dropLinks d).dropDie d).clearDie d
       if u.noPortDie then u.fullReset 7 else (u.loseIsolated 20).settle) := by
  simp only [Sys.resetDie_of_up on up, Bool.false_eq_true, if_false, List.foldl_nil]

theorem Sys.writeDieReset_of_quiet {v : Word} (inside : v.toNat ≤ 15) (on : s.diesOn = true) (quiet : s.dieQuiet v.toNat = true)
    (none : s.boot.dieResets = []) (up : s.dieUp v.toNat = true) : s.writeDieReset v = .ok (s.resetDie v.toNat false) := by
  have known : ¬ 15 < v.toNat := by omega
  have free : ¬ ((!s.boot.dieResets.isEmpty) = true ∨ (!s.dieUp v.toNat) = true) := by simp [none, up]
  rw [Sys.writeDieReset, if_neg known, if_neg (by simp [on]), if_neg (by simp [quiet]), if_neg free]

theorem Sys.resetOverdue_of_reset {d t : Nat} (reset : get? s.boot.dieResets d = some t) :
    s.resetOverdue d = (((s.toMono (t + 10000000)).loseDie d).loseIsolated 20).settle := by
  simp only [Sys.resetOverdue, reset]

end

/-- Settles O42: each reset, phase, shutdown and trial, and the partial reset of a port die from its start to its end. -/
theorem resetsAndDieResetsRun : Obligations.ResetsAndDieResetsRun := by
  refine ⟨?_, ?_, ?_, ?_, ?_, ?_, ?_, ?_, ?_, ?_, ?_, ?_⟩
  · exact fun s cause mv known other powered free => next_onSys (Sys.resetPin_of_warm mv known other powered free)
  · exact fun s mv => next_onSys (Sys.resetPin_of_power_on mv)
  · intro s r kindling left
    have ends := Sys.phaseEnd_of_kindling kindling left r
    refine ⟨fun phase => next_onSys ?_, fun phase => next_onSys ?_, fun phase => next_onSys ?_, fun phase => next_onSys ?_,
      fun phase => ?_⟩
    · rw [ends, phase]; rfl
    · rw [ends, phase]; rfl
    · rw [ends, phase]; rfl
    · rw [ends, phase]; rfl
    · have boot := s.sys.boot_servicesPhase
      have ready : s.sys.phaseEnd r = s.sys.servicesPhase := by
        rw [ends, phase]
        exact Sys.squelchStuck_of_ready (congrArg Boot.mode boot)
      exact ⟨_, next_onSys ready, rfl, rfl, congrArg Boot.mode boot, congrArg Boot.phase boot, congrArg Boot.warm boot,
        congrArg Boot.tready boot, s.sys.lastGrant_servicesPhase⟩
  · exact fun s path gate free => next_requestThen_of_ok gate (Sys.resetAllowed_of_cool free)
  · exact fun s path gate cold => next_requestThen_of_ok gate (Sys.resetAllowed_shutdown cold)
  · exact fun s lost auto => next_onSys (Sys.collierWatchdog_of_lost lost auto)
  · intro s trial kindling t
    refine next_onSys ((Sys.trialTimeout_of_trial trial kindling).trans ?_)
    rw [Sys.failTrial_eq, Sys.toMono_sec]
  · exact fun s powered free => next_onSys (Sys.resetHold_of_on powered free)
  · intro s path value gate inside on quiet none up d
    refine next_request_of_ok gate ((Sys.writeDieReset_of_quiet inside on quiet none up).trans ?_)
    rw [Sys.resetDie_by_command on up]
  · exact fun s die on up => next_onSys (Sys.resetDie_of_up on up true)
  · intro s die felt resetting
    exact next_onSys (if_neg (by rw [Option.isNone_eq_false_iff.mpr resetting]; decide))
  · exact fun s die t reset => next_onSys (Sys.resetOverdue_of_reset reset)

end Sys2Proof.Machine
end

section
/-! Runs of sub-indices that the mailbox and the messages carry, bulk transfer regions and staging (18 R533-R546). -/

namespace Sys2Proof.Machine

/-! ## A run that fits -/

section
variable {q : Req} {m : Stores × Sys} (opened : m.2.gate q.path q.index q.write = .opened) (some_ : 1 ≤ q.count)
  (few : q.count ≤ 192) (fits : (runBytes q.index q.block q.sub q.count).1 ≤ runSpace q.path)
include opened some_ few fits

theorem Req.run_of_read (read : q.write = false) :
    q.run m = q.finish (readRun q.path q.index q.block q.sub q.count { mach := m }) := by
  have whole : ¬ (q.count = 0 ∨ 192 < q.count ∨ runSpace q.path < (runBytes q.index q.block q.sub q.count).1) := by omega
  rw [read] at opened
  simp only [Req.run, read, opened, if_neg whole, Bool.false_eq_true, false_and, if_false]

theorem Req.run_of_write (write : q.write = true)
    (values : q.path ≠ .pcie → q.data.length = (runBytes q.index q.block q.sub q.count).1) :
    q.run m = q.finish (writeRun q.path q.index q.block q.world q.sub q.count q.data { mach := m }) := by
  have whole : ¬ (q.count = 0 ∨ 192 < q.count ∨ runSpace q.path < (runBytes q.index q.block q.sub q.count).1) := by omega
  have formed : ¬ (q.write = true ∧ q.path ≠ .pcie ∧ (runBytes q.index q.block q.sub q.count).2 = true ∧
      q.data.length ≠ (runBytes q.index q.block q.sub q.count).1) :=
    fun ⟨_, message, _, other⟩ => other (values message)
  simp only [Req.run, opened, if_neg whole, if_neg formed, if_pos write]

end

theorem runBytes_one {index block sub : Nat} {x : Span} (placed : place index block sub = .ok x) :
    runBytes index block sub 1 = (x.packed, true) := by
  simp only [runBytes, placed, Nat.add_zero]

theorem le_runSpace {path : Path} {n : Nat} (small : n ≤ 768) : n ≤ runSpace path := by
  unfold runSpace
  split <;> omega

/-! ## The mailbox -/

theorem reservedOp_of_shows {q : Req} {op : Nat} {m : Stores × Sys} (opened : m.2.shows .pcie q.index) :
    reservedOp q op m =
      (m.1, ((m.2.reqError .pcie mgtReserved 1 q.addr op).respond .pcie false 0 q.addr 0 mgtReserved []).event 20 0x43 0 1) := by
  simp only [reservedOp, opened]

/-- GO is ignored and counted while the mailbox is busy (18 R535). -/
theorem Sys.go_of_busy {m : Stores × Sys} (up : m.2.pcieUp = true) (busy : m.2.mg.mbState = 1) (index : Nat) (write : Bool)
    (f : Stores × Sys → Stores × Sys) :
    Sys.go index write f m = (m.1, m.2.modMg fun x => { x with goIgnored := x.goIgnored + 1 }) := by
  simp only [Sys.go, up, busy, Bool.not_true, Bool.false_eq_true, if_false, if_true]

theorem next_onMach {s : State} {f : Stores × Sys → Stores × Sys} {r : Stores × Sys} (h : f (s.stores, s.sys) = r) :
    (.next (s.onMach f) : Host.Outcome State Fault Refusal) = .next { s with stores := r.1, sys := r.2 } := by
  rw [State.onMach, h]

section
variable {s : State} (up : s.sys.pcieUp = true) (idle : s.sys.mg.mbState ≠ 1) (served : s.sys.boot.bothLost = false)
  (index : BitVec 16) (block sub count : BitVec 8)
include up idle served

theorem exec_mailboxRead_of_reserved {op : BitVec 8} (notRead : op ≠ 1) (notWrite : op ≠ 2)
    (opened : (s.sys.mailbox index block sub op count).shows .pcie index.toNat) :
    exec (.mailboxRead op index block { sub, count }) s =
      .next { s with
        sys :=
          (((s.sys.mailbox index block sub op count).reqError .pcie mgtReserved 1
            (dictAddr index.toNat block.toNat sub.toNat) op.toNat).respond .pcie false 0
            (dictAddr index.toNat block.toNat sub.toNat) 0 mgtReserved []).event 20 0x43 0 1 } := by
  have neither : ¬ (op = 1 ∨ op = 2) := fun h => h.elim notRead notWrite
  refine next_onMach (r := (s.stores, _)) ((Sys.go_of_idle up idle served _ _ _).trans ((if_neg neither).trans ?_))
  exact reservedOp_of_shows opened

end

/-! ## One sub-index -/

theorem exec_registerWrite_eq {path : Path} {index : BitVec 16} {block sub : BitVec 8} {value : List Byte} {world : World}
    {s : State} (served : path = .pcie → s.sys.pcieUp = true ∧ s.sys.mg.mbState ≠ 1 ∧ s.sys.boot.bothLost = false) :
    exec (.registerWrite path index block sub value world) s =
      .next (s.onMach fun m =>
        Req.run
          { path, write := true, index := index.toNat, block := block.toNat, sub := sub.toNat, count := 1, data := value
            world, prot := m.2.sessionOpen path } (World.enter world m)) := by
  refine congrArg Host.Outcome.next (State.onMach_congr ?_)
  split
  · next mailbox =>
    obtain ⟨up, idle, someone⟩ := served mailbox
    exact Sys.go_of_idle up idle someone _ _ _
  · rfl

/-! ## Messages of the Ethernet path -/

/-- A well-formed message outside a session makes the request that it spells (18 R537). -/
theorem DictMsg.handle_of_plain {d : DictMsg} {world : World} {m : Stores × Sys} (formed : d.ok = true)
    (bare : d.trailer = none) (closed : m.2.sessionOpen .eth = false)
    (opened : m.2.gate .eth (fld d.addr 31 16) (d.mtype == 2) = .opened) :
    d.handle .eth world m = (d.req .eth world false).run m := by
  simp [DictMsg.handle, DictMsg.check, opened, formed, bare, closed]

/-! ## Regions (18 R546) -/

theorem Sys.defineSlot_free {path : Path} {s : Sys}
    (unused : s.bulkUsed (bulkKey path (fld (s.selOf path 0x1020 0) 3 0)) = false) (none_ : (s.bulkOf path).kind = 0) :
    s.defineSlot path 1 =
      .ok (s.modBulk path fun y => { y with gen := y.gen + 1, handle := 0, dKind := 0, dAddr := 0, dLen := 0 }) := by
  simp [Sys.defineSlot, unused, none_]

theorem regionOk_iff {b : Bulk} :
    regionOk b = true ↔
      (((b.addr.toNat % 64 = 0 ∧ b.len.toNat % 64 = 0) ∧ 64 ≤ b.len.toNat) ∧ b.len.toNat ≤ 268435456) ∧
        (b.kind = 1 ∨ b.addr.toNat + b.len.toNat ≤ 16777216) := by
  simp only [regionOk, Bool.and_eq_true, Bool.or_eq_true, beq_iff_eq, decide_eq_true_eq]
  rfl

theorem Sys.defineSlot_named {path : Path} {s : Sys}
    (unused : s.bulkUsed (bulkKey path (fld (s.selOf path 0x1020 0) 3 0)) = false) (some_ : (s.bulkOf path).kind ≠ 0)
    (own : (s.bulkOf path).kind = 3 ↔ path ≠ .pcie) (region : regionOk (s.bulkOf path) = true) :
    s.defineSlot path 1 =
      .ok (s.modBulk path fun y =>
        { y with
          gen := y.gen + 1, handle := handleOf path (fld (s.selOf path 0x1020 0) 3 0) (y.gen + 1), dKind := y.kind
          dAddr := y.addr, dLen := y.len.toNat, era := s.mg.era }) := by
  have ofPath : ¬ (((s.bulkOf path).kind = 3) ≠ (path ≠ .pcie)) := not_not.2 (propext own)
  simp only [Sys.defineSlot, ne_eq, not_true_eq_false, if_false, unused, Bool.false_eq_true, if_neg some_, region,
    Bool.not_true]
  exact if_neg ofPath

/-! ## Staging words (18 R545) -/

theorem bytesAt_toBe (n w : Nat) : bytesAt (toBe n w) 0 n = toBe n w := by
  simpa using bytesAt_zero_append (a := toBe n w) (r := []) (length_toBe n w)

theorem wordsToBytes_one (w : Word) : wordsToBytes [w] = toBe 4 w.toNat := List.append_nil _

theorem place_data0 : place 0x1020 0 0x40 = .ok { lo := 0x40, hi := 0xFF, width := 4, acc := .rw } := by decide

/-- The run over DATA0 that STAGING_DATA_ACCESS of one word asks for. -/
def stagingReq (path : Path) (write : Bool) (data : List Byte) (s : State) : Req :=
  { path, write, index := 0x1020, block := 0, sub := 0x40, count := 1, data, prot := s.sys.sessionOpen path }

theorem runBytes_data0 : runBytes 0x1020 0 0x40 1 = (4, true) := runBytes_one place_data0

section
variable {path : Path} (message : path ≠ .pcie) {m : Stores × Sys}
  (room : (getD m.2.mg.offset (pathNum path) 0).toNat + 4 ≤ 16777216)
include message room

theorem stagingPut_of_room {b : List Byte} :
    stagingPut path 0 b m =
      .ok (m.1.modStaging m.2.mg.era path fun x =>
        Memory.writeN x (getD m.2.mg.offset (pathNum path) 0).toNat (bytesAt b 0 4), m.2) := by
  have within : ¬ stagingBytes < (getD m.2.mg.offset (pathNum path) 0).toNat + 4 := not_lt.2 room
  simp only [stagingPut, if_neg message, Nat.mul_zero, Nat.add_zero, if_neg within]

theorem writeRun_data0 {w : Word} {world : World} :
    writeRun path 0x1020 0 world 0x40 1 (toBe 4 w.toNat) { mach := m } =
      { mach :=
          (m.1.modStaging m.2.mg.era path fun x =>
            Memory.writeN x (getD m.2.mg.offset (pathNum path) 0).toNat (toBe 4 w.toNat), m.2)
        done := 1 } := by
  have padded : padOk { lo := 0x40, hi := 0xFF, width := 4, acc := .rw } (toBe 4 w.toNat) = true := rfl
  have put : writeSub path 0x1020 0 0x40 (toBe 4 w.toNat) world m =
      .ok ((m.1.modStaging m.2.mg.era path fun x =>
        Memory.writeN x (getD m.2.mg.offset (pathNum path) 0).toNat (toBe 4 w.toNat), m.2), id) := by
    have stored := stagingPut_of_room message room (b := toBe 4 w.toNat)
    rw [bytesAt_toBe] at stored
    exact congrArg (Except.map fun r => (r, id)) stored
  have value : bytesAt (toBe 4 w.toNat) 0 (Span.packed { lo := 0x40, hi := 0xFF, width := 4, acc := .rw }) =
      toBe 4 w.toNat := bytesAt_toBe 4 _
  simp only [writeRun, place_data0, value, padded, put]
  rfl

theorem readRun_data0 :
    readRun path 0x1020 0 0x40 1 { mach := m } =
      { mach := m, done := 1
        data := Memory.readN (m.1.stagingOf m.2.mg.era path) (getD m.2.mg.offset (pathNum path) 0).toNat 4 } := by
  have within : ¬ stagingBytes < (getD m.2.mg.offset (pathNum path) 0).toNat + 4 := not_lt.2 room
  have word : stagingWord path 0 m =
      .ok (Memory.readN (m.1.stagingOf m.2.mg.era path) (getD m.2.mg.offset (pathNum path) 0).toNat 4) := by
    simp only [stagingWord, Nat.mul_zero, Nat.add_zero, if_neg within]
  have got : readSub path 0x1020 0 0x40 m =
      .ok (Memory.readN (m.1.stagingOf m.2.mg.era path) (getD m.2.mg.offset (pathNum path) 0).toNat 4, m.2) :=
    (if_neg message).trans (congrArg (Except.map fun b => (b, m.2)) word)
  simp only [readRun, place_data0, got]
  rfl

end

/-- The stores after one word was written into the staging of a path: it is there, and every other byte stands. -/
theorem Stores.staging_word_written (st : Stores) (era : Nat) (path : Path) (o w : Nat) :
    let t := st.modStaging era path fun x => Memory.writeN x o (toBe 4 w)
    Memory.readN (t.stagingOf era path) o 4 = toBe 4 w ∧
      ∀ (q : Path) (a : Nat), q ≠ path ∨ a < o ∨ o + 4 ≤ a →
        Memory.read (t.stagingOf era q) a = Memory.read (st.stagingOf era q) a := by
  intro t
  have same : t.stagingOf era path = Memory.writeN (st.stagingOf era path) o (toBe 4 w) :=
    Stores.stagingOf_modStaging_same ..
  refine ⟨?_, fun q a outside => ?_⟩
  · rw [same]
    simpa using Memory.readN_writeN (st.stagingOf era path) o (toBe 4 w)
  · by_cases own : q = path
    · subst own
      rw [same]
      refine Memory.read_writeN_outside ?_
      rw [length_toBe]
      rcases outside with other | below | above
      · exact absurd rfl other
      · omega
      · omega
    · rw [Stores.stagingOf_modStaging_ne _ _ _ _ _ own]

/-- Settles O44: a run that fits is carried out, GO of a reserved or a busy mailbox is not, a region is named or freed, and a
staging word goes to OFFSET. -/
theorem runsAndStagingRun : Obligations.RunsAndStagingRun := by
  unfold Obligations.RunsAndStagingRun
  refine ⟨?_, ?_, ?_, ?_, ?_, ?_, ?_, ?_, ?_, ?_, ?_⟩
  · intro s index block sub count up idle served m q opened some_ few fits r
    rw [exec_mailboxRead_of_idle up idle served]
    exact next_onMach (Req.run_of_read (q := q) (m := (s.stores, m)) opened some_ few fits rfl)
  · intro s op index block sub count up idle served notRead notWrite m a opened
    exact exec_mailboxRead_of_reserved up idle served index block sub count notRead notWrite opened
  · intro s op index block sub count data world up busy t
    exact ⟨next_onMach (Sys.go_of_busy up busy _ _ _), next_onMach (Sys.go_of_busy up busy _ _ _)⟩
  · intro s index block sub count data world up idle served m e q opened some_ few fits r
    rw [exec_mailboxWrite_of_idle up idle served]
    exact next_onMach (Req.run_of_write (q := q) (m := e) opened some_ few fits rfl fun other => absurd rfl other)
  · intro s path index block sub value world x served e opened placed small values q r
    have need : runBytes index.toNat block.toNat sub.toNat 1 = (x.packed, true) := runBytes_one placed
    rw [exec_registerWrite_eq served]
    refine next_onMach (Req.run_of_write (q := q) (m := e) opened (Nat.le_refl 1) (show 1 ≤ 192 by decide) ?_ rfl ?_)
    · exact (congrArg Prod.fst need).trans_le (le_runSpace small)
    · exact fun message => (values message).trans (congrArg Prod.fst need).symm
  · intro s b d of kind formed bare closed opened q r
    have start : onMessage (fun t => t != 2 && (t != 0x10 || !isFrame (.eth b))) (.eth b) { dma := .failed, cmis := none }
        (s.stores, s.sys) = d.handle .eth { dma := .failed, cmis := none } (s.stores, s.sys) := by
      have kind' : beAt b 0 1 = 1 := by rw [of] at kind; exact kind
      simp [onMessage, kind', of]
    refine next_onMach (start.trans (DictMsg.handle_of_plain formed bare closed ?_))
    rw [kind]
    exact opened
  · intro s b d world of kind formed e bare closed opened q r
    have start : onMessage (fun t => t == 2) (.eth b) world e = d.handle .eth world e := by
      have kind' : beAt b 0 1 = 2 := by rw [of] at kind; exact kind
      simp [onMessage, kind', of]
    refine next_onMach (start.trans (DictMsg.handle_of_plain formed bare closed ?_))
    rw [kind]
    exact opened
  · intro s path gate slot b unused none_
    exact next_request_of_ok gate (Sys.defineSlot_free unused none_)
  · intro s path gate slot b unused some_ own addr len least most ends
    exact next_request_of_ok gate
      (Sys.defineSlot_named unused some_ own (regionOk_iff.2 ⟨⟨⟨⟨addr, len⟩, least⟩, most⟩, ends⟩))
  · intro s path w message gate o room
    obtain ⟨there, others⟩ := Stores.staging_word_written s.stores s.sys.mg.era path o w.toNat
    have run := Req.run_of_write (m := (s.stores, s.sys))
      (q := stagingReq path true (toBe 4 w.toNat) s) gate (Nat.le_refl 1) (show 1 ≤ 192 by decide)
      ((congrArg Prod.fst runBytes_data0).trans_le (le_runSpace (by decide))) rfl
      fun _ => (length_toBe 4 _).trans (congrArg Prod.fst runBytes_data0).symm
    dsimp only [stagingReq] at run
    rw [writeRun_data0 message room] at run
    rw [← wordsToBytes_one] at run
    exact ⟨_, next_onMach run, rfl, by rw [wordsToBytes_one]; rfl, rfl, by rw [wordsToBytes_one]; exact there, by
      rw [wordsToBytes_one]; exact others⟩
  · intro s path message gate o room
    have run := Req.run_of_read (m := (s.stores, s.sys))
      (q := stagingReq path false [] s) gate (Nat.le_refl 1) (show 1 ≤ 192 by decide)
      ((congrArg Prod.fst runBytes_data0).trans_le (le_runSpace (by decide))) rfl
    dsimp only [stagingReq] at run
    rw [readRun_data0 message room] at run
    have moved : (stagingReq path false [] s).moveOffset 1 s.sys = s.sys.modMg fun m =>
          { m with offset := modify m.offset (pathNum path) 0 fun x => x + 4 } := by
      simp [Req.moveOffset, stagingReq, message]
    dsimp only [stagingReq] at moved
    simp only [Req.finish, moved, if_true] at run
    exact next_onMach run

end Sys2Proof.Machine
end

section
/-! The commands of the table object: entries, groups and spray sets, reads and walks, and long commands (04 R116-R147). -/

namespace Sys2Proof.Machine

/-! ## The command word -/

/-- The fields of a command word fit it. -/
structure TblCmd.Fits (c : TblCmd) : Prop where
  op : 1 ≤ c.op ∧ c.op < 0x12
  index : c.index < 65536

theorem bits_tblWord {op v m sc i : Nat} (opLt : op < 256) (vLe : v ≤ 1) (mLe : m ≤ 1) (scLt : sc < 16) (iLt : i < 65536) :
    let n := op * 2 ^ 24 + v * 2 ^ 23 + m * 2 ^ 20 + sc * 2 ^ 16 + i
    n < 2 ^ 32 ∧ bits n 31 24 = op ∧ bits n 23 23 = v ∧ bits n 22 21 = 0 ∧ bits n 20 20 = m ∧ bits n 19 16 = sc ∧
      bits n 15 0 = i := by
  intro n
  simp only [bits, n]
  refine ⟨?_, ?_, ?_, ?_, ?_, ?_, ?_⟩ <;> omega

section
variable {c : TblCmd} (fits : c.Fits)
include fits

theorem TblCmd.fld_word :
    fld c.word 31 24 = c.op ∧ fld c.word 23 23 = b2n c.ver ∧ fld c.word 22 21 = 0 ∧ fld c.word 20 20 = b2n c.mode ∧
      fld c.word 19 16 = c.scope.toNat ∧ fld c.word 15 0 = c.index := by
  have flag : ∀ b : Bool, b2n b ≤ 1 := by decide
  obtain ⟨whole, fields⟩ := bits_tblWord (fits.op.2.trans (by decide)) (flag c.ver) (flag c.mode) c.scope.isLt fits.index
  have word : c.word.toNat =
      c.op * 2 ^ 24 + b2n c.ver * 2 ^ 23 + b2n c.mode * 2 ^ 20 + c.scope.toNat * 2 ^ 16 + c.index := by
    rw [TblCmd.word, BitVec.toNat_ofNat]
    exact Nat.mod_eq_of_lt whole
  simpa only [fld, word] using fields

theorem TblCmd.of_word : TblCmd.of c.word = c := by
  obtain ⟨op, ver, _, mode, scope, index⟩ := fld_word fits
  have flag : ∀ b : Bool, (b2n b == 1) = b := by decide
  simp only [TblCmd.of, op, ver, mode, scope, index, flag, BitVec.ofNat_toNat, BitVec.setWidth_eq]

/-- Bits 22 and 21 of a command word are reserved. -/
theorem TblCmd.reserved_word : fld c.word 22 21 = 0 := (fld_word fits).2.2.1

end

/-! ## A command that passes the checks -/

/-- What the table object asks of a command before it starts it (04 R116, R129, R142, R144). -/
structure TblCmd.Admitted (c : TblCmd) (path : Path) (s : Sys) : Prop where
  idle : (s.slot .table path).busy = false
  args : tblArgs c (s.slot .table path).arg = none
  state : tblStateOk c.op (s.verState c.ver) = true
  copied : (tblWrites c.op && s.copying c.ver) = false
  flushed : (s.tab.long.any fun l =>
    l.blocks c.ver c.op ((s.slot .table path).arg 1) (slotsOf (s.slot .table path).arg)
      { valid := fld ((s.slot .table path).arg 0) 31 31 == 1, ports := bitmapOf (s.slot .table path).arg }) = false

section
variable {c : TblCmd} {path : Path} {s : Sys} (fits : c.Fits) (ok : c.Admitted path s) {st : Stores} {dma : Dma}
include fits ok

theorem tableCmd_of_admitted :
    tableCmd path c.word st dma s =
      if 13 ≤ c.op ∧ c.op ≤ 16 then .ok (startLong path c c.word (s.slot .table path).arg st dma s)
      else
        let r := tblRun c (s.slot .table path).arg (s.slot .table path).cursor (s.tab.seqVer c.ver)
        .ok (if r.2.2.1 = tblFull then ((s.accept .table path c.word []).takeUp path r).countFull c.ver
          else (s.accept .table path c.word []).takeUp path r) := by
  have op : ¬ (c.op = 0 ∨ 0x12 ≤ c.op ∨ fld c.word 22 21 ≠ 0) := by
    obtain ⟨⟨_, _⟩, _⟩ := id fits
    rw [TblCmd.reserved_word fits]
    omega
  obtain ⟨idle, args, state, copied, flushed⟩ := ok
  simp only [tableCmd, TblCmd.of_word fits, idle, Bool.false_eq_true, if_false, if_neg op, args, state, copied, flushed,
    Bool.not_true]

theorem tableCmd_single (single : ¬ (13 ≤ c.op ∧ c.op ≤ 16)) {r : TblWrite × Word × Word × List (Nat × Word)}
    (run : tblRun c (s.slot .table path).arg (s.slot .table path).cursor (s.tab.seqVer c.ver) = r) (placed : r.2.2.1 = 0) :
    tableCmd path c.word st dma s = .ok ((s.accept .table path c.word []).takeUp path r) := by
  have notFull : ¬ r.2.2.1 = tblFull := by rw [placed]; decide
  rw [tableCmd_of_admitted fits ok, if_neg single]
  simp only [run, if_neg notFull]

theorem tableCmd_long (long : 13 ≤ c.op ∧ c.op ≤ 16) :
    tableCmd path c.word st dma s = .ok (startLong path c c.word (s.slot .table path).arg st dma s) := by
  rw [tableCmd_of_admitted fits ok, if_pos long]

end

/-! ## A command of a row -/

/-- An operation that brings no route result, spray set or group is not kept out by a flush (04 R142). -/
theorem LongJob.blocks_of_plain {op : Nat} (plain : op ≠ 1 ∧ op ≠ 5 ∧ op ≠ 9 ∧ op ≠ 11) (l : LongJob) (ver : Bool)
    (result : Word) (slots : List (BitVec 16)) (g : Group) : l.blocks ver op result slots g = false := by
  obtain ⟨one, five, nine, eleven⟩ := plain
  simp [LongJob.blocks, one, five, nine, eleven]

theorem any_blocks_of_plain {op : Nat} (plain : op ≠ 1 ∧ op ≠ 5 ∧ op ≠ 9 ∧ op ≠ 11) (jobs : List LongJob) (ver : Bool)
    (result : Word) (slots : List (BitVec 16)) (g : Group) :
    jobs.any (fun l => l.blocks ver op result slots g) = false :=
  List.any_eq_false.2 fun l _ => Bool.not_eq_true _ ▸ l.blocks_of_plain plain ver result slots g

theorem any_blocks_entry {op : Nat} (entry : op = 1 ∨ op = 5) (jobs : List LongJob) (ver : Bool) (result : Word)
    (slots : List (BitVec 16)) (g : Group) :
    jobs.any (fun l => l.blocks ver op result slots g) = jobs.any fun l => l.blocks ver op result [] {} := by
  rcases entry with rfl | rfl <;> simp [LongJob.blocks]

theorem any_blocks_group (jobs : List LongJob) (ver : Bool) (result : Word) (slots : List (BitVec 16)) (g : Group) :
    jobs.any (fun l => l.blocks ver 9 result slots g) = jobs.any fun l => l.blocks ver 9 0 [] g := by
  simp [LongJob.blocks]

theorem any_blocks_spray (jobs : List LongJob) (ver : Bool) (result : Word) (slots : List (BitVec 16)) (g : Group) :
    jobs.any (fun l => l.blocks ver 11 result slots g) = jobs.any fun l => l.blocks ver 11 0 slots {} := by
  simp [LongJob.blocks]

/-- A version that a write is open to is FREE or ACTIVE, which every single-item write and flush asks for. -/
theorem tblStateOk_of_open {op : Nat} {st : BitVec 2} (writable : st = 0 ∨ st = 1) (partly : ¬ (op = 14 ∨ op = 15)) :
    tblStateOk op st = true := by
  rcases writable with rfl | rfl <;> simp [tblStateOk, partly]

/-- Reads and walks are carried out in any state of the version (04 R137). -/
theorem tblStateOk_of_read {op : Nat} {st : BitVec 2} (read : tblWrites op = false) : tblStateOk op st = true := by
  have partly : ¬ (op = 14 ∨ op = 15) := by
    rintro (rfl | rfl) <;> exact absurd read (by decide)
  simp [tblStateOk, partly, read]

section
variable {path : Path} {s : State} {c : TblCmd} {args : List (Nat × Word)}

theorem TblCmd.admitted_write (opened : s.sys.tableOpen path c.ver) (partly : ¬ (c.op = 14 ∨ c.op = 15))
    (good : tblArgs c ((s.sys.setArgs .table path args).slot .table path).arg = none)
    (flushed : (s.sys.tab.long.any fun l =>
      l.blocks c.ver c.op (((s.sys.setArgs .table path args).slot .table path).arg 1)
        (slotsOf ((s.sys.setArgs .table path args).slot .table path).arg)
        { valid := fld (((s.sys.setArgs .table path args).slot .table path).arg 0) 31 31 == 1
          ports := bitmapOf ((s.sys.setArgs .table path args).slot .table path).arg }) = false) :
    c.Admitted path (s.sys.setArgs .table path args) := by
  obtain ⟨_, idle, writable, still⟩ := opened
  refine ⟨?_, good, tblStateOk_of_open writable partly, ?_, flushed⟩
  · rw [Sys.busy_setArgs]
    exact idle
  · have still' : (s.sys.setArgs .table path args).copying c.ver = false := still
    rw [still', Bool.and_false]

theorem next_table_single (fits : c.Fits) (single : ¬ (13 ≤ c.op ∧ c.op ≤ 16)) (gate : s.sys.takes path 0x3020)
    (ok : c.Admitted path (s.sys.setArgs .table path args)) {write : TblWrite} {status : Word} {res : List (Nat × Word)}
    (run : tblRun c ((s.sys.setArgs .table path args).slot .table path).arg
      ((s.sys.setArgs .table path args).slot .table path).cursor (s.sys.tab.seqVer c.ver) = (write, status, 0, res))
    (st : Stores) (dma : Dma) :
    (.next (s.onSys (tableReq path c args st dma)) : Host.Outcome State Fault Refusal) =
      .next { s with sys := replied path 0x3020 0 0 (tableTaken path c args write status 0 res) s.sys } :=
  next_request_of_ok gate (f := tableTaken path c args write status 0 res) (tableCmd_single fits ok single run rfl)

theorem TblCmd.admitted_read (idle : (s.sys.slot .table path).busy = false) (read : tblWrites c.op = false)
    (good : tblArgs c ((s.sys.setArgs .table path args).slot .table path).arg = none) :
    c.Admitted path (s.sys.setArgs .table path args) := by
  refine ⟨?_, good, tblStateOk_of_read read, by rw [read, Bool.false_and], any_blocks_of_plain ?_ ..⟩
  · rw [Sys.busy_setArgs]
    exact idle
  · refine ⟨?_, ?_, ?_, ?_⟩ <;> intro op <;> rw [op] at read <;> exact absurd read (by decide)

end

/-- The command word of an operation that names no index, mode or scope. -/
theorem TblCmd.fits_op {op : Nat} (small : 1 ≤ op ∧ op < 0x12) (ver : Bool) :
    (TblCmd.mk op ver false 0 0).Fits :=
  ⟨small, Nat.zero_lt_succ _⟩

/-! ## Entries -/

section
variable {s : State} {path : Path} {ver : Bool} (opened : s.sys.tableOpen path ver)
include opened

theorem exec_emInsert_of_placed {key result flags : Word} {p : Nat} (valid : fld flags 31 31 = 1)
    (good : resultOk result = true) (flushed : s.sys.tab.long.any (fun l => l.blocks ver 1 result [] {}) = false)
    (placed : (s.sys.tab.seqVer ver).emPlace { key, result := resultOf result } = some p) :
    exec (.emInsert path ver key result flags) s =
      .next { s with
        sys := replied path 0x3020 0 0
          (tableTaken path { op := 1, ver, mode := false, scope := 0, index := 0 } [(0, key), (1, result), (2, flags)]
            (.em ver p (some { key, result := resultOf result })) 2 0 []) s.sys } := by
  refine next_table_single (TblCmd.fits_op (by decide) ver) (by simp) opened.1
    (TblCmd.admitted_write opened (by simp) ?_ ((any_blocks_entry (.inl rfl) ..).trans ?_)) ?_ {} .failed
  · simp [tblArgs, valid, good]
  · rw [Sys.arg1_setArgs_three]
    exact flushed
  · simp only [tblRun, Sys.arg0_setArgs_three, Sys.arg1_setArgs_three, placed]

theorem admitted_emDelete (key : Word) :
    (TblCmd.mk 2 ver false 0 0).Admitted path (s.sys.setArgs .table path [(0, key)]) :=
  TblCmd.admitted_write opened (by simp) (by simp [tblArgs]) (any_blocks_of_plain (by simp) ..)

theorem exec_emDelete_of_found {key : Word} {p : Nat} {e : EmEntry}
    (found : (s.sys.tab.seqVer ver).emFind key = some (p, e)) :
    exec (.emDelete path ver key) s =
      .next { s with
        sys := replied path 0x3020 0 0
          (tableTaken path { op := 2, ver, mode := false, scope := 0, index := 0 } [(0, key)] (.em ver p none) 2 0 [])
          s.sys } := by
  refine next_table_single (TblCmd.fits_op (by decide) ver) (by simp) opened.1 (admitted_emDelete opened key) ?_ {} .failed
  simp only [tblRun, Sys.arg_setArgs_one, found]

theorem exec_emDelete_of_absent {key : Word} (absent : (s.sys.tab.seqVer ver).emFind key = none) :
    exec (.emDelete path ver key) s =
      .next { s with
        sys := replied path 0x3020 0 0
          (tableTaken path { op := 2, ver, mode := false, scope := 0, index := 0 } [(0, key)] .none 3 0 []) s.sys } := by
  refine next_table_single (TblCmd.fits_op (by decide) ver) (by simp) opened.1 (admitted_emDelete opened key) ?_ {} .failed
  simp only [tblRun, Sys.arg_setArgs_one, absent]

theorem exec_lpmInsert_of_placed {pfx result flags : Word} {p : Nat} (valid : fld flags 31 31 = 1)
    (good : resultOk result = true) (prefix_ : prefixOk pfx (fld flags 5 0) = true)
    (flushed : s.sys.tab.long.any (fun l => l.blocks ver 5 result [] {}) = false)
    (placed : (s.sys.tab.seqVer ver).lpmPlace { pfx, len := fld flags 5 0, result := resultOf result } = some p) :
    exec (.lpmInsert path ver pfx result flags) s =
      .next { s with
        sys := replied path 0x3020 0 0
          (tableTaken path { op := 5, ver, mode := false, scope := 0, index := 0 } [(0, pfx), (1, result), (2, flags)]
            (.lpm ver p (some { pfx, len := fld flags 5 0, result := resultOf result })) 2 0 []) s.sys } := by
  refine next_table_single (TblCmd.fits_op (by decide) ver) (by simp) opened.1
    (TblCmd.admitted_write opened (by simp) ?_ ((any_blocks_entry (.inr rfl) ..).trans ?_)) ?_ {} .failed
  · simp [tblArgs, valid, good, prefix_]
  · rw [Sys.arg1_setArgs_three]
    exact flushed
  · simp only [tblRun, Sys.arg0_setArgs_three, Sys.arg1_setArgs_three, Sys.arg2_setArgs_three, placed]

theorem exec_lpmDelete_of_found {pfx len : Word} {p : Nat} {e : LpmEntry} (prefix_ : prefixOk pfx (fld len 5 0) = true)
    (found : (s.sys.tab.seqVer ver).lpmFind pfx (fld len 5 0) = some (p, e)) :
    exec (.lpmDelete path ver pfx len) s =
      .next { s with
        sys := replied path 0x3020 0 0
          (tableTaken path { op := 6, ver, mode := false, scope := 0, index := 0 } [(0, pfx), (2, len)] (.lpm ver p none)
            2 0 []) s.sys } := by
  have arg0 : ((s.sys.setArgs .table path [(0, pfx), (2, len)]).slot .table path).arg 0 = pfx := by
    simp [Sys.slot_setArgs, Slot.arg, getD_put_ne]
  have arg2 : ((s.sys.setArgs .table path [(0, pfx), (2, len)]).slot .table path).arg 2 = len :=
    s.sys.arg_setArgs_last .table path [(0, pfx)] 2 len
  refine next_table_single (TblCmd.fits_op (by decide) ver) (by simp) opened.1
    (TblCmd.admitted_write opened (by simp) ?_ (any_blocks_of_plain (by simp) ..)) ?_ {} .failed
  · simp [tblArgs, arg0, arg2, prefix_]
  · simp only [tblRun, arg0, arg2, found]

end

/-- Settles O6: a row writes its ARGs and CMD, passes the checks, and the sequencer takes up its write. -/
theorem tableEntriesAreWritten : Obligations.TableEntriesAreWritten := by
  unfold Obligations.TableEntriesAreWritten
  refine ⟨?_, ?_, ?_, ?_⟩
  · intro s path ver key result flags p opened valid good flushed placed
    exact exec_emInsert_of_placed opened valid good flushed placed
  · intro s path ver key opened
    exact ⟨fun p e found => exec_emDelete_of_found opened found, fun absent => exec_emDelete_of_absent opened absent⟩
  · intro s path ver pfx result flags p opened valid good prefix_ flushed placed
    exact exec_lpmInsert_of_placed opened valid good prefix_ flushed placed
  · intro s path ver pfx len p e opened prefix_ found
    exact exec_lpmDelete_of_found opened prefix_ found

/-! ## Groups and spray sets -/

/-- Settles O7: the words of the row are the ARGs that the sequencer's write is made from. -/
theorem groupsAndSpraysAreWritten : Obligations.GroupsAndSpraysAreWritten := by
  unfold Obligations.GroupsAndSpraysAreWritten
  refine ⟨?_, ?_⟩
  · intro s path ver index valid bitmap opened arg g flushed
    refine next_table_single ⟨by simp, index.isLt⟩ (by simp) opened.1
      (TblCmd.admitted_write opened (by simp) ?_ ((any_blocks_group ..).trans flushed)) ?_ {} .failed
    · simp [tblArgs]
    · simp only [tblRun]
      rfl
  · intro s path ver index slots opened small arg flushed
    refine next_table_single ⟨by simp, index.isLt⟩ (by simp) opened.1
      (TblCmd.admitted_write opened (by simp) ?_ ((any_blocks_spray ..).trans flushed)) ?_ {} .failed
    · simp [tblArgs, small]
    · simp only [tblRun]
      rfl

/-! ## Reads and walks -/

/-- No ARG is written to a slot that has just been written. -/
theorem Sys.setArgs_nil_modSlot (o : SlotObj) (p : Path) (f : Slot → Slot) (t : Sys) :
    (t.modSlot o p f).setArgs o p [] = t.modSlot o p f := by
  have same : modify (modify t.mg.slots (slotKey o p) {} f) (slotKey o p) {} (fun sl => sl) =
      modify t.mg.slots (slotKey o p) {} f := by
    simp only [modify, getD_put_same, put_put]
  exact congrArg (fun x => { t with mg := { t.mg with slots := x } }) same

section
variable {s : State} {path : Path} (gate : s.sys.takes path 0x3020) (idle : (s.sys.slot .table path).busy = false)
include gate idle

theorem next_table_read {c : TblCmd} {args : List (Nat × Word)} (fits : c.Fits) (single : ¬ (13 ≤ c.op ∧ c.op ≤ 16))
    (read : tblWrites c.op = false)
    (good : tblArgs c ((s.sys.setArgs .table path args).slot .table path).arg = none) {status : Word}
    {res : List (Nat × Word)}
    (run : tblRun c ((s.sys.setArgs .table path args).slot .table path).arg
      ((s.sys.setArgs .table path args).slot .table path).cursor (s.sys.tab.seqVer c.ver) = (.none, status, 0, res)) :
    (.next (s.onSys (tableReq path c args {} .failed)) : Host.Outcome State Fault Refusal) =
      .next { s with sys := replied path 0x3020 0 0 (tableTaken path c args .none status 0 res) s.sys } :=
  next_table_single fits single gate (TblCmd.admitted_read idle read good) run {} .failed

theorem exec_emSearch_eq (ver : Bool) (key : Word) :
    exec (.emSearch path ver key) s =
      .next { s with
        sys := replied path 0x3020 0 0
          (match (s.sys.tab.seqVer ver).emFind key with
            | some e =>
              tableTaken path { op := 3, ver, mode := false, scope := 0, index := 0 } [(0, key)] .none 2 0 (emWords e)
            | none => tableTaken path { op := 3, ver, mode := false, scope := 0, index := 0 } [(0, key)] .none 3 0 [])
          s.sys } := by
  have good : tblArgs { op := 3, ver, mode := false, scope := 0, index := 0 }
      ((s.sys.setArgs .table path [(0, key)]).slot .table path).arg = none := by simp [tblArgs]
  cases found : (s.sys.tab.seqVer ver).emFind key with
  | some e =>
    refine next_table_read gate idle (TblCmd.fits_op (by decide) ver) (by simp) rfl good ?_
    simp only [tblRun, Sys.arg_setArgs_one, found, Option.map_some]
  | none =>
    refine next_table_read gate idle (TblCmd.fits_op (by decide) ver) (by simp) rfl good ?_
    simp only [tblRun, Sys.arg_setArgs_one, found, Option.map_none]

theorem exec_lpmSearch_eq (ver longest : Bool) {gei len : Word} (named : longest = true ∨ prefixOk gei (fld len 5 0) = true) :
    exec (.lpmSearch path ver longest gei len) s =
      .next { s with
        sys := replied path 0x3020 0 0
          (match (if longest then (s.sys.tab.seqVer ver).lpmLookup gei
              else (s.sys.tab.seqVer ver).lpmFind gei (fld len 5 0)) with
            | some e =>
              tableTaken path { op := 7, ver, mode := longest, scope := 0, index := 0 } [(0, gei), (2, len)] .none 2 0
                (lpmWords e)
            | none =>
              tableTaken path { op := 7, ver, mode := longest, scope := 0, index := 0 } [(0, gei), (2, len)] .none 3 0 [])
          s.sys } := by
  have arg0 : ((s.sys.setArgs .table path [(0, gei), (2, len)]).slot .table path).arg 0 = gei := by
    simp [Sys.slot_setArgs, Slot.arg, getD_put_ne]
  have arg2 : ((s.sys.setArgs .table path [(0, gei), (2, len)]).slot .table path).arg 2 = len :=
    s.sys.arg_setArgs_last .table path [(0, gei)] 2 len
  have good : tblArgs { op := 7, ver, mode := longest, scope := 0, index := 0 }
      ((s.sys.setArgs .table path [(0, gei), (2, len)]).slot .table path).arg = none := by
    rcases named with rfl | prefix_
    · simp [tblArgs]
    · simp [tblArgs, arg0, arg2, prefix_]
  have fits : (TblCmd.mk 7 ver longest 0 0).Fits := ⟨by simp, Nat.zero_lt_succ _⟩
  generalize found : (if longest = true then (s.sys.tab.seqVer ver).lpmLookup gei
    else (s.sys.tab.seqVer ver).lpmFind gei (fld len 5 0)) = r
  cases r with
  | some e =>
    refine next_table_read gate idle fits (by simp) rfl good ?_
    simp only [tblRun, arg0, arg2, found, Option.map_some]
  | none =>
    refine next_table_read gate idle fits (by simp) rfl good ?_
    simp only [tblRun, arg0, arg2, found, Option.map_none]

theorem exec_groupRead_eq (ver : Bool) (index : BitVec 16) :
    exec (.groupRead path ver index) s =
      .next { s with
        sys := replied path 0x3020 0 0
          (tableTaken path { op := 10, ver, mode := false, scope := 0, index := index.toNat } [] .none 2 0
            ((0, BitVec.ofNat 32 (b2n (getD (s.sys.tab.seqVer ver).groups index.toNat {}).valid * 2 ^ 31)) ::
              bitmapWords (getD (s.sys.tab.seqVer ver).groups index.toNat {}).ports)) s.sys } := by
  refine next_table_read gate idle ⟨by simp, index.isLt⟩ (by simp) rfl (by simp [tblArgs]) ?_
  simp only [tblRun]

theorem exec_sprayRead_eq (ver : Bool) {index : BitVec 16} (small : index.toNat < 16384) :
    exec (.sprayRead path ver index) s =
      .next { s with
        sys := replied path 0x3020 0 0
          (tableTaken path { op := 12, ver, mode := false, scope := 0, index := index.toNat } [] .none 2 0
            (slotWords ((s.sys.tab.seqVer ver).sprayOf index.toNat))) s.sys } := by
  refine next_table_read gate idle ⟨by simp, index.isLt⟩ (by simp) rfl (by simp [tblArgs, small]) ?_
  simp only [tblRun]

theorem exec_filterRead_eq (ver : Bool) (index : BitVec 16) :
    exec (.filterRead path ver index) s =
      .next { s with
        sys := replied path 0x3020 0 0
          (tableTaken path { op := 17, ver, mode := false, scope := 0, index := index.toNat } [] .none 2 0
            [(0, BitVec.ofNat 32 ((s.sys.tab.seqVer ver).filter index.toNat / 2 ^ 32)),
              (1, BitVec.ofNat 32 ((s.sys.tab.seqVer ver).filter index.toNat))]) s.sys } := by
  refine next_table_read gate idle ⟨by simp, index.isLt⟩ (by simp) rfl (by simp [tblArgs]) ?_
  simp only [tblRun]

/-- A walk answers the first entry at or after the cursor that the row writes to CURSOR (04 R138). -/
theorem next_nextReq {op : Nat} {ver : Bool} {cursor status : Word} {res : List (Nat × Word)} (walk : op = 4 ∨ op = 8)
    (run : tblRun { op, ver, mode := false, scope := 0, index := 0 }
      ((s.sys.modSlot .table path fun sl => { sl with cursor := cursorOf cursor }).slot .table path).arg (cursorOf cursor)
      (s.sys.tab.seqVer ver) = (.none, status, 0, res)) :
    (.next (s.onSys (nextReq path op ver cursor)) : Host.Outcome State Fault Refusal) =
      .next { s with
        sys := replied path 0x3020 0 0
          (fun x =>
            tableTaken path { op, ver, mode := false, scope := 0, index := 0 } [] .none status 0 res
              (x.modSlot .table path fun sl => { sl with cursor := cursorOf cursor })) s.sys } := by
  have small : 1 ≤ op ∧ op < 0x12 := by omega
  have plain : op ≠ 1 ∧ op ≠ 5 ∧ op ≠ 9 ∧ op ≠ 11 := by omega
  have single : ¬ (13 ≤ op ∧ op ≤ 16) := by omega
  have read : tblWrites op = false := by rcases walk with rfl | rfl <;> rfl
  have admitted : (TblCmd.mk op ver false 0 0).Admitted path
      (s.sys.modSlot .table path fun sl => { sl with cursor := cursorOf cursor }) := by
    refine ⟨?_, ?_, tblStateOk_of_read read, by simp only [read, Bool.false_and], any_blocks_of_plain plain ..⟩
    · rw [Sys.slot_modSlot]
      exact idle
    · rcases walk with rfl | rfl <;> simp [tblArgs]
  refine next_request_of_ok gate
    (f := fun x => tableTaken path { op, ver, mode := false, scope := 0, index := 0 } [] .none status 0 res
      (x.modSlot .table path fun sl => { sl with cursor := cursorOf cursor })) ?_
  rw [tableTaken, Sys.setArgs_nil_modSlot]
  refine tableCmd_single (TblCmd.fits_op small ver) admitted single ?_ rfl
  rw [Sys.slot_modSlot] at run ⊢
  exact run

end

/-- Settles O8: a read answers what the version holds behind the writes taken up, and its write is none. -/
theorem tableReadsAndWalksRun : Obligations.TableReadsAndWalksRun := by
  unfold Obligations.TableReadsAndWalksRun
  refine ⟨?_, ?_⟩
  · intro s path ver gate idle v
    exact ⟨exec_emSearch_eq gate idle ver, fun longest gei len named => exec_lpmSearch_eq gate idle ver longest named,
      exec_groupRead_eq gate idle ver, fun index small => exec_sprayRead_eq gate idle ver small,
      exec_filterRead_eq gate idle ver⟩
  · intro s path ver cursor gate idle v
    refine ⟨next_nextReq gate idle (.inl rfl) ?_, next_nextReq gate idle (.inr rfl) ?_⟩
    · simp only [tblRun]
      rfl
    · simp only [tblRun]
      rfl

/-! ## Long commands -/

section
variable {s : State} {path : Path} {c : TblCmd} {args : List (Nat × Word)} (fits : c.Fits) (long : 13 ≤ c.op ∧ c.op ≤ 16)
  (opened : s.sys.tableOpen path c.ver) (state : tblStateOk c.op (s.sys.verState c.ver) = true)
  (good : tblArgs c ((s.sys.setArgs .table path args).slot .table path).arg = none)
include fits long opened state good

theorem next_table_long {st : Stores} {dma : Dma} {uses : List Nat} {job : LongJob}
    (start : startLong path c c.word ((s.sys.setArgs .table path args).slot .table path).arg st dma
      (s.sys.setArgs .table path args) = tableQueued path c args uses job s.sys) :
    (.next (s.onSys (tableReq path c args st dma)) : Host.Outcome State Fault Refusal) =
      .next { s with sys := replied path 0x3020 0 0 (tableQueued path c args uses job) s.sys } := by
  obtain ⟨gate, idle, _, still⟩ := opened
  have still' : (s.sys.setArgs .table path args).copying c.ver = false := still
  have admitted : c.Admitted path (s.sys.setArgs .table path args) := by
    refine ⟨?_, good, state, by rw [still', Bool.and_false], any_blocks_of_plain (by omega) ..⟩
    rw [Sys.busy_setArgs]
    exact idle
  exact next_request_of_ok gate (f := tableQueued path c args uses job)
    ((tableCmd_long fits admitted long).trans (congrArg Except.ok start))

end

/-- Settles O9: the command passes the checks and joins the queue, a bulk load with the records of its region. -/
theorem longTableCommandsAreQueued : Obligations.LongTableCommandsAreQueued := by
  unfold Obligations.LongTableCommandsAreQueued
  refine ⟨?_, ?_, ?_, ?_⟩
  · intro s path ver port scope opened small
    exact next_table_long (c := { op := 13, ver, mode := false, scope, index := port.toNat }) (args := [])
      ⟨by simp, port.isLt⟩ (by simp) opened (tblStateOk_of_open opened.2.2.1 (by simp)) (by simp [tblArgs, small]) rfl
  · intro s path ver opened free
    exact next_table_long (c := { op := 14, ver, mode := false, scope := 0, index := 0 }) (args := [])
      (TblCmd.fits_op (by decide) ver) (by simp) opened (by simp [tblStateOk, free]) (by simp [tblArgs]) rfl
  · intro s path ver opened free
    exact next_table_long (c := { op := 15, ver, mode := false, scope := 0, index := 0 }) (args := [])
      (TblCmd.fits_op (by decide) ver) (by simp) opened (by simp [tblStateOk, free]) (by simp [tblArgs]) rfl
  · intro s path ver handle count host b data opened region read
    refine next_table_long (c := { op := 16, ver, mode := false, scope := 0, index := 0 })
      (args := [(0, handle), (1, count)]) (TblCmd.fits_op (by decide) ver) (by simp) opened
      (tblStateOk_of_open opened.2.2.1 (by simp)) (by simp [tblArgs]) ?_
    have kept : (s.sys.setArgs .table path [(0, handle), (1, count)]).region path handle (16 * count.toNat) = .ok b := region
    simp only [startLong, Sys.arg0_setArgs_two, Sys.arg1_setArgs_two, kept, read, if_true]
    rfl

end Sys2Proof.Machine
end

section
/-! The admission pass of a core die (08 R278, R279). -/

namespace Sys2Proof.Machine

/-! ## One turn of the pass -/

theorem Sys.passLoop_of_none {core last : Nat} {held : List NodePool} {s : Sys}
    (last_ : earliest (s.readyAfter core last) = none) (fuel : Nat) : s.passLoop core fuel last held = s := by
  cases fuel with
  | zero => rfl
  | succ fuel => simp only [Sys.passLoop, last_]

/-- No node holds a pool yet. -/
theorem any_held_nil (pools : List (NodePool × Bool)) : (pools.any fun e => ([] : List NodePool).contains e.1) = false := by
  simp

section
variable {core last k gid i : Nat} {held : List NodePool} {g : Graph} {n : Node} {s : Sys}
  (next : earliest (s.readyAfter core last) = some (k, gid, i, g, n)) (fuel : Nat)
include next

/-- A node whose pools are free, and that no earlier node holds, is taken in when it starts. -/
theorem Sys.passLoop_of_go {t : Sys} (free : ((s.poolsOf g n).all fun e => e.2 && !held.contains e.1) = true)
    (start : s.startNode gid i g n = .go t) :
    s.passLoop core (fuel + 1) last held = (t.takeIn gid i core n).passLoop core fuel (k + 1) held := by
  have each : ∀ e ∈ s.poolsOf g n, e.2 = true ∧ held.contains e.1 = false := by
    simpa only [List.all_eq_true, Bool.and_eq_true, Bool.not_eq_true'] using free
  have unheld : ((s.poolsOf g n).any fun e => held.contains e.1) = false :=
    List.any_eq_false.2 fun e he => by rw [(each e he).2]; exact Bool.false_ne_true
  have nothing : ((s.poolsOf g n).filter fun e => !e.2) = [] :=
    List.filter_eq_nil_iff.2 fun e he => by rw [(each e he).1]; exact Bool.false_ne_true
  simp only [Sys.passLoop, next, unheld, nothing, start, List.map_nil, List.isEmpty_nil, Bool.false_eq_true, if_false,
    if_true]

/-- A node in a pool that an earlier one holds is passed over. -/
theorem Sys.passLoop_of_held (barred : ((s.poolsOf g n).any fun e => held.contains e.1) = true) :
    s.passLoop core (fuel + 1) last held = s.passLoop core fuel (k + 1) (held ++ n.holds) := by
  simp only [Sys.passLoop, next, barred, if_true]

section
variable (lacks : (((s.poolsOf g n).filter fun e => !e.2).map fun e => e.1) ≠ [])
include lacks

/-- A node that lacks a pool and has not waited 8 control cycles is passed over. -/
theorem Sys.passLoop_of_young (young : s.clk.cycle < n.readyCycle + 8) :
    s.passLoop core (fuel + 1) last [] = s.passLoop core fuel (k + 1) n.holds := by
  have waits : ¬ n.readyCycle + 8 ≤ s.clk.cycle := by omega
  have some_ : (((s.poolsOf g n).filter fun e => !e.2).map fun e => e.1).isEmpty = false :=
    List.isEmpty_eq_false_iff.2 lacks
  simp only [Sys.passLoop, next, some_, any_held_nil, Bool.false_eq_true, if_false, waits,
    List.nil_append]

/-- A node that has waited 8 control cycles holds the pools that it lacks. -/
theorem Sys.passLoop_of_waited (waited : n.readyCycle + 8 ≤ s.clk.cycle) :
    s.passLoop core (fuel + 1) last [] =
      (s.modNode gid i fun x =>
        { x with
          holds := n.holds ++
            (((s.poolsOf g n).filter fun e => !e.2).map fun e => e.1).filter fun x => !n.holds.contains x }).passLoop
        core fuel (k + 1)
        (n.holds ++ (((s.poolsOf g n).filter fun e => !e.2).map fun e => e.1).filter fun x => !n.holds.contains x) := by
  have some_ : (((s.poolsOf g n).filter fun e => !e.2).map fun e => e.1).isEmpty = false :=
    List.isEmpty_eq_false_iff.2 lacks
  simp only [Sys.passLoop, next, some_, any_held_nil, Bool.false_eq_true, if_false, waited,
    if_true, List.nil_append]

end

end

/-- A node that does not find every pool free lacks one. -/
theorem lacks_of_all_eq_false {pools : List (NodePool × Bool)} (some_ : (pools.all fun e => e.2) = false) :
    ((pools.filter fun e => !e.2).map fun e => e.1) ≠ [] := by
  obtain ⟨e, he, taken⟩ := List.all_eq_false.1 some_
  exact List.ne_nil_of_mem (List.mem_map_of_mem (List.mem_filter.2 ⟨he, by simpa using taken⟩))

/-- Settles O12: the pass is followed turn by turn, each turn by its own rule. -/
theorem admissionRuns : Obligations.AdmissionRuns := by
  unfold Obligations.AdmissionRuns
  refine ⟨?_, ?_, ?_⟩
  · intro s core k gid i g n t next free start last nodes
    obtain ⟨fuel, count⟩ := Nat.exists_eq_succ_of_ne_zero nodes
    have free' : ((s.sys.settle.poolsOf g n).all fun e => e.2 && !([] : List NodePool).contains e.1) = true := by
      simpa using free
    refine next_onSys ?_
    rw [Sys.admissionPass, count, Sys.passLoop_of_go next fuel free' start, Sys.passLoop_of_none last]
  · intro s core k₀ gid₀ i₀ k₁ gid₁ i₁ k₂ gid₂ i₂ g₀ g₁ g₂ n₀ n₁ n₂ t₁ t₂ c a u₁ u₂ next₀ lacking young next₁ free₁ start₁
      next₂ free₂ start₂ last nodes
    obtain ⟨fuel, count⟩ := Nat.exists_eq_add_of_le' nodes
    refine next_onSys ?_
    rw [Sys.admissionPass, count, Sys.passLoop_of_young next₀ (fuel + 2) (lacks_of_all_eq_false lacking) young,
      Sys.passLoop_of_go next₁ (fuel + 1) free₁ start₁, Sys.passLoop_of_go next₂ fuel free₂ start₂, Sys.passLoop_of_none last]
  · intro s core k₀ gid₀ i₀ k₁ gid₁ i₁ g₀ g₁ n₀ n₁ c a lacks holds b next₀ some_ waited next₁ barred last nodes
    obtain ⟨fuel, count⟩ := Nat.exists_eq_add_of_le' nodes
    refine next_onSys ?_
    rw [Sys.admissionPass, count, Sys.passLoop_of_waited next₀ (fuel + 1) some_ waited]
    exact (Sys.passLoop_of_held next₁ fuel barred).trans (Sys.passLoop_of_none last fuel)

end Sys2Proof.Machine
end

section
/-! Contexts of the collectives: their commands, their contributions, results and resend requests (06, 07). -/

namespace Sys2Proof.Machine

/-! ## The ARGs of a word list -/

section
variable {α : Type} {l : List (Nat × α)} {t : Sparse α} {k : Nat} {d : α}

theorem getD_foldl_put_ne (absent : ∀ e ∈ l, e.1 ≠ k) : getD (l.foldl (fun a e => put a e.1 e.2) t) k d = getD t k d := by
  induction l generalizing t with
  | nil => rfl
  | cons e l ih =>
    rw [List.foldl_cons, ih fun e he => absent e (List.mem_cons_of_mem _ he)]
    exact getD_put_ne _ _ _ _ _ (absent e (List.mem_cons_self ..)).symm

theorem getD_foldl_put_of_mem {v : α} (once : (l.map Prod.fst).Nodup) (mem : (k, v) ∈ l) :
    getD (l.foldl (fun a e => put a e.1 e.2) t) k d = v := by
  induction l generalizing t with
  | nil => cases mem
  | cons e l ih =>
    rw [List.map_cons, List.nodup_cons] at once
    rw [List.foldl_cons]
    rcases List.mem_cons.1 mem with rfl | later
    · rw [getD_foldl_put_ne fun e he same => once.1 (List.mem_map.2 ⟨e, he, same⟩)]
      exact getD_put_same ..
    · exact ih once.2 later

end

theorem map_fst_argsFrom0 (l : List Word) : (argsFrom0 l).map Prod.fst = List.range l.length := by
  simp [argsFrom0, Function.comp_def]

section
variable {o : SlotObj} {p : Path} {s : Sys} {l : List Word} {v : Word}

/-- An ARG that a row writes once is read back. -/
theorem Sys.arg_setArgs_of_mem {args : List (Nat × Word)} {n : Nat} (once : (args.map Prod.fst).Nodup) (mem : (n, v) ∈ args) :
    ((s.setArgs o p args).slot o p).arg n = v := by
  rw [Sys.slot_setArgs, Slot.arg]
  exact getD_foldl_put_of_mem once mem

theorem nodup_argsFrom0_append : ((argsFrom0 l ++ [(l.length, v)]).map Prod.fst).Nodup := by
  rw [List.map_append, map_fst_argsFrom0]
  simpa [List.range_succ] using List.nodup_range (n := l.length + 1)

/-- The words of a list are read back as ARG0 onwards. -/
theorem Sys.map_arg_setArgs_argsFrom0 :
    (List.range l.length).map ((s.setArgs o p (argsFrom0 l ++ [(l.length, v)])).slot o p).arg = l := by
  refine List.ext_getElem (by simp) fun i below inside => ?_
  rw [List.getElem_map, List.getElem_range]
  refine Sys.arg_setArgs_of_mem nodup_argsFrom0_append (List.mem_append_left _ (List.mem_map.2 ⟨i, ?_, ?_⟩))
  · exact List.mem_range.2 inside
  · simp [nth, inside]

end

/-! ## CTX_OPEN, CTX_CLOSE and CTX_ABORT -/

section
variable {path : Path} {st : Stores} {dma : Dma} {s : Sys}

theorem ctxOpen_of_room {cmd : Word} {arg : Nat → Word} {d : CtxDesc} {b : Bulk} {data : List Byte}
    (desc : CtxDesc.of (wordsToBytes ((List.range 16).map arg)) = d) (good : ctxCheck d s = none)
    (region : (s.accept .coll path cmd []).region path (arg 16) (16 * (d.nslot.toNat + 1)) = .ok b)
    (read : regionRead st path b (16 * (d.nslot.toNat + 1)) dma = .ok data)
    (room : ctxReserve d (membersOf data (d.nslot.toNat + 1)) (s.accept .coll path cmd []) = none) :
    ctxOpen path cmd arg st dma s =
      .ok (((s.accept .coll path cmd []).openCtx d (membersOf data (d.nslot.toNat + 1)) none).done .coll path
          [(0, BitVec.ofNat 32 (d.deckle.toNat / 2 ^ 32)), (1, d.deckle.setWidth 32)]) := by
  unfold ctxOpen
  generalize CtxDesc.of (wordsToBytes ((List.range 16).map arg)) = d' at desc
  subst desc
  simp only [good, region, read, room]

theorem collCmd_open {args : List (Nat × Word)} (idle : (s.slot .coll path).busy = false) :
    collCmd path (BitVec.ofNat 32 (1 * 2 ^ 24)) st dma (s.setArgs .coll path args) =
      ctxOpen path (BitVec.ofNat 32 (1 * 2 ^ 24)) ((s.setArgs .coll path args).slot .coll path).arg st dma
        (s.setArgs .coll path args) := by
  simp only [collCmd, Sys.busy_setArgs, idle]
  simp [fld, bits]

theorem collCmd_close {ctx : Word} {x : Ctx} (idle : (s.slot .coll path).busy = false)
    (named : s.ctx (fld ctx 13 0) = some x) (live : x.st = .active ∨ x.st = .complete ∨ x.st = .aborted) :
    collCmd path (BitVec.ofNat 32 (2 * 2 ^ 24)) st dma (s.setArgs .coll path [(0, ctx)]) =
      .ok (((cmdTaken .coll path 2 [(0, ctx)] [] s).closeCtx (fld ctx 13 0)).settle.done .coll path []) := by
  have kept : (s.setArgs .coll path [(0, ctx)]).ctx (fld ctx 13 0) = some x := named
  simp only [collCmd, Sys.busy_setArgs, idle, Sys.arg_setArgs_one, kept, if_pos live]
  simp [fld, bits, cmdTaken]

theorem collCmd_abort {ctx : Word} {x : Ctx} (idle : (s.slot .coll path).busy = false)
    (named : s.ctx (fld ctx 13 0) = some x) (live : x.st = .active) :
    collCmd path (BitVec.ofNat 32 (3 * 2 ^ 24)) st dma (s.setArgs .coll path [(0, ctx)]) =
      .ok (((cmdTaken .coll path 3 [(0, ctx)] [] s).abortCtx (fld ctx 13 0) collHostabort Config.noSlot.toNat 0
        Config.noTile.toNat).settle.done .coll path []) := by
  have kept : (s.setArgs .coll path [(0, ctx)]).ctx (fld ctx 13 0) = some x := named
  simp only [collCmd, Sys.busy_setArgs, idle, Sys.arg_setArgs_one, kept, if_pos live]
  simp [fld, bits, cmdTaken]

end

/-- Settles O14: the row's ARGs spell the descriptor, and each command's checks pass. -/
theorem contextCommandsRun : Obligations.ContextCommandsRun := by
  unfold Obligations.ContextCommandsRun
  refine ⟨?_, ?_, ?_⟩
  · intro s path desc handle host b data ⟨gate, idle⟩ length d ms good region read room
    have words : (List.range 16).map
        ((s.sys.setArgs .coll path (argsFrom0 desc ++ [(16, handle)])).slot .coll path).arg = desc := by
      rw [← length]
      exact Sys.map_arg_setArgs_argsFrom0
    have last : ((s.sys.setArgs .coll path (argsFrom0 desc ++ [(16, handle)])).slot .coll path).arg 16 = handle :=
      s.sys.arg_setArgs_last ..
    refine next_request_of_ok gate ((collCmd_open idle).trans (ctxOpen_of_room (d := d) (congrArg _ (congrArg _ words)) good ?_ read room))
    rw [last]
    exact region
  · intro s path ctx x ⟨gate, idle⟩ named live
    exact next_request_of_ok gate (collCmd_close idle named live)
  · intro s path ctx x ⟨gate, idle⟩ named live
    exact next_request_of_ok gate (collCmd_abort idle named live)

/-! ## Contributions -/

section
variable {core : Nat} {vat : VatCheck} {s : Sys} (runs : s.vatsRun core = true)

/-- A contribution that passes the checks, and whose records and tokens are there, is added to its tile (07 R234). -/
theorem Sys.takeContribution_of_takeIn {d : Delivery} {e : CollExt} {x : Ctx} {i : Nat} {u : Sys} (ext : d.pkt.coll = some e)
    (named : s.ctx e.ctx = some x) {vault : Bool} (use : x.parity.isSome = vault) (active : x.st = .active)
    (verdict : x.verdict d.pkt e = .takeIn i) (crc : s.crcOf d = true)
    (room : x.needs (x.addTo i e d.pkt.payload).1 e.tile ≤ s.escFree)
    (spent : s.spendEsc core (x.addTo i e d.pkt.payload).2.1 = some u) (finish : Nat → Nat → Sys → Sys) :
    s.takeContribution core vat vault d finish =
      .consumed (finish e.ctx e.tile
        (u.addContribution core vat e.ctx i e (u.headOf d) (x.addTo i e d.pkt.payload).1
          (x.addTo i e d.pkt.payload).2.1 (x.addTo i e d.pkt.payload).2.2 (u.portOf d))) := by
  have fits : ¬ s.escFree < x.needs (x.addTo i e d.pkt.payload).1 e.tile := not_lt.2 room
  have mine : (s.ctx e.ctx).filter (fun x => x.parity.isSome == vault) = some x := by
    simp [named, use]
  simp only [Sys.takeContribution, ext, mine, active, verdict, crc, Bool.not_true, Bool.false_eq_true, if_false, if_neg fits,
    spent]

include runs

theorem Sys.contribution_of_consumed {d : Delivery} {t u : Sys}
    (came : s.takeDelivery (fun d => d.svc == 1 && d.core == core && d.pkt.kind == 2) = some (d, t))
    (taken : t.takeContribution core vat false d Sys.finishIfReady = .consumed u) :
    s.contribution core vat = (u.consume d).settle := by
  simp only [Sys.contribution, runs, came, taken, Bool.not_true, Bool.false_eq_true, if_false]

theorem Sys.vatResume_of_first {d : Delivery} {rest : List Delivery} {u : Sys}
    (queue : getD s.coll.waiting core [] = d :: rest)
    (taken : s.takeContribution core vat false d Sys.finishIfReady = .consumed u) :
    s.vatResume core vat =
      ((u.modColl fun k => { k with waiting := put k.waiting core rest }).consume d).settle := by
  simp only [Sys.vatResume, runs, queue, List.head?_cons, Option.bind_some, taken, List.erase_cons_head, Bool.not_true,
    Bool.false_eq_true, if_false, Option.orElse_some, Option.getD_some]

theorem Sys.vatResume_of_lowest {c d : Delivery} {rest : List Delivery} {u : Sys}
    (queue : getD s.coll.waiting core [] = c :: rest)
    (waits : s.takeContribution core vat false c Sys.finishIfReady = .waits) (lowest : (c :: rest).find? s.forLowest = some d)
    (taken : s.takeContribution core vat false d Sys.finishIfReady = .consumed u) :
    s.vatResume core vat =
      ((u.modColl fun k => { k with waiting := put k.waiting core ((c :: rest).erase d) }).consume d).settle := by
  simp only [Sys.vatResume, runs, queue, List.head?_cons, Option.bind_some, waits, lowest, taken, Bool.not_true,
    Bool.false_eq_true, if_false, Option.orElse_none, Option.getD_some]

end

/-! ## Results and resend requests -/

section
variable {core : Nat} {s t : Sys} {d : Delivery} {e : CollExt} {x : Ctx}

theorem Sys.resultReceive_of_owned
    (came : s.takeDelivery (fun d => d.svc == 1 && d.core == core && d.pkt.kind == 3 && d.pkt.plen != 0) = some (d, t))
    (crc : t.crcOf d = true) (ext : d.pkt.coll = some e) (named : t.ctx e.ctx = some x)
    (open_ : (x.st == .active && x.owns d.pkt e && x.desc.role (x.desc.tree e.tile) == 2 && x.inScope e.tile &&
      x.low ≤ e.tile && e.tile < x.low + x.desc.w.toNat && !x.ahead.contains e.tile) = true) :
    s.resultReceive core = (((t.completeTile e.ctx e.tile d.pkt.payload e.msr).finishWindow e.ctx).consume d).settle := by
  simp only [Sys.resultReceive, came, crc, ext, named, open_, Bool.not_true, Bool.false_eq_true, if_false, if_true]

theorem Sys.resendRequest_of_sent {at0 : Word64} {n : Nat}
    (came : s.takeDelivery (fun d => d.svc == 1 && d.core == core && d.pkt.kind == 3 && d.pkt.plen == 0) = some (d, t))
    (ext : d.pkt.coll = some e) (named : t.ctx e.ctx = some x) (sent : (x.tile e.tile).sent = some (at0, n))
    (own : (x.st == CtxSt.active && x.owns d.pkt e) = true) :
    s.resendRequest core =
      ((t.sendPartial x e.tile true).modCtx e.ctx fun x =>
        { x with tiles := update x.tiles e.tile fun y => { y with sent := some (t.clk.ext, n) } }).consume d := by
  simp only [Sys.resendRequest, came, ext, named, sent, own, if_true]

end

/-- Settles O15: what a core die receives for a context is judged by the context's own state. -/
theorem contributionsAndResultsRun : Obligations.ContributionsAndResultsRun := by
  unfold Obligations.ContributionsAndResultsRun
  refine ⟨?_, ?_, ?_, ?_, ?_⟩
  · intro s core vat d t u e x i runs came ext named reduces active verdict crc room spent
    exact next_onSys (Sys.contribution_of_consumed runs came
      (Sys.takeContribution_of_takeIn ext named (by rw [reduces]; rfl) active verdict crc room spent _))
  · intro s core vat d rest u runs queue taken
    exact next_onSys (Sys.vatResume_of_first runs queue taken)
  · intro s core vat c d rest u runs queue waits lowest taken
    exact next_onSys (Sys.vatResume_of_lowest runs queue waits lowest taken)
  · intro s core d t e x came crc ext named active owns role scope low high ahead
    refine next_onSys (Sys.resultReceive_of_owned came crc ext named ?_)
    rw [ahead]
    simp [active, owns, role, scope, low, high]
  · intro s core d t e x at0 n came ext named sent active owns
    refine next_onSys (Sys.resendRequest_of_sent came ext named sent ?_)
    simp [active, owns]

/-! ## Timers and notices -/

section
variable {c : Nat} {s : Sys} {x : Ctx} (named : s.ctx c = some x)
include named

theorem Sys.tileTimeout_of_sent {tile n : Nat} {at0 : Word64} (sent : (x.tile tile).sent = some (at0, n))
    (active : x.st = .active) (few : n < 8) :
    let u := (s.toExt (at0 + BitVec.ofNat 64 (x.desc.tto.toNat * 1000))).sendPartial x tile true
    s.tileTimeout c tile =
      u.modCtx c fun x => { x with tiles := update x.tiles tile fun y => { y with sent := some (u.clk.ext, n + 1) } } := by
  have due : ¬ (x.st ≠ .active ∨ 9 ≤ n) := by
    rw [active]
    exact fun h => h.elim (fun other => other rfl) fun many => by omega
  simp only [Sys.tileTimeout, named, sent, if_neg due, if_pos few]

theorem Sys.stall_of_active (active : x.st = .active) :
    s.stall c =
      ((s.toMono (x.moved + x.desc.stall.toNat * 1000000)).abortCtx c collStall Config.noSlot.toNat 0 x.low).settle := by
  simp only [Sys.stall, named, active, if_true]

theorem Sys.closeExpire_of_closing {i : Interval} (closing : x.st = .closing) (ends : x.closing = some i) :
    s.closeExpire c = (s.toEnd i).modColl fun k => { k with ctx := del k.ctx c } := by
  obtain ⟨⟩ := x
  cases closing
  cases ends
  simp only [Sys.closeExpire, named]

end

theorem Sys.abortNotice_of_token {core : Nat} {s : Sys} {n : AbortNotice} {rest : List AbortNotice}
    (queue : getD s.coll.notices core [] = n :: rest) (token : s.bucket (4 * core) ≠ 0) (time : s.clk.valid = true)
    (room : s.origRoom core
      (s.ownPkt 5 8 6 n.gei 0 0 (errorPayload n.code (s.ownGei 5) n.time n.port n.head)).len = true) :
    s.abortNotice core =
      (((s.modColl fun k => { k with notices := put k.notices core rest }).modFwd fun f =>
          { f with bucket := put f.bucket (4 * core) (s.bucket (4 * core) - 1) }).count 0x9012 (4 * core) 0 1).originate core
        (s.ownPkt 5 8 6 n.gei 0 0 (errorPayload n.code (s.ownGei 5) n.time n.port n.head)) := by
  simp only [Sys.abortNotice, queue, token, time, room, Bool.not_true, Bool.false_eq_true, or_self, if_false]

theorem Sys.errorNoticeReceive_of_echoed {s t : Sys} {d : Delivery} {c : Nat}
    (came : s.takeDelivery (fun d => d.svc == 5 && d.pkt.kind == 8) = some (d, t))
    (abort : wordAt d.pkt.payload 0 = collAborted ∨ wordAt d.pkt.payload 0 = collDeckle ∨
      wordAt d.pkt.payload 0 = collStall)
    (own : t.echoed (bytesAt d.pkt.payload 16 32) = some c) :
    s.errorNoticeReceive =
      ((t.abortCtx c collUpstream Config.noSlot.toNat 0 (wordAt d.pkt.payload 32).toNat).consume d).settle := by
  simp only [Sys.errorNoticeReceive, came, if_pos abort, own]

/-- Settles O16: each timer and notice acts on the context that it is about. -/
theorem contextTimersAndNoticesRun : Obligations.ContextTimersAndNoticesRun := by
  unfold Obligations.ContextTimersAndNoticesRun
  refine ⟨?_, ?_, ?_, ?_, ?_⟩
  · intro s ctx tile x at0 n named sent active few t u
    exact next_onSys (Sys.tileTimeout_of_sent named sent active few)
  · intro s ctx x named active
    exact next_onSys (Sys.stall_of_active named active)
  · intro s ctx x i named closing ends
    exact next_onSys (Sys.closeExpire_of_closing named closing ends)
  · intro s core n rest queue token time p room
    exact next_onSys (Sys.abortNotice_of_token queue token time room)
  · intro s d t c came abort own
    exact next_onSys (Sys.errorNoticeReceive_of_echoed came abort own)

end Sys2Proof.Machine
end

section
/-! Broadcast objects: their commands, their segments, timers and pulls (09). -/

namespace Sys2Proof.Machine

/-! ## A unit that still names an object -/

/-- The bulk slot of a receiver table in BAR2. -/
def receiverTable : Bulk :=
  { kind := 2, len := 65536, gen := 1, handle := 0x10000010, dKind := 2, dAddr := 0, dLen := 65536 }

/-- Tag 1 is active, bulk slot 0 of the PCIe path holds a receiver table, and a poisoned unit of the broadcast cache still
names object 5 of the tag, which is gone (14 R437). -/
def soiledCache : State :=
  { State.reset with
    sys := { State.reset.sys with
      boot := { mode := .ready }
      clk := { valid := true }
      fwd := { State.reset.sys.fwd with jobs := [(1, { active := true, gen := 0 })] }
      mg := { State.reset.sys.mg with
        bulk := [(bulkKey .pcie 0, receiverTable)] }
      mem := { State.reset.sys.mem with poisoned := [(0, .object 1 5)] } }
    stores := { bar2 := [(3, 20)] } }

/-- The items of the poisoned units after a command. -/
def poisonedAfter (r : Host.Outcome State Fault Refusal) : Sparse HbmItem :=
  match r with
  | .next t => t.sys.mem.poisoned
  | _ => []

/-- The words of a descriptor of object 5 of tag 1, of one segment and one receiver. -/
def object5Words : List Word := [5, 0x10000, 0, 0, 0x100000, 0, 0, 0, 1, 0x10000, 0, 0, 0, 0, 0, 0]

/-- BC_OPEN of the object lets the unit name it no longer: its data of before are not those of the new object. -/
theorem poisonedAfter_bcOpen :
    poisonedAfter (exec (.bcOpen .pcie object5Words 0x10000010 .failed) soiledCache) = [(0, .free)] := by
  decide +kernel

/-- Refutes O20: BC_OPEN gives a new object its space, so that a poisoned unit that still names a former object of that tag
and number names none from then on (14 R437), but the state that the first clause gives leaves the unit under the name. -/
theorem not_broadcastCommandsRun : ¬ Obligations.BroadcastCommandsRun := by
  rintro ⟨opens, -⟩
  have same := opens soiledCache .pcie object5Words 0x10000010 .failed receiverTable
    ([0, 0, 0, 20] ++ List.replicate 28 0) (by decide +kernel) rfl (by decide +kernel) (by decide +kernel) (by decide +kernel)
    (by decide +kernel) (by decide +kernel) (by decide +kernel) (by decide +kernel)
  have after := poisonedAfter_bcOpen
  rw [same] at after
  revert after
  decide +kernel

/-! ## Segments -/

section
variable {core i : Nat} {d : Delivery} {s t : Sys} {f : Flow} {o : BcObj}
  (came : s.takeDelivery (fun d => d.svc == 2 && d.core == core && d.pkt.kind == 4) = some (d, t))
  (found : t.findFlow d.pkt.sgei d.pkt.flow false = some (i, f)) (named : t.bcObj f.jtag f.obj = some o)
  (cached : t.isCached core i = true) (inside : d.pkt.seq.toNat < o.nseg)
  (length : d.pkt.plen.toNat = o.segLen d.pkt.seq.toNat)
include came found named cached inside length

/-- A segment of the object's length whose context is at hand is held against its context (09 R308). -/
theorem Sys.segmentReceive_of_cached :
    s.segmentReceive core =
      if !((t.touch core i).flowAccepts i d).1 then (((t.touch core i).flowAccepts i d).2.grantIfDue i).consume d
      else
        match (t.touch core i).spendBc core f.jtag d.pkt.plen.toNat with
        | none => s
        | some u => (((u.flowAccepts i d).2.fillSegment f.jtag f.obj i d).grantIfDue i).consume d := by
  have fits : ¬ (f.st = .opened ∧ (o.nseg ≤ d.pkt.seq.toNat ∨ d.pkt.plen.toNat ≠ o.segLen d.pkt.seq.toNat)) :=
    fun ⟨_, wrong⟩ => wrong.elim (fun beyond => by omega) fun other => other length
  simp only [Sys.segmentReceive, came, Sys.segmentWith, found, named, Sys.withContext, cached, if_true, if_neg fits] <;> rfl

end

/-- The first of the places of a range that answers gives the answer. -/
theorem findSome?_range_of_first {α : Type} {f : Nat → Option α} {n j : Nat} {a : α} (below : j < n) (hit : f j = some a)
    (before : ∀ i < j, f i = none) : (List.range n).findSome? f = some a := by
  induction n with
  | zero => omega
  | succ n ih =>
    rw [List.range_succ, List.findSome?_append]
    rcases Nat.lt_succ_iff_lt_or_eq.1 below with earlier | rfl
    · rw [ih earlier, Option.some_or]
    · have none_ : (List.range j).findSome? f = none :=
        List.findSome?_eq_none_iff.2 fun i hi => before i (List.mem_range.1 hi)
      simp [none_, hit]

/-- Settles O21: a segment is spent for when its context accepts it, and the first object in turn that can send does. -/
theorem segmentsRun : Obligations.SegmentsRun := by
  unfold Obligations.SegmentsRun
  refine ⟨?_, ?_⟩
  · intro s core d t u v i f o came found named cached inside length x
    have run := Sys.segmentReceive_of_cached came found named cached inside length
    refine ⟨fun discards => next_onSys (run.trans ?_), fun accepts spent => next_onSys (run.trans ?_)⟩
    · rw [show (t.touch core.toNat i).flowAccepts i d = (false, v) from discards]
      rfl
    · have accepts' : ((t.touch core.toNat i).flowAccepts i d).1 = true := accepts
      have spent' : (t.touch core.toNat i).spendBc core.toNat f.jtag d.pkt.plen.toNat = some u := spent
      rw [accepts', spent']
      rfl
  · intro s core j o w t mine x n pos below turn next sends before
    have hit : (List.range n).findSome? (fun i =>
        match (mine x)[pos i]? with
        | some o =>
          match x.bcNext o with
          | some w => (x.sendWork core.toNat o w).map fun t =>
              t.modBc fun b => { b with turn := put b.turn core.toNat ((pos i + 1) % n) }
          | none => none
        | none => none) = some (t.modBc fun b => { b with turn := put b.turn core.toNat ((pos j + 1) % n) }) := by
      refine findSome?_range_of_first below ?_ fun i earlier => ?_
      · simp only [turn, next, sends, Option.map_some]
      · cases at_ : (mine x)[pos i]? with
        | none => rfl
        | some o' =>
          cases work : x.bcNext o' with
          | none => simp only [work]
          | some w' => simp only [work, before i earlier o' w' at_ work, Option.map_none]
    refine next_onSys ?_
    exact congrArg (fun r : Option Sys => (r.getD x).loadsRun) hit

/-! ## Timers -/

section
variable {tag : BitVec 16} {obj : Word} {s : Sys} {o : BcObj} (named : s.bcObj tag obj = some o)
include named

theorem Sys.reachTimeout_of_outstanding {k : Nat} {r : Receiver} {f : Flow} (receiver : o.receivers[k]? = some r)
    (active : o.st = .active) (live : r.live = true) (flow : s.recvFlow r = some f) (out : f.sent ≠ []) :
    s.reachTimeout tag obj k = (s.toMono (r.moved + o.reachTo * 1000000)).unreach tag obj k := by
  have some_ : f.sent.isEmpty = false := List.isEmpty_eq_false_iff.2 out
  simp [Sys.reachTimeout, named, receiver, flow, active, live, some_]

theorem Sys.upstreamStall_of_relay (active : o.st = .active) (relay : o.src = true) (partly : o.fill < o.nseg) :
    s.upstreamStall tag obj = (s.toMono (o.moved + o.resumeTo * 1000000)).nextSource tag obj := by
  simp only [Sys.upstreamStall, named, active, relay, partly, true_and, if_true]

theorem Sys.pullTimeout_of_asked {since : Nat} (active : o.st = .active) (asked : o.pullSince = some since) :
    s.pullTimeout tag obj = (s.toMono (since + o.resumeTo * 1000000)).nextSource tag obj := by
  obtain ⟨⟩ := o
  cases active
  cases asked
  simp only [Sys.pullTimeout, named]

theorem Sys.bcExpire_of_closing {i : Interval} (closing : o.st = .closing) (ends : o.closing = some i) :
    s.bcExpire tag obj =
      (s.toEnd i).modBc fun b => { b with objs := b.objs.filter fun o => !(o.jtag == tag && o.obj == obj) } := by
  obtain ⟨⟩ := o
  cases closing
  cases ends
  simp only [Sys.bcExpire, named]

end

/-! ## Pulls -/

section
variable {core : Nat} {s t : Sys} {d : Delivery} {o : BcObj}
  (named : t.bcObj d.pkt.jtag (wordAt d.pkt.payload 4) = some o) (generation : o.jgen = d.pkt.jgen)
include named generation

theorem Sys.pull321_of_room (came : s.takeBcMsg core (fun m => m != 2) = some (d, t)) (pull : d.pkt.mtype = 1)
    (live : o.st = .active ∨ o.st = .complete) (room : (o.receivers.filter Receiver.isPull).length < 64) :
    let obj := wordAt d.pkt.payload 4
    let a := wordAt d.pkt.payload 8
    let r : Receiver :=
      { gei := d.pkt.sgei, start := a, port := 0, graft := 0, mode := if o.nseg ≤ a.toNat then .done else .pull, ack := a,
        next := a, moved := t.clk.mono, isPull := true }
    let v := t.modObj d.pkt.jtag obj fun o => { o with receivers := o.receivers ++ [r] }
    s.pull321 core =
      (((v.openReceivers d.pkt.jtag obj).originate core (v.bcMsg o d.pkt.sgei 2 a 0)).objSettle d.pkt.jtag obj).consume d := by
  have dead : ¬ (o.st ≠ BcSt.active ∧ o.st ≠ BcSt.complete) := by tauto
  have full : ¬ 64 ≤ (o.receivers.filter Receiver.isPull).length := by omega
  simp only [Sys.pull321, came, pull, named, generation, ne_eq, not_true_eq_false, if_false, if_neg dead, if_neg full]

theorem Sys.pullAck_of_asked (came : s.takeBcMsg core (fun m => m == 2) = some (d, t)) (source : o.up = d.pkt.sgei)
    (asked : o.pullSince.isSome = true) (active : o.st = .active) (accepted : wordAt d.pkt.payload 12 = 0) :
    s.pullAck core = (t.modObj d.pkt.jtag (wordAt d.pkt.payload 4) fun o => { o with pullSince := none }).consume d := by
  have mine : o.jgen = d.pkt.jgen ∧ o.up = d.pkt.sgei ∧ o.pullSince.isSome = true ∧ o.st = BcSt.active :=
    ⟨generation, source, asked, active⟩
  simp only [Sys.pullAck, came, named, if_pos mine, if_pos accepted]

end

/-- Settles O22: each timer and message acts on the object that it names. -/
theorem broadcastTimersAndPullsRun : Obligations.BroadcastTimersAndPullsRun := by
  unfold Obligations.BroadcastTimersAndPullsRun
  refine ⟨?_, ?_, ?_, ?_, ?_⟩
  · intro s tag obj k o r f named receiver active live flow out
    exact next_onSys (Sys.reachTimeout_of_outstanding named receiver active live flow out)
  · intro s tag obj o named active
    exact ⟨fun relay partly => next_onSys (Sys.upstreamStall_of_relay named active relay partly),
      fun since asked => next_onSys (Sys.pullTimeout_of_asked named active asked)⟩
  · intro s tag obj o i named closing ends
    exact next_onSys (Sys.bcExpire_of_closing named closing ends)
  · intro s core d t o came pull named generation live room obj a r v
    exact next_onSys (Sys.pull321_of_room named generation came pull live room)
  · intro s core d t o came named generation source asked active accepted
    exact next_onSys (Sys.pullAck_of_asked named generation came source asked active accepted)

end Sys2Proof.Machine
end

section
/-! The parity vault: Quire slots, parity packets and shards (10). -/

namespace Sys2Proof.Machine

/-! ## QUIRE_ALLOC and QUIRE_FREE -/

section
variable {path : Path} {st : Stores} {dma : Dma} {s : Sys}

theorem quireAlloc_of_room {cmd : Word} {arg : Nat → Word} {slot jobK nstripe handle : Word} {b : Bulk} {data : List Byte}
    (arg0 : arg 0 = slot) (arg1 : arg 1 = jobK) (arg2 : arg 2 = nstripe) (arg3 : arg 3 = handle)
    (services : s.hbmServices = true) (space : s.vaultRegion ≠ 0)
    (named : ¬ (fld slot 31 12 ≠ 0 ∨ fld jobK 15 8 ≠ 0 ∨ fld jobK 7 0 + 1 < 2 ∨ 255 < fld jobK 7 0 + 1 ∨
      nstripe.toNat < 1 ∨ 16777216 < nstripe.toNat))
    (region : (s.accept .vault path cmd []).region path handle (4 * (fld jobK 7 0 + 1)) = .ok b)
    (read : regionRead st path b (4 * (fld jobK 7 0 + 1)) dma = .ok data)
    (members : ((bytesToWords data).contains 0 || (bytesToWords data).eraseDups.length != (bytesToWords data).length) = false)
    (active : (s.job (BitVec.ofNat 16 (fld jobK 31 16))).active = true) (free : s.quire (fld slot 11 0) = none)
    (room : s.vaultUsed + nstripe.toNat * 16384 ≤ s.vaultRegion) :
    quireAlloc path cmd arg st dma s =
      .ok (((s.accept .vault path cmd []).modVault fun v =>
        { v with
          slot := put v.slot (fld slot 11 0)
            { jtag := BitVec.ofNat 16 (fld jobK 31 16), members := bytesToWords data, nstripe := nstripe.toNat } }).done
          .vault path []) := by
  have open_ : ¬ ((!s.hbmServices) = true ∨ s.vaultRegion = 0) := by simp [services, space]
  have fits : ¬ s.vaultRegion < s.vaultUsed + nstripe.toNat * 16384 := not_lt.2 room
  simp only [quireAlloc, arg0, arg1, arg2, arg3, if_neg open_, if_neg named, region, read, members, active, free, if_neg fits,
    Bool.false_eq_true, Bool.not_true, if_false, Option.isSome_none]

theorem vaultCmd_alloc {args : List (Nat × Word)} (idle : (s.slot .vault path).busy = false) :
    vaultCmd path (BitVec.ofNat 32 (1 * 2 ^ 24)) st dma (s.setArgs .vault path args) =
      quireAlloc path (BitVec.ofNat 32 (1 * 2 ^ 24)) ((s.setArgs .vault path args).slot .vault path).arg st dma
        (s.setArgs .vault path args) := by
  simp only [vaultCmd, Sys.busy_setArgs, idle]
  simp [fld, bits]

theorem vaultCmd_free {slot : Word} {q : Quire} (idle : (s.slot .vault path).busy = false)
    (named : s.quire (fld slot 11 0) = some q) (update : q.st ≠ .updating) (rebuild : q.st ≠ .rebuilding) :
    vaultCmd path (BitVec.ofNat 32 (2 * 2 ^ 24)) st dma (s.setArgs .vault path [(0, slot)]) =
      .ok (((cmdTaken .vault path 2 [(0, slot)] [] s).modVault fun v =>
        { v with slot := del v.slot (fld slot 11 0) }).done .vault path []) := by
  have kept : (s.setArgs .vault path [(0, slot)]).quire (fld slot 11 0) = some q := named
  have quiet : ¬ (q.st = .updating ∨ q.st = .rebuilding) := fun h => h.elim update rebuild
  simp only [vaultCmd, Sys.busy_setArgs, idle, Sys.arg_setArgs_one, kept, if_neg quiet]
  simp [fld, bits, cmdTaken]

end

/-! ## Shards -/

section
variable {q k i : Nat} {s : Sys} {v : Quire} {r : QRebuild} {x : Ctx} {f : Flow} {l : List (List Byte)}
  (slot : s.quire q = some v) (rebuild : v.rebuild = some r) (named : s.ctx r.ctx = some x) (toward : r.flows[k]? = some i)
  (flow : get? s.flows.ctx i = some f)
include slot rebuild named toward flow

/-- A shard that is not due again does not leave as a resend. -/
theorem Sys.sendShard_of_nothing_due (none_ : f.due = []) : s.sendShard q k true = none := by
  obtain ⟨⟩ := v
  cases rebuild
  simp only [Sys.sendShard, slot, named, toward, flow, none_]
  split <;> simp

variable (opened : f.st = .opened) (active : x.st = .active) (time : s.clk.valid = true)
include opened active time

theorem Sys.sendShard_of_due {y : Word} {rest : List Word} (due : f.due = y :: rest)
    (shard : get? v.shards y.toNat = some l)
    (room : s.origRoom (r.ctx % 4) (s.shardPkt x r k y.toNat f.flow true (nth l k [])).len = true) :
    s.sendShard q k true =
      some ((s.originate (r.ctx % 4) (s.shardPkt x r k y.toNat f.flow true (nth l k []))).noteSent i y true) := by
  obtain ⟨⟩ := v
  cases rebuild
  simp only at shard
  simp [Sys.sendShard, slot, named, toward, flow, due, shard, opened, active, time, room]

theorem Sys.sendShard_of_next (window : serialAfter f.limit f.next = true)
    (shard : get? v.shards f.next.toNat = some l)
    (room : s.origRoom (r.ctx % 4) (s.shardPkt x r k f.next.toNat f.flow false (nth l k [])).len = true) :
    s.sendShard q k false =
      some ((s.originate (r.ctx % 4) (s.shardPkt x r k f.next.toNat f.flow false (nth l k []))).noteSent i f.next false) := by
  obtain ⟨⟩ := v
  cases rebuild
  simp only at shard
  simp [Sys.sendShard, slot, named, toward, flow, window, shard, opened, active, time, room]

end

/-- Settles O23: a slot is allocated and freed as its checks allow, a parity packet is added like a contribution, and a
shard that is due again goes before the next one. -/
theorem vaultRuns : Obligations.VaultRuns := by
  unfold Obligations.VaultRuns
  refine ⟨?_, ?_, ?_, ?_⟩
  · intro s path slot jobK nstripe handle host b data ⟨gate, idle⟩ services space slotBits jobBits k tag low high some_ most
      region read nonzero distinct active free room
    have once : ([(0, slot), (1, jobK), (2, nstripe), (3, handle)].map Prod.fst).Nodup := by simp
    refine next_request_of_ok gate ((vaultCmd_alloc idle).trans
      (quireAlloc_of_room (Sys.arg_setArgs_of_mem once (by simp)) (Sys.arg_setArgs_of_mem once (by simp))
        (Sys.arg_setArgs_of_mem once (by simp)) (Sys.arg_setArgs_of_mem once (by simp)) services space ?_ region read ?_ active
        free room))
    · omega
    · rw [nonzero, distinct, bne_self_eq_false, Bool.or_false]
  · intro s path slot q ⟨gate, idle⟩ named update rebuild
    exact next_request_of_ok gate (vaultCmd_free idle named update rebuild)
  · intro s core vat d t u e x i runs came ext named use active verdict crc room spent
    have taken := Sys.takeContribution_of_takeIn (core := core.toNat) (vat := vat) ext named use active verdict crc room spent
      (fun c _ u => u.stageReady c)
    refine next_onSys ?_
    simp only [Sys.parityReceive, runs, came, taken, Bool.not_true, Bool.false_eq_true, if_false]
  · intro s q second v r x i f l slot rebuild named toward flow opened active time again seq window shard p room
    refine next_onSys ?_
    cases due : f.due with
    | nil =>
      simp only [again, seq, p, due, List.isEmpty_nil, Bool.not_true, List.headD_nil, forall_const] at window shard room ⊢
      simp only [Sys.shardSend, Sys.sendShard_of_nothing_due slot rebuild named toward flow due,
        Sys.sendShard_of_next slot rebuild named toward flow opened active time window shard room, Option.getD_some]
    | cons y rest =>
      simp only [again, seq, p, due, List.isEmpty_cons, Bool.not_false, List.headD_cons] at shard room ⊢
      simp only [Sys.shardSend, Sys.sendShard_of_due slot rebuild named toward flow opened active time due shard room]

end Sys2Proof.Machine
end

section
/-! Gate lists: commit, start and the change of entries (11 R367-R371). -/

namespace Sys2Proof.Machine

/-! ## The egress record of a port -/

section
variable (s : Sys) (p : Nat)

theorem Sys.modEg_modEg (f g : EgPort → EgPort) : (s.modEg p f).modEg p g = s.modEg p fun e => g (f e) := by
  have same : modify (modify s.sw.eg p {} f) p {} g = modify s.sw.eg p {} fun e => g (f e) := by
    simp only [modify, getD_put_same, put_put]
  exact congrArg (fun x => { s with sw := { s.sw with eg := x } }) same

variable {s p} in
theorem Sys.modEg_congr {f g : EgPort → EgPort} (same : f (s.eg p) = g (s.eg p)) : s.modEg p f = s.modEg p g := by
  have here : modify s.sw.eg p {} f = modify s.sw.eg p {} g := congrArg (put s.sw.eg p) same
  exact congrArg (fun x => { s with sw := { s.sw with eg := x } }) here

end

/-! ## The three commands -/

section
variable {p : Nat} {s : Sys}

theorem Sys.gateCommit_of_list (time : s.clk.valid = true) (ok : gateListOk (s.eg p).adminEntries = true)
    (some_ : (s.eg p).adminEntries ≠ []) :
    s.gateCommit p 1 =
      .ok (s.modEg p fun e =>
        { e with
          pending := some
            { entries := (s.eg p).adminEntries
              start := s.gateStart (s.eg p).base ({ entries := (s.eg p).adminEntries } : GateList).cycle } }) := by
  have full : (s.eg p).adminEntries.isEmpty = false := List.isEmpty_eq_false_iff.2 some_
  simp only [Sys.gateCommit, Sys.commitGates, ok, time, full, ne_eq, not_true_eq_false, Bool.not_true, Bool.false_eq_true,
    false_and, Bool.not_false, if_false, if_true]

theorem Sys.gateListStart_of_pending {g : GateList} (pending : (s.eg p).pending = some g) (time : s.clk.valid = true)
    (some_ : g.entries ≠ []) :
    let t := s.toExt g.start
    s.gateListStart p =
      (t.modEg p fun e =>
        { e with
          running := some g, pending := none, entry := (g.at t.clk.ext).1, gates := (g.at t.clk.ext).2.1 }).startNext p := by
  have full : g.entries.isEmpty = false := List.isEmpty_eq_false_iff.2 some_
  simp only [Sys.gateListStart, pending, time, full, Sys.placeGates, Sys.modEg_modEg, Bool.false_eq_true, if_false, if_true]
  rfl

theorem Sys.gateEntryChange_of_running {g : GateList} (running : (s.eg p).running = some g)
    (pending : (s.eg p).pending = none) (time : s.clk.valid = true) (here : (g.at s.clk.ext).1 = (s.eg p).entry) :
    let t := s.toExt (s.clk.ext + BitVec.ofNat 64 (g.at s.clk.ext).2.2)
    s.gateEntryChange p =
      (t.modEg p fun e => { e with entry := (g.at t.clk.ext).1, gates := (g.at t.clk.ext).2.1 }).startNext p := by
  intro t
  have running' : (t.eg p).running = some g := by
    rw [← running, Sys.eg, Sys.eg, Sys.toExt_sw]
  have placed : s.gateEntryChange p = t.placeGates p := by
    simp only [Sys.gateEntryChange, running, pending, time, if_pos here, Bool.not_true, Bool.or_self, Bool.false_eq_true,
      if_false]
    rfl
  rw [placed, Sys.placeGates]
  refine congrArg (Sys.startNext p) (Sys.modEg_congr ?_)
  simp only [running']

end

/-- Settles O24: a list goes from the administrative entries to pending, and from pending to running at its E. -/
theorem gateListsRun : Obligations.GateListsRun := by
  unfold Obligations.GateListsRun
  refine ⟨?_, ?_, ?_⟩
  · intro s path gate time p l ok some_
    exact next_request_of_ok gate
      (f := fun x => x.modEg p fun e =>
        { e with
          pending := some { entries := l, start := x.gateStart (s.sys.eg p).base ({ entries := l } : GateList).cycle } })
      (Sys.gateCommit_of_list time ok some_)
  · intro s port g pending time some_ t
    exact next_onSys (Sys.gateListStart_of_pending pending time some_)
  · intro s port g running pending time here t
    exact next_onSys (Sys.gateEntryChange_of_running running pending time here)

end Sys2Proof.Machine
end

section
/-! Optical circuit bypass: the demand matrix, the circuit commands and the change sequence of a plan (12). -/

namespace Sys2Proof.Machine

/-! ## A row that also touches the byte memories -/

theorem next_requestM_of_ok {path : Path} {index block sub : Nat} {op : Stores × Sys → Except Word (Stores × Sys)} {s : State}
    (gate : s.sys.takes path index) {st : Stores} {f : Sys → Sys} (carried : op (s.stores, s.sys) = .ok (st, f s.sys)) :
    (.next (s.onMach (requestM path index block sub op)) : Host.Outcome State Fault Refusal) =
      .next { s with stores := st, sys := replied path index block sub f s.sys } := by
  refine next_onMach (r := (st, replied path index block sub f s.sys)) ?_
  simp only [requestM, gate, carried, replied]

/-! ## The demand matrix -/

/-- The state after the matrix is closed at the time of `t`, under the snapshot number `snap`: the settings written since the
last close are in force (12 R379, R380). -/
def Sys.matrixClosed (t : Sys) (snap : Word) : Sys :=
  (t.modOcs fun o =>
      { o with
        matrix := [], snapshot := o.matrix.map fun e => (e.1, e.2 % 2 ^ 64), snap, snapTime := t.now
        bucket := t.nv.demandBucket, exp := t.nv.demExp, dest := t.nv.demDest, tc := t.nv.demTc }).modClk fun c =>
    { c with
      firstDemand := t.runOf (17 + t.ocs.exp) c.firstDemand c.lastDemand, lastDemand := t.floorTo (17 + t.ocs.exp)
      ranDemand := t.ranOf (17 + t.ocs.exp) c.firstDemand c.lastDemand c.ranDemand }

theorem Sys.demandClose_eq (s : Sys) :
    let t := s.toExt (s.dueOnce (17 + s.ocs.exp) s.clk.firstDemand s.clk.lastDemand s.clk.ranDemand)
    let v := t.matrixClosed (BitVec.ofNat 32 ((t.ocs.snap.toNat + 1) % 2 ^ 31 + (if t.clk.valid then 0 else 2 ^ 31)))
    s.demandClose = if s.nv.demDest = 0 then v else v.pushDemand s.nv.demDest := by
  intro t v
  have flag : b2n (!t.clk.valid) * 2 ^ 31 = if t.clk.valid then 0 else 2 ^ 31 := by
    cases t.clk.valid <;> rfl
  have closed : s.demandClose =
      let u := t.matrixClosed (BitVec.ofNat 32 ((t.ocs.snap.toNat + 1) % 2 ^ 31 + b2n (!t.clk.valid) * 2 ^ 31))
      if u.ocs.dest = 0 then u else u.pushDemand u.ocs.dest := rfl
  have dest : v.ocs.dest = s.nv.demDest := congrArg Persist.demDest (Sys.toExt_nv ..)
  rw [closed, flag, ← dest]

theorem Sys.demandReq_of_came {s t : Sys} {d : Delivery}
    (came : s.takeDelivery (fun d => d.svc == 6 && d.pkt.kind == 9 && beAt d.pkt.payload 0 1 == 2) = some (d, t)) :
    s.demandReq = (t.pushDemand d.pkt.sgei).consume d := by
  simp only [Sys.demandReq, came]

/-! ## The circuit commands -/

/-- A plan that passes the checks joins the plans (12 R384, R385). -/
theorem planSubmit_of_passes {path : Path} {st : Stores} {dma : Dma} {cmd handle : Word} {len : Nat} {s s1 : Sys} {b : Bulk}
    {data : List Byte} (accepted : s.accept .ocs path cmd [] = s1) (region : s1.region path handle len = .ok b)
    (read : regionRead st path b len dma = .ok data)
    (passes :
      let p := { (Plan.of data).1 with
        num := s1.ocs.accepted, wsExt := s1.nextTime (Plan.of data).1.ws, st := if s1.clk.valid then .pending else .held }
      s1.planCheck p ((Plan.of data).2 && len == 32 + 16 * p.entries.length) = none) :
    planSubmit path cmd handle len st dma s =
      (s1.modOcs fun o =>
        { o with
          accepted := o.accepted + 1
          plans := (if o.plans.length < 8 then o.plans else dropEnded o.plans) ++
            [{ (Plan.of data).1 with
              num := s1.ocs.accepted, wsExt := s1.nextTime (Plan.of data).1.ws
              st := if s1.clk.valid then .pending else .held }] }).done .ocs path [] := by
  dsimp only at passes
  simp only [planSubmit, accepted, region, read, passes]

section
variable {path : Path} {st : Stores} {dma : Dma} {s : Sys} (idle : (s.slot .ocs path).busy = false)
include idle

theorem ocsCmd_read {handle : Word} {b : Bulk} (region : s.region path handle 32768 = .ok b) (bar2 : b.dKind = 2) :
    ocsCmd path (BitVec.ofNat 32 (3 * 2 ^ 24)) (.data []) (st, s.setArgs .ocs path [(0, handle)]) =
      .ok ({ st with
          bar2 := Memory.writeN st.bar2 b.dAddr.toNat
            ((List.range 4096).flatMap fun i => toBe 8 (getD s.ocs.snapshot i 0)) },
        (cmdTaken .ocs path 3 [(0, handle)] [] s).done .ocs path [(0, s.ocs.snap)]) := by
  have kept : ((s.setArgs .ocs path [(0, handle)]).accept .ocs path (BitVec.ofNat 32 (3 * 2 ^ 24)) []).region path handle
      32768 = .ok b := region
  have read : demandRead path (BitVec.ofNat 32 (3 * 2 ^ 24)) handle true (st, s.setArgs .ocs path [(0, handle)]) =
      ({ st with
          bar2 := Memory.writeN st.bar2 b.dAddr.toNat
            ((List.range 4096).flatMap fun i => toBe 8 (getD s.ocs.snapshot i 0)) },
        (cmdTaken .ocs path 3 [(0, handle)] [] s).done .ocs path [(0, s.ocs.snap)]) := by
    have kind : b.dKind.toNat = 2 := by rw [bar2]; rfl
    simp only [demandRead, kept, regionWrite, kind]
    rfl
  simp only [ocsCmd, Sys.busy_setArgs, idle, Sys.arg_setArgs_one]
  exact congrArg Except.ok read

theorem ocsCmd_submit {handle length : Word} :
    ocsCmd path (BitVec.ofNat 32 (1 * 2 ^ 24)) dma (st, s.setArgs .ocs path [(0, handle), (1, length)]) =
      .ok (st, planSubmit path (BitVec.ofNat 32 (1 * 2 ^ 24)) handle length.toNat st dma
        (s.setArgs .ocs path [(0, handle), (1, length)])) := by
  simp only [ocsCmd, Sys.busy_setArgs, idle, Sys.arg0_setArgs_two, Sys.arg1_setArgs_two]
  rfl

theorem ocsCmd_cancel {id : Word} {p : Plan} (live : s.livePlan id = some p) (early : p.st = .held ∨ p.st = .pending) :
    ocsCmd path (BitVec.ofNat 32 (2 * 2 ^ 24)) dma (st, s.setArgs .ocs path [(0, id)]) =
      .ok (st,
        ((cmdTaken .ocs path 2 [(0, id)] [] s).modPlan p.num fun x => { x with st := .cancelled }).done .ocs path []) := by
  have kept : (s.setArgs .ocs path [(0, id)]).livePlan id = some p := live
  simp only [ocsCmd, Sys.busy_setArgs, idle, Sys.arg_setArgs_one, kept, if_pos early]
  simp [fld, bits, cmdTaken]

end

/-- Settles O25: the matrix closes into the snapshot, which is sent and read; a plan joins the plans or leaves them. -/
theorem demandAndPlanCommandsRun : Obligations.DemandAndPlanCommandsRun := by
  unfold Obligations.DemandAndPlanCommandsRun
  refine ⟨?_, ?_, ?_, ?_, ?_⟩
  · intro s t v
    refine ⟨next_onSys (Sys.demandClose_eq s.sys), ?_, ?_⟩
    · change t.ocs.plans = s.sys.ocs.plans
      exact congrArg Ocs.plans (Sys.toExt_ocs ..)
    · exact Sys.toExt_out ..
  · intro s d t came
    exact next_onSys (Sys.demandReq_of_came came)
  · intro s path handle b ⟨gate, idle⟩ region bar2 data
    exact next_requestM_of_ok gate (f := fun x => (cmdTaken .ocs path 3 [(0, handle)] [] x).done .ocs path [(0, s.sys.ocs.snap)])
      (ocsCmd_read idle region bar2)
  · intro s path handle length host b data ⟨gate, idle⟩ region read r p passes
    exact next_requestM_of_ok gate ((ocsCmd_submit idle).trans
      (congrArg (fun x => Except.ok (s.stores, x)) (planSubmit_of_passes rfl region read passes)))
  · intro s path id p ⟨gate, idle⟩ live early
    exact next_requestM_of_ok gate (ocsCmd_cancel idle live early)

/-! ## The change sequence -/

section
variable {id : Word} {p : Plan} {s : Sys}

theorem Sys.planStep_of_due {k : Nat} {at' : Word64} (named : s.planOf id k = some p) (due : p.stepAt k = some at') :
    s.planStep k id = ((s.toExt at').runStep k p).settle := by
  simp only [Sys.planStep, named, due]

/-- A plan that is PENDING, and whose version is ACTIVE and not in use, drains its ports (12 R387). -/
theorem Sys.runDrain_of_pending (pending : p.st = .pending) (other : s.fwd.epoch ≠ p.epoch) (version : s.verState p.epoch = 1) :
    s.runDrain p =
      let y := p.entries.foldl
        (fun t e =>
          ((t.leaveUp e.port.toNat).modPort e.port.toNat fun q =>
              { q with st := .draining, drain := none, warm := none, planned := true }).hwLost e.port.toNat false) s
      (y.modFwd fun f => { f with epoch := p.epoch }).modPlan p.num fun x => { x with st := .draining, tdrain := y.now } := by
  have goes : ¬ (p.st ≠ .pending ∨ s.fwd.epoch = p.epoch ∨ s.verState p.epoch ≠ 1) := by
    rintro (h | h | h)
    · exact h pending
    · exact other h
    · exact h version
  simp only [Sys.runDrain, if_neg goes]

theorem Sys.runReflip_of_active (version : s.verState (!p.epoch) = 1) :
    s.runReflip p =
      ((s.modFwd fun f => { f with epoch := !p.epoch }).modPlan p.num fun x =>
        { x with reflipRun := true, treflip := s.now }).planSettle := by
  simp only [Sys.runReflip, version, if_true]

/-- A plan whose ports are all Up or complete only ends (12 R392). -/
theorem Sys.runLimit_of_none_late (all : ∀ e ∈ p.entries, e.complete = true ∨ (s.port e.port.toNat).st = .up) :
    s.runLimit p =
      s.modPlan p.num fun x =>
        { x with
          limitRun := true
          entries := x.entries.map fun e => { e with failed := !e.complete && (s.port e.port.toNat).st != .up } } := by
  have none_ : (p.entries.filter fun e => !e.complete && (s.port e.port.toNat).st != .up) = [] := by
    refine List.filter_eq_nil_iff.2 fun e he => ?_
    rcases all e he with complete | up
    · simp [complete]
    · simp [up]
  simp only [Sys.runLimit, none_, List.isEmpty_nil, if_true, List.foldl_nil]

end

theorem Sys.verState_toExt (s : Sys) (t : Word64) (b : Bool) : (s.toExt t).verState b = s.verState b := by
  rw [Sys.verState, Sys.verState, Sys.toExt_fwd]

theorem Sys.port_toExt (s : Sys) (t : Word64) (p : Nat) : (s.toExt t).port p = s.port p := by
  rw [Sys.port, Sys.port, Sys.toExt_ports]

/-- Settles O26: a step runs at its own time, in the state that the time finds. -/
theorem planStepsRun : Obligations.PlanStepsRun := by
  unfold Obligations.PlanStepsRun
  refine ⟨?_, ?_, ?_, ?_, ?_⟩
  · intro s id p named pending other version x y
    have due : p.stepAt 0 = some p.drainAt := by simp only [Plan.stepAt, pending]
    refine next_onSys ((Sys.planStep_of_due named due).trans ?_)
    refine congrArg Sys.settle (Sys.runDrain_of_pending pending ?_ ?_)
    · rw [Sys.toExt_fwd]
      exact other
    · rw [Sys.verState_toExt]
      exact version
  · intro s id p named draining
    have due : p.stepAt 1 = some p.wsExt := by simp only [Plan.stepAt, draining]
    exact next_onSys (Sys.planStep_of_due named due)
  · intro s id p named moving
    have due : p.stepAt 2 = some p.endAt := by simp only [Plan.stepAt, moving]
    exact next_onSys (Sys.planStep_of_due named due)
  · intro s id p named rejoining first free version x
    have due : p.stepAt 3 = some p.reflipAt := by
      simp only [Plan.stepAt, rejoining, first, free, Bool.or_self, Bool.false_eq_true, if_false]
    refine next_onSys ((Sys.planStep_of_due named due).trans ?_)
    refine congrArg Sys.settle (Sys.runReflip_of_active ?_)
    rw [Sys.verState_toExt]
    exact version
  · intro s id p named rejoining first all
    have due : p.stepAt 4 = some p.limitAt := by
      simp only [Plan.stepAt, rejoining, first, Bool.false_eq_true, if_false]
    refine next_onSys ((Sys.planStep_of_due named due).trans ?_)
    have limit := Sys.runLimit_of_none_late (s := s.sys.toExt p.limitAt) (p := p) (by simpa only [Sys.port_toExt] using all)
    simp only [Sys.port_toExt] at limit
    exact congrArg Sys.settle limit

end Sys2Proof.Machine
end

section
/-! Ports: forwarding records, the fence list, the port configuration, faults and degrades (03 R87, R102; 13). -/

namespace Sys2Proof.Machine

/-! ## Forwarding records -/

section
variable {s : Sys} {p : Nat}

/-- A forwarding record without reserved bits takes its DIR and PFENCE (03 R87). -/
theorem Sys.writeRecord_of_ok {v : Word} (dir : fld v 15 14 ≠ 3) (low : fld v 3 0 = 0) (high : fld v 31 16 = 0)
    (persists : s.rwsOk = .ok ()) :
    let d : BitVec 2 := BitVec.ofNat 2 (fld v 15 14)
    let t := if s.dir p = d then s else (s.modNv fun n => { n with dir := put n.dir p d }).jrnl
    let u := t.modFwd fun f => { f with pfence := put f.pfence p (bit v.toNat 13) }
    let w := if s.hw p ≠ 0 ∧ u.hw p = 0 then u.portLost p false else u
    s.writeRecord p v = .ok (if s.hwFenced p ≠ 0 then (w.graftPort p).settle else w) := by
  intro d t u w
  have small : fld v 15 14 < 4 := Nat.mod_lt _ (by decide)
  have named : d ≠ 3 := by
    intro h
    apply dir
    have := congrArg BitVec.toNat h
    simp only [d, BitVec.toNat_ofNat] at this
    rw [Nat.mod_eq_of_lt small] at this
    exact this
  have good : ¬ (d = 3 ∨ fld v 3 0 ≠ 0 ∨ fld v 31 16 ≠ 0) := by
    rintro (h | h | h)
    · exact named h
    · exact h low
    · exact h high
  have taken : (if s.dir p = d then .ok s else s.rws fun n => { n with dir := put n.dir p d } : Except Word Sys) = .ok t := by
    simp only [t, Sys.rws_of_rwsOk persists]
    split <;> rfl
  have lost : w = if s.hw p != 0 && u.hw p == 0 then u.portLost p false else u := by
    simp only [w, Bool.and_eq_true, bne_iff_ne, beq_iff_eq]
  have fenced : (if s.hwFenced p ≠ 0 then (w.graftPort p).settle else w) =
      if s.hwFenced p != 0 then (w.graftPort p).settle else w := by
    simp only [bne_iff_ne]
  rw [fenced, lost]
  simp only [Sys.writeRecord]
  rw [if_neg good, taken]

/-! ## Port configuration -/

theorem Sys.setPcfg_of_ok (persists : s.rwsOk = .ok ()) (f : PortCfg → PortCfg) :
    s.setPcfg p f = .ok ((s.modNv fun n => { n with portCfg := put n.portCfg p (f (s.pcfg p)) }).jrnl) :=
  Sys.rws_of_rwsOk persists _

end

section
variable {s : Sys} {path : Path}

theorem Sys.writePortCfg_select {v : Word} (small : v.toNat ≤ 1023) :
    s.writePortCfg path 0 v = .ok (s.setSel path 0x2000 0 v) := by
  have known : ¬ 1023 < v.toNat := not_lt.2 small
  simp only [Sys.writePortCfg, if_neg known]

variable (persists : s.rwsOk = .ok ())
include persists

theorem Sys.writePortCfg_width {v : Word} (small : v.toNat ≤ 15)
    (off : (s.port ((s.selOf path 0x2000 0).toNat % 1024)).st = .disabled)
    (fits : s.widthBad ((s.selOf path 0x2000 0).toNat % 1024) v.toNat = false) :
    let p := (s.selOf path 0x2000 0).toNat % 1024
    s.writePortCfg path 1 v =
      .ok ((s.modNv fun n => { n with portCfg := put n.portCfg p { s.pcfg p with width := v.toNat } }).jrnl.tryEnable p) := by
  have known : ¬ 15 < v.toNat := not_lt.2 small
  simp only [Sys.writePortCfg, if_neg known, off, ne_eq, not_true_eq_false, if_false, fits, Bool.false_eq_true,
    Sys.setPcfg_of_ok persists, Except.map]

theorem Sys.writePortCfg_class {v : Word} (small : v.toNat ≤ 3) :
    let p := (s.selOf path 0x2000 0).toNat % 1024
    s.writePortCfg path 2 v =
      .ok ((s.modNv fun n =>
        { n with portCfg := put n.portCfg p { s.pcfg p with cls := BitVec.ofNat 4 v.toNat } }).jrnl.tryEnable p) := by
  have known : ¬ 3 < v.toNat := not_lt.2 small
  simp only [Sys.writePortCfg, if_neg known, Sys.setPcfg_of_ok persists, Except.map]

theorem Sys.writePortCfg_enable :
    let p := (s.selOf path 0x2000 0).toNat % 1024
    s.writePortCfg path 3 1 =
      .ok ((s.modNv fun n => { n with portCfg := put n.portCfg p { s.pcfg p with enable := true } }).jrnl.tryEnable p) := by
  simp [Sys.writePortCfg, Sys.setPcfg_of_ok persists, Except.map]

theorem Sys.writePortCfg_disable (up : (s.port ((s.selOf path 0x2000 0).toNat % 1024)).st ≠ .up)
    (seasoning : (s.port ((s.selOf path 0x2000 0).toNat % 1024)).st ≠ .seasoning)
    (draining : (s.port ((s.selOf path 0x2000 0).toNat % 1024)).st ≠ .draining) :
    let p := (s.selOf path 0x2000 0).toNat % 1024
    s.writePortCfg path 3 0 =
      .ok ((((s.modNv fun n => { n with portCfg := put n.portCfg p { s.pcfg p with enable := false } }).jrnl).endTest
        p).modPort p fun q => { q with st := .disabled, trained := false, warm := none, active := 0, retryAt := none }) := by
  simp [Sys.writePortCfg, up, seasoning, draining, Sys.setPcfg_of_ok persists, Except.map]

theorem Sys.writePortCfg_degrade {v : Word} (small : v.toNat ≤ 1) :
    let p := (s.selOf path 0x2000 0).toNat % 1024
    s.writePortCfg path 4 v =
      .ok ((s.modNv fun n => { n with portCfg := put n.portCfg p { s.pcfg p with degrade := v == 1 } }).jrnl) := by
  have known : ¬ 1 < v.toNat := not_lt.2 small
  simp only [Sys.writePortCfg, if_neg known, Sys.setPcfg_of_ok persists]

end

/-- Settles O27: each field takes its value where no rule of R400 refuses it, with what follows from it. -/
theorem portObjectsAreWritten : Obligations.PortObjectsAreWritten := by
  unfold Obligations.PortObjectsAreWritten
  refine ⟨?_, ?_, ?_, ?_, ?_, ?_, ?_, ?_⟩
  · intro s path port v gate dir low high persists p d t u w
    exact next_request_of_ok gate (f := fun x => if x.hwFenced p ≠ 0 then (w.graftPort p).settle else w)
      (Sys.writeRecord_of_ok dir low high persists)
  · intro s path index gei gate i
    exact next_request_of_ok gate (f := fun x => (x.modFwd fun f =>
      { f with fence := if gei = 0 then del f.fence i else put f.fence i gei }).fenceCtxs.pruneFenced.settle) rfl
  · intro s path v gate small
    exact next_request_of_ok gate (f := fun x => x.setSel path 0x2000 0 v) (Sys.writePortCfg_select small)
  · intro s path v gate persists small p off fits
    exact next_request_of_ok gate (f := fun x => (x.modNv fun n =>
      { n with portCfg := put n.portCfg p { s.sys.pcfg p with width := v.toNat } }).jrnl.tryEnable p)
      (Sys.writePortCfg_width persists small off fits)
  · intro s path v gate persists small p
    exact next_request_of_ok gate (f := fun x => (x.modNv fun n =>
      { n with portCfg := put n.portCfg p { s.sys.pcfg p with cls := BitVec.ofNat 4 v.toNat } }).jrnl.tryEnable p)
      (Sys.writePortCfg_class persists small)
  · intro s path gate persists p
    exact next_request_of_ok gate (f := fun x => (x.modNv fun n =>
      { n with portCfg := put n.portCfg p { s.sys.pcfg p with enable := true } }).jrnl.tryEnable p)
      (Sys.writePortCfg_enable persists)
  · intro s path gate persists p up seasoning draining
    exact next_request_of_ok gate (f := fun x => (((x.modNv fun n =>
      { n with portCfg := put n.portCfg p { s.sys.pcfg p with enable := false } }).jrnl).endTest p).modPort p fun q =>
        { q with st := .disabled, trained := false, warm := none, active := 0, retryAt := none })
      (Sys.writePortCfg_disable persists up seasoning draining)
  · intro s path v gate persists small p
    exact next_request_of_ok gate (f := fun x => (x.modNv fun n =>
      { n with portCfg := put n.portCfg p { s.sys.pcfg p with degrade := v == 1 } }).jrnl)
      (Sys.writePortCfg_degrade persists small)

/-! ## Link faults -/

theorem Sys.port_toMono (s : Sys) (t p : Nat) : (s.toMono t).port p = s.port p := by
  rw [Sys.port, Sys.port, Sys.toMono_ports]

theorem Sys.pcfg_toMono (s : Sys) (t p : Nat) : (s.toMono t).pcfg p = s.pcfg p := by
  rw [Sys.pcfg, Sys.pcfg, Sys.toMono_nv]

section
variable {s : Sys} {p : Nat}

theorem Sys.linkFault_of_planned {cause : Nat} (planned : (s.port p).planned = true) (lane : cause = 1 ∨ cause = 4 ∨ cause = 5) :
    s.linkFault p cause = s.count 0x9022 p 0 1 := by
  have window : ((s.port p).planned && (cause == 1 || cause == 4 || cause == 5)) = true := by
    rcases lane with rfl | rfl | rfl <;> simp [planned]
  simp only [Sys.linkFault, window, if_true]

/-- A fault that no plan foresaw acts by the port's state (13 R418). -/
theorem Sys.linkFault_of_unplanned {cause : Nat}
    (unplanned : (s.port p).planned = false ∨ (cause ≠ 1 ∧ cause ≠ 4 ∧ cause ≠ 5)) :
    let q := s.port p
    let report (loud : Bool) (x : Sys) : Sys :=
      x.linkReport p cause faultLinkDown loud (widthMask (s.pcfg p).width) q.active
    s.linkFault p cause =
      match q.st with
      | .up => report true (((s.healthEvent p).startTraining p).hwLost p true)
      | .seasoning => report false ((s.startTraining p).hwLost p true)
      | .draining => report false ((s.modPort p fun q => { q with st := .maintenance, drain := none }).portLost p true)
      | _ => report false s := by
  have window : ((s.port p).planned && (cause == 1 || cause == 4 || cause == 5)) = false := by
    rcases unplanned with none_ | ⟨one, four, five⟩
    · rw [none_, Bool.false_and]
    · simp [one, four, five]
  simp only [Sys.linkFault, window, Bool.false_eq_true, if_false] <;> cases (s.port p).st <;> rfl

theorem Sys.linkFault_of_up {cause : Nat} (up : (s.port p).st = .up) (unplanned : (s.port p).planned = false) :
    s.linkFault p cause =
      (((s.healthEvent p).startTraining p).hwLost p true).linkReport p cause faultLinkDown true (widthMask (s.pcfg p).width)
        (s.port p).active := by
  simp only [Sys.linkFault_of_unplanned (.inl unplanned), up]

theorem Sys.detected_fault {cause : Nat} (least : 1 ≤ cause) (most : cause ≤ 5) : s.detected p cause = s.linkFault p cause := by
  simp only [Sys.detected, if_pos (And.intro least most)]

theorem Sys.detected_event {cause : Nat} (event : cause = 6 ∨ cause = 7) :
    s.detected p cause = (s.disturb p).countLanes p (s.port p).active (causeItem cause) := by
  have beyond : ¬ (1 ≤ cause ∧ cause ≤ 5) := by omega
  simp only [Sys.detected, if_neg beyond, if_pos event]

theorem Sys.detected_other {cause : Nat} (other : cause = 0 ∨ 8 ≤ cause) : s.detected p cause = s := by
  have noFault : ¬ (1 ≤ cause ∧ cause ≤ 5) := by omega
  have noEvent : ¬ (cause = 6 ∨ cause = 7) := by omega
  simp only [Sys.detected, if_neg noFault, if_neg noEvent]

theorem Sys.setLoss_of_linked (linked : (s.port p).linked = true) :
    s.setLoss p = ((s.toMono ((s.port p).osLast + 4000)).linkFault p 4).settle := by
  simp only [Sys.setLoss, linked, Bool.not_true, Bool.false_eq_true, if_false]

/-- A permitted degrade of an UP port starts a warm retrain on the lanes that remain (13 R421). -/
theorem Sys.laneLoss_of_up {cause : Nat} {lost : BitVec 8} (up : (s.port p).st = .up)
    (unplanned : ((s.port p).planned && cause == 5) = false) (hit : (s.port p).active &&& lost ≠ 0)
    (permitted : s.mayDegrade p ((s.port p).active &&& ~~~lost) = true) :
    s.laneLoss p cause lost =
      (((((s.degradeEvent p).leaveUp p).modPort p fun q =>
          { q with
            st := .training, trained := false, warm := some s.clk.mono, warmFromUp := true
            active := (s.port p).active &&& ~~~lost, retryAt := none }).removeLanes p lost).hwLost p true).linkReport p cause
        faultLinkDegraded true ((s.port p).active &&& lost) ((s.port p).active &&& ~~~lost) := by
  simp only [Sys.laneLoss, unplanned, Bool.false_eq_true, if_false, if_neg hit, up, permitted, if_true]
  rfl

theorem Sys.warmTimeout_of_warm {t : Nat} (warm : (s.port p).warm = some t) :
    s.warmTimeout p =
      ((s.toMono (t + 200000)).startTraining p).linkReport p (s.port p).fault.toNat faultLinkDown (s.port p).warmFromUp
        (widthMask (s.pcfg p).width) (s.port p).active := by
  simp only [Sys.warmTimeout, warm, Sys.warmFails, Sys.port_toMono, Sys.pcfg_toMono]

end

theorem exec_linkFault_eq {s : State} {port : Port} {cause : BitVec 4} {t : Sys}
    (fault : s.sys.detected port.toNat cause.toNat = t) :
    exec (.linkFault port cause) s = .next { s with sys := t.settle } :=
  next_onSys (congrArg Sys.settle fault)

/-- Settles O28: a cause of Table 13-7 is a fault, an event or nothing, and a fault acts by the port's state. -/
theorem portFaultsRun : Obligations.PortFaultsRun := by
  unfold Obligations.PortFaultsRun
  refine ⟨?_, ?_, ?_, ?_, ?_, ?_, ?_⟩
  · intro s port cause planned lane
    have lane' : cause.toNat = 1 ∨ cause.toNat = 4 ∨ cause.toNat = 5 := by
      rcases lane with rfl | rfl | rfl <;> simp
    exact exec_linkFault_eq ((Sys.detected_fault (by omega) (by omega)).trans (Sys.linkFault_of_planned planned lane'))
  · intro s port cause least most unplanned p q report
    have unplanned' : (s.sys.port p).planned = false ∨ (cause.toNat ≠ 1 ∧ cause.toNat ≠ 4 ∧ cause.toNat ≠ 5) := by
      refine unplanned.imp_right fun ⟨one, four, five⟩ => ⟨?_, ?_, ?_⟩
      · exact fun h => one (BitVec.eq_of_toNat_eq h)
      · exact fun h => four (BitVec.eq_of_toNat_eq h)
      · exact fun h => five (BitVec.eq_of_toNat_eq h)
    refine exec_linkFault_eq ((Sys.detected_fault least most).trans ((Sys.linkFault_of_unplanned unplanned').trans ?_))
    rfl
  · intro s port cause
    refine ⟨fun event => exec_linkFault_eq (Sys.detected_event ?_), fun other => exec_linkFault_eq (Sys.detected_other ?_)⟩
    · exact event.imp (congrArg BitVec.toNat) (congrArg BitVec.toNat)
    · exact other.imp_left (congrArg BitVec.toNat)
  · intro s port linked
    have fault := exec_linkFault_eq (port := port) (cause := 4)
      (s := { s with sys := s.sys.toMono ((s.sys.port port.toNat).osLast + 4000) })
      (Sys.detected_fault (cause := 4) (by decide) (by decide))
    exact (next_onSys (Sys.setLoss_of_linked linked)).trans fault.symm
  · intro s port p q t linked up planned
    refine next_onSys ((Sys.setLoss_of_linked linked).trans (congrArg Sys.settle ?_))
    have fault := Sys.linkFault_of_up (s := t) (p := p) (cause := 4) (by rw [Sys.port_toMono]; exact up)
      (by rw [Sys.port_toMono]; exact planned)
    rw [Sys.port_toMono] at fault
    exact fault
  · intro s port cause lost p q left lane up unplanned hit permitted x
    have unplanned' : (q.planned && cause.toNat == 5) = false := by
      rcases lane with rfl | rfl
      · rw [unplanned rfl, Bool.false_and]
      · exact Bool.and_false _
    refine next_onSys ((if_pos lane).trans (congrArg Sys.settle ?_))
    exact Sys.laneLoss_of_up up unplanned' hit permitted
  · intro s port t warm p q
    exact next_onSys (Sys.warmTimeout_of_warm warm)

end Sys2Proof.Machine
end

section
/-! Training and Seasoning: attempts, LINK_ID, warm retrains, clean time and lane measures (13 R410-R428; 02 R68). -/

namespace Sys2Proof.Machine

/-! ## A port whose health weight stands -/

section
variable {s : Sys} {p : Nat}

theorem Sys.withHw_of_zero {f : Sys → Sys} (zero : s.hw p = 0) : s.withHw p f = f s := by
  simp [Sys.withHw, zero]

theorem Sys.withHw_of_ne_zero {f : Sys → Sys} (weight : (f s).hw p ≠ 0) : s.withHw p f = f s := by
  simp [Sys.withHw, weight]

theorem Sys.hw_of_not_up (other : (s.port p).st ≠ .up) : s.hw p = 0 := by
  simp [Sys.hw, other]

/-- A port keeps its health weight while its state, its peer's state and its lanes stand. -/
theorem Sys.hw_modPort {f : PortSt → PortSt} (st : (f (s.port p)).st = (s.port p).st)
    (peer : (f (s.port p)).peerState = (s.port p).peerState) (active : (f (s.port p)).active = (s.port p).active) :
    (s.modPort p f).hw p = s.hw p := by
  have pcfg : (s.modPort p f).pcfg p = s.pcfg p := rfl
  have dir : (s.modPort p f).dir p = s.dir p := rfl
  have season : (s.modPort p f).season p = s.season p := rfl
  simp only [Sys.hw, Sys.lanes, Sys.port_modPort_same, st, peer, active, pcfg, dir, season]

/-- A port with a health weight has a peer that is Up (13 R410). -/
theorem Sys.peerState_of_hw (weight : s.hw p ≠ 0) : (s.port p).peerState = 2 := by
  by_contra other
  have unequal : ((s.port p).peerState == 2) = false := by simpa using other
  exact weight (by simp only [Sys.hw, unequal, Bool.and_false, Bool.false_and, Bool.false_eq_true, if_false])

/-- The word of a peer that is Up takes no port's health weight. -/
theorem Sys.withHw_modPort_of_peerUp {f : PortSt → PortSt} (st : (f (s.port p)).st = (s.port p).st)
    (peer : (f (s.port p)).peerState = 2) (active : (f (s.port p)).active = (s.port p).active) :
    (s.withHw p fun t => t.modPort p f) = s.modPort p f := by
  by_cases zero : s.hw p = 0
  · exact Sys.withHw_of_zero zero
  · refine Sys.withHw_of_ne_zero ?_
    rw [Sys.hw_modPort st (peer.trans (Sys.peerState_of_hw zero).symm) active]
    exact zero

end

/-! ## An attempt at training -/

section
variable {s : Sys} {p : Nat}

/-- A good attempt comes up on the lanes that both ends can use (13 R411). -/
theorem Sys.trainingComplete_of_ok {o : Training} {mask : BitVec 8}
    (masked : o.usable &&& o.peerMask &&& widthMask (s.pcfg p).width = mask) (st : (s.port p).st = .training)
    (warm : (s.port p).warm = none) (dark : (s.port p).dark = false) (retry : (s.port p).retryAt = none)
    (released : s.released p = true) (on : s.portsOn = true) (die : s.dieUp (p / 64) = true) (ok : o.ok = true)
    (some_ : mask ≠ 0) (enough : (s.pcfg p).degrade = true ∨ mask = widthMask (s.pcfg p).width) :
    s.trainingComplete p o =
      ((s.countLanes p (widthMask (s.pcfg p).width) 2).linkTrained p mask).modPort p fun q =>
        { q with delay := (linkDelay o.probes).getD q.delay, peerSeen := false } := by
  have runs : ¬ ((s.port p).st ≠ .training ∨ (s.port p).warm.isSome = true ∨ (s.port p).dark = true ∨
      (s.port p).retryAt.isSome = true ∨ (!s.released p) = true ∨ (!s.portsOn) = true ∨ (!s.dieUp (p / 64)) = true) := by
    simp [st, warm, dark, retry, released, on, die]
  have good : (o.ok && mask != 0 && ((s.pcfg p).degrade || mask == widthMask (s.pcfg p).width)) = true := by
    simpa [ok] using And.intro some_ enough
  simp only [Sys.trainingComplete, if_neg runs, masked, good, if_true]

theorem Sys.trainingRetry_of_due {t : Nat} (due : (s.port p).retryAt = some t) :
    s.trainingRetry p = (s.toMono t).modPort p fun q => { q with retryAt := none } := by
  simp only [Sys.trainingRetry, due]

end

/-! ## LINK_ID -/

/-- The peer that a LINK_ID names (02 R68). -/
def linkPeer (b : List Byte) : PeerId :=
  { dtype := bv 4 (beAt b 2 5) 32, plane := bv 4 (beAt b 2 5) 36, group := bv 8 (beAt b 2 5) 24
    index := bv 8 (beAt b 2 5) 16, pport := bv 10 (beAt b 2 5) 0 }

/-- What a LINK_ID writes into its port. -/
def PortSt.told (b : List Byte) (q : PortSt) : PortSt :=
  { q with peer := linkPeer b, peerState := BitVec.ofNat 8 (beAt b 7 1), peerSeen := true }

section
variable {s : Sys} {p : Nat} {b : List Byte}

/-- A LINK_ID that takes no health weight and ends no peer's Up is written to its port; then a trained port is admitted or
fails, and another is held against the cabling map. -/
theorem Sys.linkId_eq (written : (s.withHw p fun t => t.modPort p (PortSt.told b)) = s.modPort p (PortSt.told b))
    (uncounted : ((s.port p).peerState == 2 && BitVec.ofNat 8 (beAt b 7 1) != 2 && (s.port p).st == .up) = false) :
    s.linkId p b =
      let t := s.modPort p (PortSt.told b)
      if (s.port p).st = .training ∧ (s.port p).trained ∧ (s.port p).warm.isNone then
        if !s.nv.coordValid ∨ s.boot.mode ≠ .ready then t
        else if t.peerMatches p then t.enterSeasoning p ((s.season p).peer == linkPeer b && (s.season p).hist)
        else t.trainFailed p true
      else (t.idCheck p).tellUp p := by
  have told : (s.modPort p (PortSt.told b)).port p = (s.port p).told b := Sys.port_modPort_same ..
  have shape : s.linkId p b =
      let s1 := s.withHw p fun t => t.modPort p (PortSt.told b)
      let s2 := if (s.port p).peerState == 2 && BitVec.ofNat 8 (beAt b 7 1) != 2 && (s.port p).st == .up then
        s1.count 0x9022 p 1 1 else s1
      if (s2.port p).st = .training ∧ (s2.port p).trained ∧ (s2.port p).warm.isNone then
        if !s2.nv.coordValid ∨ s2.boot.mode ≠ .ready then s2
        else if s2.peerMatches p then s2.enterSeasoning p ((s2.season p).peer == linkPeer b && (s2.season p).hist)
        else s2.trainFailed p true
      else (s2.idCheck p).tellUp p := rfl
  rw [shape]
  simp only [written, uncounted, Bool.false_eq_true, if_false, told]
  rfl

/-- A LINK_ID that matches the cabling map ends the training of a port (13 R412). -/
theorem Sys.linkId_of_match (st : (s.port p).st = .training) (trained : (s.port p).trained = true)
    (warm : (s.port p).warm = none) (valid : s.nv.coordValid = true) (ready : s.boot.mode = .ready)
    (named : (getD s.nv.cabling p ({} : Cabling)).dtype ≠ 0) (peer : (getD s.nv.cabling p ({} : Cabling)).peer = linkPeer b) :
    s.linkId p b =
      (s.modPort p (PortSt.told b)).enterSeasoning p ((s.season p).peer == linkPeer b && (s.season p).hist) := by
  have notUp : (s.port p).st ≠ .up := by rw [st]; decide
  have uncounted : ((s.port p).peerState == 2 && BitVec.ofNat 8 (beAt b 7 1) != 2 && (s.port p).st == .up) = false := by
    rw [st]
    exact Bool.and_false _
  have training : (s.port p).st = .training ∧ (s.port p).trained = true ∧ (s.port p).warm.isNone = true :=
    ⟨st, trained, by rw [warm]; rfl⟩
  have kept : ¬ ((!s.nv.coordValid) = true ∨ s.boot.mode ≠ .ready) := by simp [valid, ready]
  have agrees : (s.modPort p (PortSt.told b)).peerMatches p = true := by
    have told : ((s.modPort p (PortSt.told b)).port p).peer = linkPeer b := by rw [Sys.port_modPort_same]; rfl
    have fields : (s.nv.coordValid && (getD s.nv.cabling p ({} : Cabling)).dtype != 0 &&
        (getD s.nv.cabling p ({} : Cabling)).peer == linkPeer b) = true := by simpa [valid] using And.intro named peer
    rw [Sys.peerMatches, told]
    exact fields
  rw [Sys.linkId_eq (Sys.withHw_of_zero (Sys.hw_of_not_up notUp)) uncounted]
  simp only [if_pos training, if_neg kept, agrees, if_true]

/-- A LINK_ID of a peer that is Up is held against the cabling map, and the port's return is told (02 R68, 13 R419). -/
theorem Sys.linkId_of_admitted (st : (s.port p).st ≠ .training) (peerUp : beAt b 7 1 = 2) :
    s.linkId p b = ((s.modPort p (PortSt.told b)).idCheck p).tellUp p := by
  have state : BitVec.ofNat 8 (beAt b 7 1) = 2 := by rw [peerUp]; rfl
  have uncounted : ((s.port p).peerState == 2 && BitVec.ofNat 8 (beAt b 7 1) != 2 && (s.port p).st == .up) = false := by
    rw [state, bne_self_eq_false, Bool.and_false, Bool.false_and]
  have other : ¬ ((s.port p).st = .training ∧ (s.port p).trained = true ∧ (s.port p).warm.isNone = true) := fun h => st h.1
  rw [Sys.linkId_eq (Sys.withHw_modPort_of_peerUp rfl state rfl) uncounted]
  simp only [if_neg other]

/-- A LINK_ID of a linked port, with the time that it came (02 R64, R68). -/
theorem exec_linkIdReceive_eq {s : State} {port : Port} {t : Sys} (linked : (s.sys.port port.toNat).linked = true)
    (length : b.length = 16) (ok : osOk b = true) (typed : beAt b 0 1 = 3)
    (act : (s.sys.modPort port.toNat fun q => { q with osLast := s.sys.clk.mono }).linkId port.toNat b = t) :
    exec (.linkIdReceive port b) s = .next { s with sys := t.settle } := by
  refine next_onSys (congrArg Sys.settle ?_)
  rw [Sys.osReceive_of_linked linked length ok typed]
  exact act

end

/-! ## Seasoning, clean time and lanes -/

section
variable {s : Sys} {p : Nat}

theorem Sys.warmComplete_of_lanes {usable peerMask : BitVec 8} (warm : (s.port p).warm.isSome = true)
    (some_ : (s.port p).active &&& usable &&& peerMask ≠ 0) :
    let t := s.linkTrained p ((s.port p).active &&& usable &&& peerMask)
    s.warmComplete p usable peerMask =
      if s.nv.coordValid then t.enterSeasoning p ((s.port p).warmFromUp || (s.port p).seasonHist) else t := by
  have runs : (s.port p).warm.isNone = false := by simpa [Option.isSome_iff_ne_none] using warm
  simp only [Sys.warmComplete, runs, Bool.false_eq_true, if_false, if_neg some_]

theorem Sys.seasoned_of_match (st : (s.port p).st = .seasoning) (peer : s.peerMatches p = true) :
    let q := s.port p
    let t := s.toMono (q.seasonStart + (if q.seasonHist then 100000000 else 2000000000))
    let u := t.modPort p fun q =>
      { q with st := .up, cleanStart := some t.clk.mono, cleanHeld := 0, trainReported := false, seasonReported := false }
    let v := if q.seasonHist ∨ s.season p = { peer := q.peer, hist := false } then u
      else (u.modNv fun n => { n with season := put n.season p { peer := q.peer, hist := false } }).jrnl
    let w := if q.peerState = 2 then v else v.count 0x9022 p 1 1
    s.seasoned p = ((w.fillTokens p).planSettle).tellUp p := by
  have runs : ¬ ((s.port p).st ≠ .seasoning ∨ (!s.peerMatches p) = true) := by simp [st, peer]
  simp only [Sys.seasoned, if_neg runs, beq_iff_eq]

theorem Sys.seasonOverdue_of_seasoning (st : (s.port p).st = .seasoning) (first : (s.port p).seasonReported = false) :
    s.seasonOverdue p =
      ((s.toMono ((s.port p).seasonSince + 30000000000)).modPort p fun q => { q with seasonReported := true }).fault
        faultLinkSeason (p / 64) p false [0, (s.port p).active.setWidth 32] := by
  have runs : ¬ ((s.port p).st ≠ .seasoning ∨ (s.port p).seasonReported = true) := by simp [st, first]
  simp only [Sys.seasonOverdue, if_neg runs]

theorem Sys.clean60_of_up {t : Nat} (clean : (s.port p).cleanStart = some t) (st : (s.port p).st = .up)
    (new : (s.season p).hist = false) :
    s.clean60 p =
      ((s.toMono (t + 60000000000)).modNv fun n => { n with season := put n.season p { s.season p with hist := true } }).jrnl := by
  have runs : (s.port p).st = .up ∧ (!(s.season p).hist) = true := by simp [st, new]
  simp only [Sys.clean60, clean, if_pos runs]

/-- What a lane's window does, in the order of its limits (13 R413, R415, R417). -/
theorem Sys.laneBer_eq (lane : Nat) (corrected : Word) :
    let t := (s.modPorts fun q =>
      { q with lane := modify q.lane (p + lane) {} fun x => { x with ber := berOf corrected.toNat } }).count 0x9030
      (p + lane) 0 corrected.toNat
    s.laneBer p lane corrected =
      if (s.port p).active.getLsbD lane = false ∨ corrected.toNat * 100000 ≤ berWindowBits then t
      else if corrected.toNat * 10000 ≤ berWindowBits then t.disturb p
      else t.laneLoss p 6 (BitVec.ofNat 8 (2 ^ lane)) := by
  intro t
  rw [Sys.laneBer]
  generalize berWindowBits = bits
  by_cases idle : (s.port p).active.getLsbD lane = false
  · rw [if_pos idle, if_pos (Or.inl idle)]
  · rw [if_neg idle]
    by_cases low : corrected.toNat * 100000 ≤ bits
    · have lower : corrected.toNat * 10000 ≤ bits := Nat.le_trans (Nat.mul_le_mul_left _ (by norm_num)) low
      rw [if_pos (Or.inr low), if_neg (not_lt.2 lower), if_neg (not_lt.2 low)]
    · rw [if_neg (not_or.2 ⟨idle, low⟩)]
      by_cases some_ : corrected.toNat * 10000 ≤ bits
      · rw [if_pos some_, if_neg (not_lt.2 some_), if_pos (not_le.1 low)]
      · rw [if_neg some_, if_pos (not_le.1 some_)]

theorem Sys.eyeMargin_of_active {l : Nat} {m : Word} (named : s.portOfLane l = some p)
    (st : (s.port p).st = .up ∨ (s.port p).st = .seasoning) (active : (s.port p).active.getLsbD (l - p) = true) :
    s.eyeMargin l m = s.modPorts fun q => { q with lane := modify q.lane l {} fun x => { x with margin := m } } := by
  have runs : (((s.port p).st == .up || (s.port p).st == .seasoning) && s.laneActive l) = true := by
    simp only [Sys.laneActive, named, active, Bool.and_true]
    rcases st with h | h <;> rw [h] <;> rfl
  simp only [Sys.eyeMargin, named, runs, if_true]

end

/-- Settles O29: a port goes from training to Seasoning and from Seasoning to UP, as its link, its peer and time allow. -/
theorem trainingRuns : Obligations.TrainingRuns := by
  unfold Obligations.TrainingRuns
  refine ⟨?_, ?_, ?_, ?_, ?_, ?_, ?_, ?_, ?_, ?_⟩
  · intro s port o p mask st warm dark retry released on die ok some_ enough
    exact next_onSys (Sys.trainingComplete_of_ok rfl st warm dark retry released on die ok some_ enough)
  · intro s port bytes p w peer state c st trained warm length ok typed valid ready named agrees
    have linked : (s.sys.port p).linked = true := by simp only [PortSt.linked, st, trained]
    refine exec_linkIdReceive_eq linked length ok typed ((Sys.linkId_of_match (p := p)
      (s := s.sys.modPort p fun q => { q with osLast := s.sys.clk.mono }) ?_ ?_ ?_ valid ready named agrees).trans ?_)
    · rw [Sys.port_modPort_same]
      exact st
    · rw [Sys.port_modPort_same]
      exact trained
    · rw [Sys.port_modPort_same]
      exact warm
    · rw [Sys.modPort_modPort]
      rfl
  · intro s port bytes p w peer st test length ok typed peerUp
    have linked : (s.sys.port p).linked = true := by
      rcases st with h | h | h <;> simp [PortSt.linked, h, test]
    refine exec_linkIdReceive_eq linked length ok typed ((Sys.linkId_of_admitted (p := p)
      (s := s.sys.modPort p fun q => { q with osLast := s.sys.clk.mono }) ?_ peerUp).trans ?_)
    · rw [Sys.port_modPort_same]
      rcases st with h | h | h <;> rw [h] <;> decide
    · rw [Sys.modPort_modPort]
      have told : ∀ q : PortSt, PortSt.told bytes { q with osLast := s.sys.clk.mono } =
          { q with osLast := s.sys.clk.mono, peer, peerState := 2, peerSeen := true } := by
        intro q
        simp only [PortSt.told, peerUp]
        rfl
      simp only [told]
  · intro s port t due
    exact next_onSys (Sys.trainingRetry_of_due due)
  · intro s port usable peerMask q warm some_
    exact next_onSys (Sys.warmComplete_of_lanes warm some_)
  · intro s port p q t st peer u v w
    exact next_onSys (Sys.seasoned_of_match st peer)
  · intro s port p q st first
    exact next_onSys (Sys.seasonOverdue_of_seasoning st first)
  · intro s port t clean st new
    exact next_onSys (Sys.clean60_of_up clean st new)
  · intro s port lane corrected p n t
    exact next_onSys (congrArg Sys.settle (Sys.laneBer_eq ..))
  · intro s lane margin p named st active
    exact next_onSys (Sys.eyeMargin_of_active named st active)

end Sys2Proof.Machine
end

section
/-! The port command object, and the ends of a drain, a test and a BIST (13 R414, R423-R427). -/

namespace Sys2Proof.Machine

section
variable {path : Path} {s : Sys} {cmis : Option (List Byte)} (idle : (s.slot .port path).busy = false)
include idle

theorem portCmd_drain {port : Word} (st : (s.port (fld port 9 0)).st = .up) :
    portCmd path (BitVec.ofNat 32 (1 * 2 ^ 24)) cmis (s.setArgs .port path [(0, port)]) =
      .ok (((cmdTaken .port path 1 [(0, port)] [] s).startDrain (fld port 9 0)).settle.done .port path []) := by
  have kept : ((s.setArgs .port path [(0, port)]).port (fld port 9 0)).st = .up := st
  simp only [portCmd, Sys.busy_setArgs, idle, Sys.arg_setArgs_one, kept]
  simp [fld, bits, cmdTaken]

theorem portCmd_resume {port : Word} (st : (s.port (fld port 9 0)).st = .maintenance)
    (test : (s.port (fld port 9 0)).test = none) (free : s.bistHolds (fld port 9 0) = false) :
    portCmd path (BitVec.ofNat 32 (2 * 2 ^ 24)) cmis (s.setArgs .port path [(0, port)]) =
      .ok (((cmdTaken .port path 2 [(0, port)] [] s).startTraining (fld port 9 0)).settle.done .port path []) := by
  have runs : ((s.setArgs .port path [(0, port)]).port (fld port 9 0)).st = .maintenance ∧
      ((s.setArgs .port path [(0, port)]).port (fld port 9 0)).test.isNone = true ∧
      (!(s.setArgs .port path [(0, port)]).bistHolds (fld port 9 0)) = true :=
    ⟨st, (congrArg Option.isNone test).trans rfl, (congrArg not free).trans rfl⟩
  simp only [portCmd, Sys.busy_setArgs, idle, Sys.arg_setArgs_one, if_pos runs]
  simp [fld, bits, cmdTaken]

theorem portCmd_forget {port : Word} (may : s.rwsOk = .ok ()) :
    portCmd path (BitVec.ofNat 32 (3 * 2 ^ 24)) cmis (s.setArgs .port path [(0, port)]) =
      .ok (((((s.setArgs .port path [(0, port)]).modNv fun n => { n with season := del n.season (fld port 9 0) }).jrnl.accept
        .port path (BitVec.ofNat 32 (3 * 2 ^ 24)) []).settle).done .port path []) := by
  have kept : (s.setArgs .port path [(0, port)]).rwsOk = .ok () := may
  simp only [portCmd, Sys.busy_setArgs, idle, Sys.arg_setArgs_one, Sys.rws_of_rwsOk kept]
  simp [fld, bits]

theorem portCmd_laneTest {port pattern duration : Word} (least : 1 ≤ fld pattern 3 0) (most : fld pattern 3 0 ≤ 4)
    (st : (s.port (fld port 9 0)).st = .maintenance) (test : (s.port (fld port 9 0)).test = none)
    (long : 1 ≤ duration.toNat) (short : duration.toNat ≤ 60000) :
    portCmd path (BitVec.ofNat 32 (4 * 2 ^ 24)) cmis (s.setArgs .port path [(0, port), (1, pattern), (2, duration)]) =
      .ok ((cmdTaken .port path 4 [(0, port), (1, pattern), (2, duration)] [] s).modPort (fld port 9 0) fun q =>
        { q with
          test := some { path, pattern := BitVec.ofNat 4 (fld pattern 3 0)
                         stop := s.clk.mono + duration.toNat * 1000000 } }) := by
  have notUp : ¬ ((s.setArgs .port path [(0, port), (1, pattern), (2, duration)]).port (fld port 9 0)).st ≠ .maintenance :=
    not_not.2 st
  have untested : ((s.setArgs .port path [(0, port), (1, pattern), (2, duration)]).port (fld port 9 0)).test = none := test
  have known : ¬ 4 < fld pattern 3 0 := not_lt.2 most
  have runs : ¬ fld pattern 3 0 = 0 := by omega
  have inRange : ¬ (duration.toNat < 1 ∨ 60000 < duration.toNat) := by omega
  simp only [portCmd, Sys.busy_setArgs, idle, Sys.arg0_setArgs_three, Sys.arg1_setArgs_three, Sys.arg2_setArgs_three,
    untested, if_neg notUp, if_neg known, if_neg runs, if_neg inRange]
  simp [fld, bits, cmdTaken]

theorem portCmd_bist {die : Word} (quiet : s.dieQuiet (fld die 3 0) = true) (first : get? s.ports.bist (fld die 3 0) = none) :
    portCmd path (BitVec.ofNat 32 (5 * 2 ^ 24)) cmis (s.setArgs .port path [(0, die)]) =
      .ok ((cmdTaken .port path 5 [(0, die)] [] s).modPorts fun q => { q with bist := put q.bist (fld die 3 0) path }) := by
  have still : (s.setArgs .port path [(0, die)]).dieQuiet (fld die 3 0) = true := quiet
  have new : get? (s.setArgs .port path [(0, die)]).ports.bist (fld die 3 0) = none := first
  simp only [portCmd, Sys.busy_setArgs, idle, Sys.arg_setArgs_one, still, new]
  simp [fld, bits, cmdTaken]

theorem portCmd_cmisRead {cage address length : Word} {answer : List Byte} {u : CageUnit} (least : 1 ≤ length.toNat)
    (most : length.toNat ≤ 128) (unit : (s.cage (fld cage 6 0)).unit = some u) :
    portCmd path (BitVec.ofNat 32 (6 * 2 ^ 24)) (some answer)
        (s.setArgs .port path [(0, cage), (1, address), (2, length)]) =
      .ok (((cmdTaken .port path 6 [(0, cage), (1, address), (2, length)] [] s).emit
        (.cmisRead (BitVec.ofNat 7 (fld cage 6 0)) ((address.setWidth 24).setWidth 32) length.toNat)).done .port path
          (cmisWords (bytesAt answer 0 length.toNat))) := by
  have plugged : ((s.setArgs .port path [(0, cage), (1, address), (2, length)]).cage (fld cage 6 0)).unit = some u := unit
  have inRange : ¬ (length.toNat < 1 ∨ 128 < length.toNat) := by omega
  simp only [portCmd, Sys.busy_setArgs, idle, Sys.arg0_setArgs_three, Sys.arg1_setArgs_three, Sys.arg2_setArgs_three,
    plugged, if_neg inRange]
  simp [fld, bits, cmdTaken]

theorem portCmd_cmisWrite {args : List (Nat × Word)} {cage length : Word} {answer : List Byte} {u : CageUnit}
    (arg0 : ((s.setArgs .port path args).slot .port path).arg 0 = cage)
    (arg2 : ((s.setArgs .port path args).slot .port path).arg 2 = length) (least : 1 ≤ length.toNat)
    (most : length.toNat ≤ 120) (unit : (s.cage (fld cage 6 0)).unit = some u) :
    portCmd path (BitVec.ofNat 32 (7 * 2 ^ 24)) (some answer) (s.setArgs .port path args) =
      let arg (n : Nat) : Word := ((s.setArgs .port path args).slot .port path).arg n
      .ok (((cmdTaken .port path 7 args [] s).emit
        (.cmisWrite (BitVec.ofNat 7 (fld (arg 0) 6 0)) (((arg 1).setWidth 24).setWidth 32)
          ((wordsToBytes ((List.range 30).map fun i => arg (3 + i))).take length.toNat))).settle.done .port path []) := by
  have plugged : ((s.setArgs .port path args).cage (fld cage 6 0)).unit = some u := unit
  have inRange : ¬ (length.toNat < 1 ∨ 120 < length.toNat) := by omega
  simp only [portCmd, Sys.busy_setArgs, idle, arg0, arg2, plugged, if_neg inRange]
  simp [fld, bits, cmdTaken]

end

/-- The words that CMIS_WRITE puts into the ARGs, each once. -/
def cmisArgs (cage address length : Word) (data : List Word) : List (Nat × Word) :=
  [(0, cage), (1, address), (2, length)] ++ (List.range (min data.length 30)).map fun i => (3 + i, nth data i 0)

theorem nodup_cmisArgs {cage address length : Word} {data : List Word} :
    ((cmisArgs cage address length data).map Prod.fst).Nodup := by
  have places : (cmisArgs cage address length data).map Prod.fst =
      [0, 1, 2] ++ (List.range (min data.length 30)).map fun i => 3 + i := by
    simp [cmisArgs, Function.comp_def]
  rw [places, List.nodup_append]
  refine ⟨by decide, ?_, ?_⟩
  · exact List.nodup_range.map fun _ _ same => Nat.add_left_cancel same
  · intro a first b later
    obtain ⟨i, -, rfl⟩ := List.mem_map.1 later
    simp only [List.mem_cons, List.not_mem_nil, or_false] at first
    omega

section
variable {s : Sys}

theorem Sys.drainDone_of_idle {p t : Nat} (st : (s.port p).st = .draining) (drain : (s.port p).drain = some t)
    (idle : (s.eg p).idle = true) :
    s.drainDone p =
      (s.toMono (t + (s.port p).drainUs * 1000 + 2097152)).modPort p fun q => { q with st := .maintenance, drain := none } := by
  simp only [Sys.drainDone, st, drain, idle, if_true]

theorem Sys.laneTestEnd_of_test {p : Nat} {errors : List Word} {t : LaneTest} (test : (s.port p).test = some t) :
    s.laneTestEnd p errors =
      ((s.toMono t.stop).modPort p fun q => { q with test := none }).done .port t.path
        ((List.range 8).map fun i => (i, nth errors i 0)) := by
  simp only [Sys.laneTestEnd, test]

theorem Sys.bistDone_of_path {d : Nat} {failed : Word} {path : Path} (bist : get? s.ports.bist d = some path) :
    s.bistDone d failed =
      let t := s.modPorts fun q =>
        { q with
          bist := del q.bist d
          bistFailed := if failed = 0 then q.bistFailed.filter fun x => x != d else insertNat d q.bistFailed }
      (if failed = 0 then (s.diePorts d).foldl (fun a p => a.tryEnable p) t
        else t.faultUnit faultDieBist d []).done .port path [(0, failed)] := by
  simp only [Sys.bistDone, bist]

end

/-- Settles O30: the port command object's commands run in the states that take them, and what they start ends. -/
theorem portCommandsRun : Obligations.PortCommandsRun := by
  unfold Obligations.PortCommandsRun
  refine ⟨?_, ?_, ?_, ?_, ?_, ?_, ?_, ?_, ?_, ?_⟩
  · intro s path port ⟨gate, idle⟩ p st
    exact next_request_of_ok gate (f := fun x => _) (portCmd_drain idle st)
  · intro s path port ⟨gate, idle⟩ p st test free
    exact next_request_of_ok gate (f := fun x => _) (portCmd_resume idle st test free)
  · intro s path port ⟨gate, idle⟩ may
    exact next_request_of_ok gate (f := fun x => _) (portCmd_forget idle may)
  · intro s path port pattern duration ⟨gate, idle⟩ p n least most st test long short
    exact next_request_of_ok gate
      (f := fun x => (cmdTaken .port path 4 [(0, port), (1, pattern), (2, duration)] [] x).modPort p fun q =>
        { q with test := some { path, pattern := BitVec.ofNat 4 n, stop := s.sys.clk.mono + duration.toNat * 1000000 } })
      (portCmd_laneTest idle least most st test long short)
  · intro s path die ⟨gate, idle⟩ d quiet first
    exact next_request_of_ok gate (f := fun x => _) (portCmd_bist idle quiet first)
  · intro s path cage address length answer u ⟨gate, idle⟩ least most unit
    exact next_request_of_ok gate (f := fun x => _) (portCmd_cmisRead idle least most unit)
  · intro s path cage address length data u ⟨gate, idle⟩ least most unit args arg
    have arg0 : arg 0 = cage :=
      Sys.arg_setArgs_of_mem nodup_cmisArgs (List.mem_append_left _ (List.mem_cons_self ..))
    have arg2 : arg 2 = length :=
      Sys.arg_setArgs_of_mem nodup_cmisArgs (List.mem_append_left _ (by simp))
    exact next_request_of_ok gate
      (f := fun x => ((cmdTaken .port path 7 args [] x).emit
        (.cmisWrite (BitVec.ofNat 7 (fld (arg 0) 6 0)) (((arg 1).setWidth 24).setWidth 32)
          ((wordsToBytes ((List.range 30).map fun i => arg (3 + i))).take length.toNat))).settle.done .port path [])
      (portCmd_cmisWrite idle arg0 arg2 least most unit)
  · intro s port t st drain idle
    exact next_onSys (Sys.drainDone_of_idle st drain idle)
  · intro s port errors t test
    exact next_onSys (Sys.laneTestEnd_of_test test)
  · intro s die failed path bist d t
    exact next_onSys (Sys.bistDone_of_path bist)

end Sys2Proof.Machine
end

section
/-! Cages: units that come, go and draw too much, J2, and the neighbours' fault notices (13 R406-R419; 22 R628-R632). -/

namespace Sys2Proof.Machine

section
variable {s : Sys} {c : Nat} {u : CageUnit}

theorem Sys.cageInsert_of_power (on : s.portsOn = true) (j2 : s.boot.j2Lost = false) :
    s.cageInsert c u = (s.modCage c fun _ => { unit := some u }).findUnit c := by
  have powered : ((s.modCage c fun _ => { unit := some u }).portsOn &&
      !(s.modCage c fun _ => { unit := some u }).boot.j2Lost) = true := by
    change (s.portsOn && !s.boot.j2Lost) = true
    rw [on, j2]
    rfl
  simp only [Sys.cageInsert, powered, if_true]

theorem Sys.cageRemove_of_unit (unit : (s.cage c).unit = some u) (on : s.portsOn = true) :
    let t := (s.modCage c fun _ => {}).modPorts fun q => { q with cageQueue := q.cageQueue.filter fun x => x != c }
    s.cageRemove c = (t.cageFault c).queuePass := by
  have on' : ((s.modCage c fun _ => {}).modPorts fun q =>
      { q with cageQueue := q.cageQueue.filter fun x => x != c }).portsOn = true := on
  simp only [Sys.cageRemove, unit, Option.isNone_some, Bool.false_eq_true, if_false, on', if_true]

theorem Sys.cageOver_of_unit (unit : (s.cage c).unit = some u) (lit : (s.cage c).off = false) (on : s.portsOn = true)
    (j2 : s.boot.j2Lost = false) :
    s.cageOver c =
      ((((s.modCage c fun x => { x with off := true, lowPower := true, released := false }).modPorts fun q =>
        { q with cageQueue := q.cageQueue.filter fun x => x != c }).powerNotice c).cageFault c).queuePass := by
  have runs : ¬ ((s.cage c).unit.isNone = true ∨ (s.cage c).off = true ∨ (!s.portsOn) = true ∨ s.boot.j2Lost = true) := by
    simp [unit, lit, on, j2]
  simp only [Sys.cageOver, if_neg runs]

/-- CMIS has an answer of a unit in a cage with power. -/
theorem Sys.cmis_open (unit : (s.cage c).unit = some u) (on : s.portsOn = true) :
    ¬ ((s.cage c).unit.isNone = true ∨ (!s.portsOn) = true) := by
  simp [unit, on]

theorem Sys.j2_lost (j2 : s.boot.j2Lost = false) (on : s.portsOn = true) :
    let u := (s.modBoot fun b => { b with j2Lost := true }).modPorts fun q =>
      { q with cage := q.cage.map fun e => (e.1, { e.2 with lowPower := true, released := false }), cageQueue := [] }
    s.j2 true = (u.upPorts.foldl (fun a p => a.linkFault p 1) u).settle := by
  have changes : ¬ s.boot.j2Lost = true := by simp [j2]
  have on' : (s.modBoot fun b => { b with j2Lost := true }).portsOn = true := on
  simp only [Sys.j2, if_neg changes, on', Bool.not_true, Bool.false_eq_true, if_false, if_true]

theorem Sys.j2_back (j2 : s.boot.j2Lost = true) (on : s.portsOn = true) :
    s.j2 false = (s.modBoot fun b => { b with j2Lost := false }).powerCages := by
  have changes : ¬ s.boot.j2Lost = false := by simp [j2]
  have on' : (s.modBoot fun b => { b with j2Lost := false }).portsOn = true := on
  simp only [Sys.j2, if_neg changes, on', Bool.not_true, Bool.false_eq_true, if_false]

theorem Sys.faultNotice_of_delivery {d : Delivery} {t : Sys}
    (came : s.takeDelivery (fun d => d.svc == 5 && d.pkt.kind == 7) = some (d, t)) :
    s.faultNotice =
      ((t.tally itemNoticeSink (t.portOf d)).log (wordAt d.pkt.payload 0) 0x03 20 (beAt d.pkt.payload 12 4 / 2 ^ 22) 4
        ((wordAt d.pkt.payload 4).setWidth 64) []).consume d := by
  simp only [Sys.faultNotice, came]

end

/-- Settles O31: what happens to a unit, to J2 and to a neighbour has its effect while the cages have power. -/
theorem cagesRun : Obligations.CagesRun := by
  unfold Obligations.CagesRun
  refine ⟨?_, ?_, ?_, ?_, ?_, ?_, ?_, ?_⟩
  · intro s cage unit on j2
    exact next_onSys (Sys.cageInsert_of_power on j2)
  · intro s cage u unit on t
    exact next_onSys (Sys.cageRemove_of_unit unit on)
  · intro s cage u unit lit on j2
    exact next_onSys (Sys.cageOver_of_unit unit lit on j2)
  · intro s cage u alarms unit on
    exact next_onSys (if_neg (Sys.cmis_open unit on))
  · intro s cage u monitors unit on
    exact next_onSys (if_neg (Sys.cmis_open unit on))
  · intro s j2 on u
    exact next_onSys (Sys.j2_lost j2 on)
  · intro s j2 on
    exact next_onSys (Sys.j2_back j2 on)
  · intro s d t came l
    exact next_onSys (Sys.faultNotice_of_delivery came)

end Sys2Proof.Machine
end

section
/-! Errors of HBM and SRAM, the patrol, bank rotation, and the loss of stacks and dies (14 R437-R448; 01 R34). -/

namespace Sys2Proof.Machine

section
variable {s : Sys}

theorem Sys.uncorrectable_of_has {addr : Nat} {item : HbmItem} (has : s.hbmHas addr = true) :
    s.uncorrectable addr item =
      let m := hbmMap s.liveStacks addr
      let t := s.modStack m.1 fun x =>
        { x with ue := if x.ue = 0xFFFFFFFFFFFFFFFF then x.ue else x.ue + 1, cycleUe := x.cycleUe + 1 }
      let u := (t.count 0x9050 m.1 0 1).modMem fun y => { y with poisoned := put y.poisoned (addr / 256) item }
      ((u.log Config.memErrorCode 0x05 m.1 0 2 (BitVec.ofNat 64 addr)
        [BitVec.ofNat 32 (regionAt (regionSizes s.mem.alloc) 0 addr * 2 ^ 24 + m.1 * 2 ^ 16)]).spareRow m.1
        (m.2 / 1024) addr).itemLost item := by
  simp only [Sys.uncorrectable, has, Bool.not_true, Bool.false_eq_true, if_false]

/-! ## The patrol -/

section
variable {addr : Nat} {item : HbmItem} {r : ScrubResult} (allocated : addr < s.allocated) (within : s.mem.patrolNext < s.units)
  (ahead : s.mem.patrolNext ≤ addr / 256)
include allocated within ahead

/-- The patrol of a pass that runs reads up to a unit ahead of it. -/
theorem Sys.patrol_ahead :
    s.patrol addr r item =
      let bad := s.mem.poisoned.filter fun e => decide (s.mem.patrolNext ≤ e.1) && decide (e.1 ≤ addr / 256)
      let t := bad.foldl (fun t e => t.uncorrectable (e.1 * 256) e.2) (s.modMem fun m => { m with patrolNext := addr / 256 + 1 })
      (if bad.any fun e => e.1 == addr / 256 then t
        else
          match r with
          | .clean => t
          | .corrected => t.correctable addr
          | .uncorrectable => t.uncorrectable addr item).patrolEnd := by
  have running : s.patrolPeriod = s := if_pos within
  rw [Sys.patrol, if_neg (not_le.2 allocated), running]
  simp only [if_neg (not_lt.2 ahead)] <;> rfl

/-- Without a poisoned unit on its way, the patrol finds what is at its end (14 R437, R439). -/
theorem Sys.patrol_of_none_poisoned (sound : ∀ e ∈ s.mem.poisoned, e.1 < s.mem.patrolNext ∨ addr / 256 < e.1) :
    s.patrol addr r item =
      let t := s.modMem fun m => { m with patrolNext := addr / 256 + 1 }
      (match r with
        | .clean => t
        | .corrected => t.correctable addr
        | .uncorrectable => t.uncorrectable addr item).patrolEnd := by
  have none_ : (s.mem.poisoned.filter fun e => decide (s.mem.patrolNext ≤ e.1) && decide (e.1 ≤ addr / 256)) = [] := by
    rw [List.filter_eq_nil_iff]
    intro e mem
    have := sound e mem
    simp only [Bool.and_eq_true, decide_eq_true_eq]
    omega
  rw [Sys.patrol_ahead allocated within ahead]
  simp only [none_, List.foldl_nil, List.any_nil, Bool.false_eq_true, if_false]

/-- A poisoned unit at the end of the way reports its own error again (14 R437). -/
theorem Sys.patrol_of_poisoned {held : HbmItem}
    (found : (s.mem.poisoned.filter fun e => decide (s.mem.patrolNext ≤ e.1) && decide (e.1 ≤ addr / 256)) =
      [(addr / 256, held)]) :
    s.patrol addr r item =
      ((s.modMem fun m => { m with patrolNext := addr / 256 + 1 }).uncorrectable (addr / 256 * 256) held).patrolEnd := by
  have ends : ([(addr / 256, held)].any fun e => e.1 == addr / 256) = true := by
    rw [List.any_cons, beq_self_eq_true, Bool.true_or]
  rw [Sys.patrol_ahead allocated within ahead]
  simp only [found]
  rw [if_pos ends, List.foldl_cons, List.foldl_nil]

end

/-! ## SRAM -/

theorem Sys.sramLost_packet {id : Nat} {r : PktRec} (rec : s.pktRec id = some r) :
    s.sramLost (.packet id) = (s.sramError r.die).losePacket id := by
  simp only [Sys.sramLost, rec]

theorem Sys.sramLost_flow {i : Nat} {f : Flow} (flow : get? s.flows.ctx i = some f) :
    s.sramLost (.flow i) = (s.sramError (16 + f.home)).loseFlow i := by
  simp only [Sys.sramLost, flow]

section
variable {pool : SramPool} (on : s.mem.cfg.rotate = true) (spare : s.mem.noSpare.contains (poolKey pool).1 = false)
include on spare

theorem Sys.rotate_eq (passed : Bool) :
    let k := poolKey pool
    let b := getD s.mem.nextBank k.1 0
    let t := s.toMono (getD s.mem.rotated k.1 0 + s.bankPeriod k.2.2)
    let u := t.modMem fun m => { m with rotated := put m.rotated k.1 t.clk.mono }
    s.rotate pool passed =
      if passed then
        u.modMem fun m => { m with nextBank := put m.nextBank k.1 ((b + 1) % (k.2.2 + 1)), spareBank := put m.spareBank k.1 b }
      else (u.modMem fun m => { m with noSpare := insertNat k.1 m.noSpare }).faultUnit faultSramBank k.2.1 [] := by
  have runs : (!s.mem.cfg.rotate || s.mem.noSpare.contains (poolKey pool).1) = false := by rw [on, spare]; rfl
  simp only [Sys.rotate, runs, Bool.false_eq_true, if_false]

end

/-! ## Stacks and dies -/

theorem Sys.loseStack_of_present {k : Nat} {cause : BitVec 8} (present : get? s.nv.stackLost k = none) :
    let t := (s.modNv fun n =>
      { n with stackLost := put n.stackLost k cause, spill := { n.spill with enable := false } }).jrnl.jrnl
    let u := (t.modMem fun m =>
      { m with alloc := 255, remapping := true, poisoned := [], patrolNext := 0, patrolStart := s.clk.mono }).modSw fun w =>
      { w with spillCfg := { w.spillCfg with enable := false } }
    s.loseStack k cause true = u.stopServices.dropSpill.freeFlows.faultUnit faultHbmLost k [cause.setWidth 32] := by
  simp only [Sys.loseStack, present, Option.isSome_none, Bool.false_eq_true, if_false, if_true]

theorem Sys.loseDie_of_present {u : Nat} (present : s.boot.lostDies.contains u = false) (lit : s.boot.mode ≠ .off)
    (free : s.boot.mode ≠ .held) :
    let t := (s.modBoot fun b =>
      { b with lostDies := insertNat u b.lostDies, dieResets := del b.dieResets u }).dropLinks u
    let v := if u < 16 then t.dropDie u else t.dropCore (u - 16)
    s.loseDie u = (((v.loseStack u 0 false).dropFences u).faultUnit faultDieLost u []).loseCollierDie u := by
  have runs : ¬ (s.boot.lostDies.contains u = true ∨ s.boot.mode = .off ∨ s.boot.mode = .held) := by
    rw [present]
    simp [lit, free]
  simp only [Sys.loseDie, if_neg runs]

end

/-- Settles O32: an error takes what its unit holds, the patrol goes on in order, and what is lost takes its own with it. -/
theorem memoryEventsRun : Obligations.MemoryEventsRun := by
  unfold Obligations.MemoryEventsRun
  refine ⟨?_, ?_, ?_, ?_, ?_, ?_, ?_, ?_, ?_, ?_, ?_⟩
  · intro s address item has addr m t u
    exact next_onSys (Sys.uncorrectable_of_has has)
  · intro s address item u allocated within ahead sound t
    exact ⟨next_onSys (Sys.patrol_of_none_poisoned allocated within ahead sound),
      next_onSys (Sys.patrol_of_none_poisoned allocated within ahead sound),
      next_onSys (Sys.patrol_of_none_poisoned allocated within ahead sound)⟩
  · intro s address result item held u allocated within ahead found
    exact next_onSys (Sys.patrol_of_poisoned allocated within ahead found)
  · intro s id r rec
    exact next_onSys (Sys.sramLost_packet rec)
  · intro s ctx tile t
    rfl
  · intro s die i
    rfl
  · intro s i f flow
    exact next_onSys (Sys.sramLost_flow flow)
  · intro s pool on k spare b t u
    exact ⟨next_onSys (Sys.rotate_eq on spare true), next_onSys (Sys.rotate_eq on spare false)⟩
  · intro s stack cause inside present t u
    exact (if_pos inside).trans (next_onSys (Sys.loseStack_of_present present))
  · intro s
    rfl
  · intro s unit inside present lit free t v
    exact (if_pos inside).trans
      (next_onSys (congrArg (fun x => (Sys.loseIsolated 20 x).settle) (Sys.loseDie_of_present present lit free)))

end Sys2Proof.Machine
end

section
/-! Flits that arrive on the Felt, NAKs, route fences and recentring (15 R456-R468). -/

namespace Sys2Proof.Machine

section
variable {s : Sys} {l : Nat} {far : Bool} {m : Nat} {f : List Byte} (live : s.linkLive l = true)
include live

theorem Sys.flitReceive_of_bad (bad : (FlitHead.of f).ok = false) :
    let key := 2 * m + b2n far
    let n := getD (s.link l).crcFails key 0 + 1
    let t := ((s.modLink l fun x => { x with crcFails := put x.crcFails key n }).count 0x9050 (dirTo l far) 2 1).returnNak l far
    s.flitReceive l far m f = if 8 ≤ n then t.pauseModule l m else t := by
  simp only [Sys.flitReceive, live, bad, Bool.not_true, Bool.not_false, Bool.false_eq_true, if_false, if_true]

/-- Whatever a good flit does, the senders go on after it. -/
theorem Sys.flitReceive_of_good (good : (FlitHead.of f).ok = true) :
    let h := FlitHead.of f
    let t := (s.modLink l fun x => { x with crcFails := del x.crcFails (2 * m + b2n far) }).feltAck l (!far) h
    let d := (t.link l).dir far
    let ahead := (h.seq - d.rxNext).toNat
    s.flitReceive l far m f =
      (if h.ftype = 0 ∨ 2048 ≤ ahead then t
        else if ahead = 0 then t.takeRun l far 256 f
        else if d.nak then t
        else if ahead < (t.modsOn l).length then
          t.modDir l far fun d => { d with early := (d.early.filter fun e => e.1 != h.seq) ++ [(h.seq, f)] }
        else t.returnNak l far).pumpAll := by
  simp only [Sys.flitReceive, live, good, Bool.not_true, Bool.false_eq_true, if_false, apply_ite Sys.pumpAll]

theorem Sys.nakReceive_of_nak (good : (FlitHead.of f).ok = true) (nak : (FlitHead.of f).nak = true) :
    let h := FlitHead.of f
    s.nakReceive l far f =
      ((s.modDir l (!far) fun d =>
        { d with
          retry := d.retry.filter fun x => !seqLe x.seq h.ackSeq
          sent := d.sent.filter fun x => !seqLe x.1 h.ackSeq }).resend l (!far)).pumpAll := by
  simp only [Sys.nakReceive, Sys.feltAck, live, good, nak, Bool.and_self, if_true]

end

theorem Sys.recentre_of_up {s : Sys} {l m : Nat} (up : s.linkUp l = true) (active : (s.agreed l).mask.getLsbD m = true) :
    s.recentre l m =
      (s.toMono (getD (s.link l).recentred m 0 + 1000000000)).modLink l fun x =>
        { x with recentred := put x.recentred m (s.toMono (getD (s.link l).recentred m 0 + 1000000000)).clk.mono } := by
  simp only [Sys.recentre, up, active, Bool.and_self, if_true]

/-- Settles O33: a flit is refused, taken or kept by its CRC and its number; NAKs, fences and modules have their effect. -/
theorem feltFlitsRun : Obligations.FeltFlitsRun := by
  unfold Obligations.FeltFlitsRun
  refine ⟨?_, ?_, ?_, ?_, ?_⟩
  · intro s link far lmod flit inside live bad key n t
    exact (if_pos inside).trans (next_onSys (Sys.flitReceive_of_bad live bad))
  · intro s link far lmod flit inside live h good t d ahead
    exact (if_pos inside).trans (next_onSys (Sys.flitReceive_of_good live good))
  · intro s link far flit inside live h good nak
    exact (if_pos inside).trans (next_onSys (Sys.nakReceive_of_nak live good nak))
  · intro s source dest first second out
    exact (if_pos ⟨first, second⟩).trans (next_onSys (if_pos out))
  · intro s link lmod inside up active t
    exact (if_pos inside).trans (next_onSys (Sys.recentre_of_up up active))

end Sys2Proof.Machine
end

section
/-! The records of a Felt link, its agreement and its repairs, tests and retrains (15 R458-R469). -/

namespace Sys2Proof.Machine

/-! ## Agreement -/

section
variable {s : Sys} {l : Nat} {far : Bool} {b : List Byte} {r : FeltRec}

@[simp] theorem Sys.link_modLink_same (f : FeltLink → FeltLink) : (s.modLink l f).link l = f (s.link l) :=
  getD_modify_same ..

theorem Sys.propose_of_record (rec : FeltRec.of l b = some r) :
    let t := (s.modNv fun n =>
      if far then { n with feltFar := put n.feltFar l r } else { n with feltNear := put n.feltNear l r }).jrnl
    let u := t.reroute [] fun t => t.modLink l fun x =>
      { x with
        st := .agreeing, propNear := if far then x.propNear else some r, propFar := if far then some r else x.propFar
        agreeStart := some (x.agreeStart.getD s.clk.mono), retryAt := none }
    s.propose l far b =
      match (u.link l).propNear, (u.link l).propFar with
      | some a, some b => (u.sayRecord l false (u.agreeOf l a b)).sayRecord l true (u.agreeOf l a b)
      | _, _ => u := by
  simp only [Sys.propose, rec] <;> rfl

/-- The second of two confirmations of the agreed record puts the link into service (15 R464). -/
theorem Sys.confirm_of_agreed {x y : FeltRec} (rec : FeltRec.of l b = some r) (near : (s.link l).propNear = some x)
    (far_ : (s.link l).propFar = some y) (st : (s.link l).st = .agreeing) (agreed : s.agreeOf l x y = r) (some_ : r.mask ≠ 0)
    (other : (if far then (s.link l).confNear else (s.link l).confFar) = some r) :
    s.confirm l far b =
      (s.modLink l fun x => if far then { x with confFar := some r } else { x with confNear := some r }).enterService l r := by
  have runs : ¬ (s.link l).st ≠ .agreeing := not_not.2 st
  have same : ¬ (r ≠ r ∨ r ≠ s.agreeOf l x y) := by simp [agreed]
  simp only [Sys.confirm, rec, near, far_, if_neg runs, Sys.link_modLink_same]
  cases far with
  | false =>
    have confFar : (s.link l).confFar = some r := other
    simp only [Bool.false_eq_true, if_false, confFar, if_neg same, if_neg some_]
  | true =>
    have confNear : (s.link l).confNear = some r := other
    simp only [if_true, confNear, if_neg same, if_neg some_]

theorem Sys.agreeTimeout_of_start {t : Nat} (start : (s.link l).agreeStart = some t) (st : (s.link l).st = .agreeing) :
    s.agreeTimeout l = (s.toMono (t + 200000)).linkDown l true := by
  simp only [Sys.agreeTimeout, start, st, if_true]

theorem Sys.agreeOf_eq (x y : FeltRec) :
    s.agreeOf l x y =
      agreeRecs l (if (s.link l).fresh then [] else (s.link l).cleared) (if (s.link l).fresh then {} else s.agreed l) x y := by
  rw [Sys.agreeOf]
  split <;> rfl

theorem Sys.retrainRetry_of_due {near far : List (Nat × List Nat)} {t : Nat} (st : (s.link l).st = .down)
    (due : (s.link l).retryAt = some t) (first : s.boot.lostDies.contains (linkEnds l).1 = false)
    (second : s.boot.lostDies.contains (linkEnds l).2 = false) :
    s.retrainRetry l near far = (s.toMono t).trainLink l near far := by
  simp only [Sys.retrainRetry, st, due, first, second, Bool.or_self, Bool.false_eq_true, if_false]

theorem Sys.trainLink_eq (near far : List (Nat × List Nat)) :
    let fresh := (s.link l).fresh
    let c := if fresh then [] else (s.link l).cleared
    let a := trainedRec l fresh (getD s.nv.feltNear l {}) c near
    let b := trainedRec l fresh (getD s.nv.feltFar l {}) c far
    let r := agreeRecs l c (if fresh then {} else s.agreed l) a b
    let t := (((s.modNv fun n =>
      { n with feltNear := put n.feltNear l a, feltFar := put n.feltFar l b }).jrnl).sayRecord l false a).sayRecord l true b
    s.trainLink l near far =
      if r.mask = 0 then t.linkDown l true else ((t.sayRecord l false r).sayRecord l true r).enterService l r := by
  simp only [Sys.trainLink, Sys.agreeOf_eq]

end

/-! ## Repairs and tests -/

section
variable {s : Sys} {l m lane : Nat}

/-- A lane check of a paused module: its clock and its failed lanes decide (15 R458). -/
theorem Sys.laneCheck_eq (clockLost : Bool) (failed : List Nat) :
    let t := s.modLink l fun x => { x with crcFails := x.crcFails.filter fun e => e.1 / 2 != m }
    s.laneCheck l m clockLost failed =
      if clockLost = true ∨ 4 < failed.length then t.clearModule l m
      else
        ((failed.foldl (fun u lane => if lane < 68 then u.repairLane l m lane else u) t).modLink l fun x =>
          { x with paused := x.paused.filter fun i => i != m }).pumpAll := by
  simp only [Sys.laneCheck, Bool.or_eq_true, decide_eq_true_eq]

theorem Sys.repairLane_of_spare {lanes : List Nat} (active : (s.agreed l).mask.getLsbD m = true)
    (steered : steerLane ((s.agreed l).lanes m) lane = some lanes) (new : lanes ≠ (s.agreed l).lanes m) :
    s.repairLane l m lane =
      (((s.pauseModule l m).agreeModule l
        { s.agreed l with gen := (s.agreed l).gen + 1, repair := put (s.agreed l).repair m lanes }).modLink l fun x =>
          { x with paused := x.paused.filter fun i => i != m }).feltFault l Config.feltRepairCode := by
  simp only [Sys.repairLane, active, steered, Bool.not_true, Bool.false_eq_true, if_false, if_neg new]

theorem Sys.repairLane_of_none (active : (s.agreed l).mask.getLsbD m = true)
    (steered : steerLane ((s.agreed l).lanes m) lane = none) : s.repairLane l m lane = s.clearModule l m := by
  simp only [Sys.repairLane, active, steered, Bool.not_true, Bool.false_eq_true, if_false]

theorem Sys.modtestEnd_of_test {failed : List Nat} {x : FeltTest} (test : (s.link l).test = some x) :
    let mask (lo hi : Nat) : Word :=
      BitVec.ofNat 32
        (sum (((List.range 69).filter fun i => lo ≤ i && i < hi && failed.contains i).map fun i => 2 ^ (i - lo)))
    let t := (s.toMono (x.start + x.duration)).modLink l fun x => { x with test := none }
    s.modtestEnd l failed =
      (t.laneCheck l x.lmod (failed.contains 68) (failed.filter fun i => i < 68)).done .felt x.path
        [(0, mask 0 32), (1, mask 64 69)] := by
  simp only [Sys.modtestEnd, test]

/-- A link in service is not agreeing. -/
theorem Sys.not_agreeing_of_linkUp (up : s.linkUp l = true) : ((s.link l).st == .agreeing) = false := by
  rw [Sys.linkUp, Bool.or_eq_true, beq_iff_eq, beq_iff_eq] at up
  rcases up with st | st <;> rw [st] <;> rfl

end

section
variable {path : Path} {s : Sys} (idle : (s.slot .felt path).busy = false)
include idle

theorem feltCmd_modtest {link lmod duration : Word} (known : fld link 5 0 ≤ 37) (has : fld lmod 4 0 < linkMods (fld link 5 0))
    (long : 4 ≤ duration.toNat) (short : duration.toNat ≤ 100000) (up : s.linkUp (fld link 5 0) = true)
    (active : (s.agreed (fld link 5 0)).mask.getLsbD (fld lmod 4 0) = true)
    (left : (s.agreed (fld link 5 0)).mask ≠ BitVec.ofNat 32 (2 ^ fld lmod 4 0)) (test : (s.link (fld link 5 0)).test = none)
    (retrain : (s.link (fld link 5 0)).retrain = []) :
    feltCmd path (BitVec.ofNat 32 (1 * 2 ^ 24)) (s.setArgs .felt path [(0, link), (1, lmod), (2, duration)]) =
      .ok (((cmdTaken .felt path 1 [(0, link), (1, lmod), (2, duration)] [] s).modLink (fld link 5 0) fun x =>
        { x with test := some { path, lmod := fld lmod 4 0, start := s.clk.mono, duration := duration.toNat * 1000 } }).pauseModule
          (fld link 5 0) (fld lmod 4 0)) := by
  generalize args : [(0, link), (1, lmod), (2, duration)] = a
  have arg0 : ((s.setArgs .felt path a).slot .felt path).arg 0 = link := by rw [← args, Sys.arg0_setArgs_three]
  have arg1 : ((s.setArgs .felt path a).slot .felt path).arg 1 = lmod := by rw [← args, Sys.arg1_setArgs_three]
  have arg2 : ((s.setArgs .felt path a).slot .felt path).arg 2 = duration := by rw [← args, Sys.arg2_setArgs_three]
  have sameLink : (s.setArgs .felt path a).link (fld link 5 0) = s.link (fld link 5 0) := rfl
  have sameRec : (s.setArgs .felt path a).agreed (fld link 5 0) = s.agreed (fld link 5 0) := rfl
  have sameUp : (s.setArgs .felt path a).linkUp (fld link 5 0) = true := up
  have inRange : ¬ (37 < fld link 5 0 ∨ linkMods (fld link 5 0) ≤ fld lmod 4 0 ∨ duration.toNat < 4 ∨
      100000 < duration.toNat) := by omega
  simp only [feltCmd, Sys.busy_setArgs, idle, arg0, arg1, arg2, sameLink, sameRec, sameUp, test, retrain, active,
    Sys.not_agreeing_of_linkUp up, if_neg inRange, if_neg left]
  simp [fld, bits, cmdTaken]

theorem feltCmd_retrain {link : Word} (known : fld link 5 0 ≤ 37) :
    feltCmd path (BitVec.ofNat 32 (2 * 2 ^ 24)) (s.setArgs .felt path [(0, link)]) =
      .ok (((cmdTaken .felt path 2 [(0, link)] [] s).quiesce (fld link 5 0)).modLink (fld link 5 0) fun x =>
        { x with retrain := x.retrain ++ [path] }) := by
  have inRange : ¬ 37 < fld link 5 0 := not_lt.2 known
  simp only [feltCmd, Sys.busy_setArgs, idle, Sys.arg_setArgs_one, if_neg inRange]
  simp [fld, bits, cmdTaken]

end

/-- A Felt event, in READY with the dies that it isolates. -/
theorem next_feltEvent {s : State} {f : Sys → Sys} {u : Sys} (act : f s.sys = u) :
    (.next (s.onSys (Sys.feltEvent f)) : Host.Outcome State Fault Refusal) =
      .next { s with sys := if u.boot.mode = .ready then (u.loseIsolated 20).settle else u } := by
  subst act
  rfl

/-- Settles O34: links agree and go down, and their modules are paused, repaired, tested and retrained. -/
theorem feltAgreementAndRepairsRun : Obligations.FeltAgreementAndRepairsRun := by
  unfold Obligations.FeltAgreementAndRepairsRun
  refine ⟨?_, ?_, ?_, ?_, ?_, ?_, ?_, ?_, ?_, ?_, ?_⟩
  · intro s link far record r inside rec t u
    exact (if_pos inside).trans (next_onSys (Sys.propose_of_record rec))
  · intro s link far record a b r inside rec near far_ st agreed some_ other t u
    exact (if_pos inside).trans (next_feltEvent (Sys.confirm_of_agreed rec near far_ st agreed some_ other))
  · intro s link t inside start st u
    exact (if_pos inside).trans (next_feltEvent (Sys.agreeTimeout_of_start start st))
  · intro s link near far t inside st due first second u fresh c a b r v
    exact (if_pos inside).trans
      (next_onSys ((Sys.retrainRetry_of_due st due first second).trans (Sys.trainLink_eq near far)))
  · intro s link inside up u
    exact (if_pos inside).trans (next_feltEvent (if_pos up))
  · intro s link lmod clockLost failed inside t u
    exact (if_pos inside).trans (next_feltEvent (Sys.laneCheck_eq clockLost failed))
  · intro s link lmod lane lanes inside data r active steered new u
    exact (if_pos inside).trans (next_feltEvent ((if_pos data).trans (Sys.repairLane_of_spare active steered new)))
  · intro s link lmod lane inside data active steered u
    exact (if_pos inside).trans (next_feltEvent ((if_pos data).trans (Sys.repairLane_of_none active steered)))
  · intro s path link lmod duration ⟨gate, idle⟩ l m us x mask known has long short up active left test retrain
    exact next_request_of_ok gate
      (f := fun y => ((cmdTaken .felt path 1 [(0, link), (1, lmod), (2, duration)] [] y).modLink l fun x =>
        { x with test := some { path, lmod := m, start := s.sys.clk.mono, duration := us * 1000 } }).pauseModule l m)
      (feltCmd_modtest idle known has long short up active left test retrain)
  · intro s link failed x inside test mask t u
    exact (if_pos inside).trans (next_feltEvent (Sys.modtestEnd_of_test test))
  · intro s path link ⟨gate, idle⟩ l known
    exact next_request_of_ok gate (f := fun x => _) (feltCmd_retrain idle known)

end Sys2Proof.Machine
end

section
/-! Sources of the fabric time, its steps, holdover and pulses, and its registers (16 R477-R492). -/

namespace Sys2Proof.Machine

/-! ## Sources -/

section
variable {s : Sys}

/-- A TIME of an UP port that is valid and not in holdover is measured and counts toward the fourth (16 R477). -/
theorem Sys.timeReceive_of_valid {p : Nat} {b : List Byte} (up : (s.port p).st = .up) (on : s.timeOn = true)
    (valid : bit (beAt b 2 1) 7 = true) (held : bit (beAt b 2 1) 6 = false) :
    let x := getD s.clk.links p {}
    s.timeReceive p b =
      ((s.modClk fun c =>
        { c with
          links := put c.links p { good := x.good + 1, qualified := x.qualified || 4 ≤ x.good + 1, last := c.mono } }).measure 3 p
        (BitVec.ofInt 32 ((s.now - wordAt b 4).toInt - (s.port p).delay - getD s.nv.asym p 0)).toInt).sourceChange := by
  have counts : (bit (beAt b 2 1) 7 && !bit (beAt b 2 1) 6 && (s.port p).st == .up) = true := by
    rw [valid, held, up]
    rfl
  simp only [Sys.timeReceive, on, Bool.not_true, Bool.false_eq_true, if_false, counts, if_true]

theorem Sys.timeTimeout_of_link {p : Nat} {x : LinkSrc} (link : get? s.clk.links p = some x) :
    s.timeTimeout p = ((s.toMono (x.last + 65536)).modClk fun c => { c with links := del c.links p }).sourceChange := by
  simp only [Sys.timeTimeout, link]

section
variable {portB : Bool} {m : PtpMsg} (on : s.timeOn = true) (transport : m.ieee8023 = s.clk.cfg.ptpXport)
  (domain : m.domain = s.clk.cfg.ptpDomain.setWidth 8)
include on transport domain

/-- A message of the port's own transport and domain is heard (16 R481). -/
theorem Sys.ptpMessage_of_own {body : PtpBody} (carried : m.body = body) :
    s.ptpMessage portB m = s.ptpBody portB m.sender body := by
  have own : (s.timeOn && m.ieee8023 == s.clk.cfg.ptpXport && m.domain == s.clk.cfg.ptpDomain.setWidth 8) = true := by
    simp [on, transport, domain]
  rw [Sys.ptpMessage, if_pos own, carried]

end

section
variable {portB : Bool} {sender : Nat}

theorem Sys.ptpBody_announce (a : PtpAnnounce) :
    let x := s.clk.ptp portB
    let y := { x with masters := (x.masters.filter fun n => n.sender != sender) ++ [{ a with sender }] }
    s.ptpBody portB sender (.announce a) =
      (s.modClk fun c => c.setPtp portB
        (if y.master = x.master then y
          else { y with good := 0, qualified := false, logInterval := 0, sync := none, req := none })).sourceChange := rfl

section
variable (master : (s.clk.ptp portB).master = some sender)
include master

theorem Sys.ptpBody_sync {seq : BitVec 16} {two : Bool} {origin : Word64} {corr interval : Int} (least : -7 ≤ interval)
    (most : interval ≤ 0) :
    let x := s.clk.ptp portB
    let y := { x with
      good := if x.sync.isSome then 0 else x.good, logInterval := interval, req := none
      sync := some (seq, s.clk.ext - BitVec.ofInt 64 corr, if two then none else some origin) }
    s.ptpBody portB sender (.sync seq two origin corr interval) =
      if two then s.modClk fun c => c.setPtp portB y else s.askDelay portB y := by
  have heard : (!((s.clk.ptp portB).master == some sender) || decide (interval < -7) || decide (0 < interval)) = false := by
    rw [master, beq_self_eq_true, decide_eq_false (not_lt.2 least), decide_eq_false (not_lt.2 most)]
    rfl
  simp only [Sys.ptpBody, heard, Bool.false_eq_true, if_false]

theorem Sys.ptpBody_followUp {seq : BitVec 16} {t2 origin : Word64} {corr : Int}
    (sync : (s.clk.ptp portB).sync = some (seq, t2, none)) :
    s.ptpBody portB sender (.followUp seq origin corr) =
      s.askDelay portB { s.clk.ptp portB with sync := some (seq, t2 - BitVec.ofInt 64 corr, some origin) } := by
  simp only [Sys.ptpBody, sync, master, beq_self_eq_true, Bool.and_self, if_true]

theorem Sys.ptpBody_delayResp {seq q : BitVec 16} {t1 t2 t3 received : Word64} {corr : Int}
    (sync : (s.clk.ptp portB).sync = some (q, t2, some t1)) (req : (s.clk.ptp portB).req = some (seq, t3)) :
    let x := s.clk.ptp portB
    s.ptpBody portB sender (.delayResp seq received corr true) =
      ((s.modClk fun c => c.setPtp portB
        { x with
          good := x.good + 1, qualified := x.qualified || 4 ≤ x.good + 1, last := s.clk.mono
          sync := none, req := none }).measure (1 + b2n portB) 0
        (((t2 - t1).toInt - (received - BitVec.ofInt 64 corr - t3).toInt) / 2)).sourceChange := by
  simp only [Sys.ptpBody, sync, req, master, beq_self_eq_true, Bool.and_self, if_true]

end

theorem Sys.ptpTimeout_of_qualified (qualified : (s.clk.ptp portB).qualified = true) :
    let x := s.clk.ptp portB
    s.ptpTimeout portB =
      ((s.toMono (x.last + 3 * (1000000000 / 2 ^ (-x.logInterval).toNat))).modClk fun c =>
        c.setPtp portB
          { x with
            good := 0, qualified := false, logInterval := 0, sync := none, req := none
            masters := x.masters.filter fun a => x.master != some a.sender }).sourceChange := by
  have runs : ¬ ((s.clk.ptp portB).good = 0 ∧ (!(s.clk.ptp portB).qualified) = true) := by simp [qualified]
  simp only [Sys.ptpTimeout, if_neg runs]

end

/-- The run of good edges on PPS_IN that an edge makes (16 R477). -/
def Clock.ppsRun (c : Clock) : Nat :=
  match c.ppsLast with
  | some t => if 999999000 ≤ c.mono - t ∧ c.mono - t ≤ 1000001000 ∧ c.ppsGood ≠ 0 then c.ppsGood + 1 else 1
  | none => 1

theorem Sys.ppsEdge_of_ready (ready : s.boot.mode = .ready) :
    let cap := s.clk.ext - BitVec.ofNat 64 s.clk.cfg.ppsInDly
    let t := s.modClk fun c => { c with ppsCapture := cap, ppsCount := c.ppsCount + 1, ppsLast := some c.mono }
    s.ppsEdge =
      if s.timeOn = true ∧ s.clk.highSet = true then
        ((t.modClk fun c =>
          { c with ppsGood := s.clk.ppsRun, ppsQualified := c.ppsQualified || 4 ≤ s.clk.ppsRun }).measure 4 0
          (ppsOffset cap)).sourceChange
      else t := by
  have runs : ¬ (s.boot.mode ≠ .ready ∧ s.boot.mode ≠ .kindling) := fun h => h.1 ready
  rw [Sys.ppsEdge, if_neg runs]
  cases s.timeOn <;> cases s.clk.highSet <;> rfl

theorem Sys.ppsTimeout_of_edge {t : Nat} (edge : s.clk.ppsLast = some t) :
    s.ppsTimeout =
      ((s.toMono (t + 1500000000)).modClk fun c => { c with ppsGood := 0, ppsQualified := false, ppsLast := none }).sourceChange := by
  simp only [Sys.ppsTimeout, edge]

theorem Sys.refDetect_eq (present : Bool) :
    s.refDetect present =
      if s.clk.refInUse = true ∧ present = false then (s.reference present).log Config.refLostCode 0x03 16 0 0 0 []
      else s.reference present := by
  rw [Sys.refDetect]
  simp only [Bool.and_eq_true, Bool.not_eq_true']

/-! ## Steps, holdover and pulses -/

theorem Sys.stepApply_of_step {st : Step} (step : s.clk.step = some st) :
    let t := (s.toExt st.boundary).modClk fun c =>
      { c with
        ext := c.ext + BitVec.ofInt 64 st.delta, steps := c.steps + 1, valid := true, corrected := true, stepInWindow := true
        step := none, meas := [], highSet := c.highSet || st.high
        ptpA := { c.ptpA with sync := none, req := none }, ptpB := { c.ptpB with sync := none, req := none } }
    let d := twos 64 st.delta
    let detail : List Word := [0, 0, 0, 0, BitVec.ofNat 32 (d / 2 ^ 32), BitVec.ofNat 32 d]
    let u :=
      if t.clk.cfg.stepThr < st.delta.natAbs ∧ !st.first then t.faultUnit faultTimeStep 16 detail
      else t.log faultTimeStep 0x03 16 0 0 0 detail
    let v := if st.delta < 0 then u.modClk fun c => { c with lastRefill := u.floorTo 10 } else u
    s.stepApply =
      (if s.clk.valid then v.gatesStep else v.ppsValid.gatesValid.plansValid.countersValid).planOverdue.settle := by
  simp only [Sys.stepApply, step]

theorem Sys.holdLimit_of_holdover (holdover : s.clk.holdover = true) (first : s.clk.holdReported = false) :
    s.holdLimit =
      ((s.toMono (s.clk.holdStart + s.clk.cfg.holdLim * 1000000000)).modClk fun c => { c with holdReported := true }).faultUnit
        faultTimeHoldover 16 [] := by
  simp only [Sys.holdLimit, holdover, first, Bool.not_false, Bool.and_self, if_true]

theorem Sys.ppsOutEdge_of_high (high : s.clk.ppsOut = true) :
    s.ppsOutEdge = ((s.toMono (s.clk.ppsRise + 10000)).modClk fun c => { c with ppsOut := false }).emit (.ppsOut false) := by
  simp only [Sys.ppsOutEdge, high, if_true]

@[simp] theorem Sys.toExt_clkCfg (b : Word64) : (s.toExt b).clk.cfg = s.clk.cfg := by unfold Sys.toExt; split <;> rfl

theorem Sys.ppsOutEdge_of_low (low : s.clk.ppsOut = false) (valid : s.clk.valid = true) :
    let c := s.clk
    let t := s.toExt (s.dueOf (nextPps c.cfg.ppsOff) c.firstPps c.lastPps c.ranPps)
    let here := nextPps c.cfg.ppsOff (t.clk.ext - 1000000000)
    let goes := here == c.lastPps + 1000000000
    s.ppsOutEdge =
      (t.modClk fun c =>
        { c with
          ppsOut := true, ppsRise := c.mono, firstPps := if goes then c.firstPps else here, lastPps := here
          ranPps := if goes then c.ranPps else (c.firstPps, c.lastPps) :: c.ranPps }).emit (.ppsOut true) := by
  simp only [Sys.ppsOutEdge, low, valid, Bool.false_eq_true, if_false, if_true, Sys.ppsHere, Sys.toExt_clkCfg]

/-! ## Registers -/

/-- The time that SETTIME_LO steps to, as the dies are told of it (16 R483, R491; 01 R31). -/
theorem Sys.writeTime_settime {v : Word} (listed : (prioList s.clk.cfg.srcPrio).contains 5 = true)
    (first : s.earlierQualified = false) (on : s.timeOn = true) :
    s.writeTime 9 v =
      let t := (s.modClk fun c => { c with dictQualified := true }).chooseSource
      let delta := ((t.clk.setHi ++ v) - t.boundarySoon).toInt
      .ok ((t.modClk fun c =>
        { c with step := some { boundary := t.boundarySoon, delta, first := !t.clk.corrected, high := true } }).tellDies
        (toBe 8 t.boundarySoon.toNat ++ toBe 8 (twos 64 delta))) := by
  have may : ¬ ((!(prioList s.clk.cfg.srcPrio).contains 5) = true ∨ s.earlierQualified = true ∨ (!s.timeOn) = true) := by
    rw [listed, first, on]
    simp
  simp only [Sys.writeTime, Sys.setTime, if_neg may, Sys.nameStep]

end

/-- Settles O35: sources qualify and fall silent, the time steps and pulses, and its registers take and show it. -/
theorem timeRuns : Obligations.TimeRuns := by
  unfold Obligations.TimeRuns
  refine ⟨?_, ?_, ?_, ?_, ?_, ?_, ?_, ?_, ?_, ?_, ?_, ?_, ?_, ?_, ?_, ?_⟩
  · intro s port bytes p q t x off up linked length ok typed on valid held
    have tup : (t.port p).st = .up := by rw [Sys.port_modPort_same]; exact up
    have delay : (t.port p).delay = q.delay := by rw [Sys.port_modPort_same]
    refine next_onSys ((Sys.osReceive_of_linked linked length ok typed).trans ((Sys.timeReceive_of_valid tup on valid held).trans ?_))
    rw [delay]
    rfl
  · intro s port x link
    exact next_onSys (Sys.timeTimeout_of_link link)
  · intro s portB m a on transport domain body x y
    exact next_onSys ((Sys.ptpMessage_of_own on transport domain body).trans (Sys.ptpBody_announce a))
  · intro s portB m seq origin two corr interval on transport domain master body least most x y
    exact next_onSys ((Sys.ptpMessage_of_own on transport domain body).trans (Sys.ptpBody_sync master least most))
  · intro s portB m seq t2 origin corr on transport domain master body sync x
    exact next_onSys ((Sys.ptpMessage_of_own on transport domain body).trans (Sys.ptpBody_followUp master sync))
  · intro s portB m seq q t1 t2 t3 received corr on transport domain master body sync req x
    exact next_onSys ((Sys.ptpMessage_of_own on transport domain body).trans (Sys.ptpBody_delayResp master sync req))
  · intro s portB qualified x
    exact next_onSys (Sys.ptpTimeout_of_qualified qualified)
  · intro s ready cap good t
    exact next_onSys (Sys.ppsEdge_of_ready ready)
  · intro s t edge
    exact next_onSys (Sys.ppsTimeout_of_edge edge)
  · intro s present t
    exact next_onSys (Sys.refDetect_eq present)
  · intro s st step t d detail u v
    exact next_onSys (Sys.stepApply_of_step step)
  · intro s holdover first
    exact next_onSys (Sys.holdLimit_of_holdover holdover first)
  · intro s high
    exact next_onSys (Sys.ppsOutEdge_of_high high)
  · intro s low valid c t here goes
    exact next_onSys (Sys.ppsOutEdge_of_low low valid)
  · intro s path value gate listed first on
    exact next_request_of_ok gate (f := fun x => _) (Sys.writeTime_settime listed first on)
  · intro s path gate
    exact next_onSys (requestR_of_ok gate rfl)

end Sys2Proof.Machine
end

section
/-! Grants, sensors, dips and budgets (01 R30; 17 R495-R511; 18 R527, R542), and the profiles (17 R514-R522). -/

namespace Sys2Proof.Machine

/-! ## Power and cooling -/

section
variable {s : Sys}

/-- A die without a new grant grants zero; a core die stops its Vats and units too (01 R30). -/
theorem Sys.grantTimeout_of_ready {u : Nat} (ready : s.boot.mode = .ready) :
    let t := (s.toMono (s.hearth.lastGrant + 1048576)).modHearth fun h => { h with noGrant := insertNat u h.noGrant }
    s.grantTimeout u =
      if u < 16 then t
      else
        (t.modHearth fun h =>
          { h with
            vatLevel := setNth h.vatLevel (u - 16) 0, tokTag := h.tokTag.filter fun e => e.1 / 65536 != u - 16 }).modGraphs
          fun g => { g with units := put g.units (u - 16) 0 } := by
  have runs : ¬ s.boot.mode ≠ .ready := not_not.2 ready
  simp only [Sys.grantTimeout, if_neg runs]

/-- While no power-on waits and no Kindling is stopped, nothing starts one. -/
theorem Sys.restart_tryPowerOn_of_running (stopped : s.boot.stopped = false) (waiting : s.boot.waiting = false) :
    s.restart.tryPowerOn = s := by
  have same : s.restart = s := by simp [Sys.restart, stopped]
  rw [same]
  simp [Sys.tryPowerOn, waiting]

theorem Sys.dipEnd_of_dip (dip : s.boot.dip = true) (stopped : s.boot.stopped = false) (waiting : s.boot.waiting = false) :
    s.dipEnd =
      (((s.modBoot fun b => { b with dip := false }).modHearth fun h => { h with dips := s.bump h.dips }).log Config.dipCode 0x03
        20 0 0 0 []).modBoot fun b => { b with lowInput := false } := by
  have counted : s.countDip = ((s.modBoot fun b => { b with dip := false }).modHearth fun h =>
      { h with dips := s.bump h.dips }).log Config.dipCode 0x03 20 0 0 0 [] := if_pos dip
  have boot : ∀ t : Sys, (t.log Config.dipCode 0x03 20 0 0 0 []).boot = t.boot := fun t => t.log_boot ..
  rw [Sys.dipEnd, counted]
  refine Sys.restart_tryPowerOn_of_running ?_ ?_
  · exact (congrArg Boot.stopped (boot _)).trans stopped
  · exact (congrArg Boot.waiting (boot _)).trans waiting

theorem Sys.budgetStale_of_fresh (fresh : s.hearth.stale = false) (ready : s.boot.mode = .ready) :
    s.budgetStale =
      ((s.toMono (s.hearth.facLast + 10000000000)).modHearth fun h => { h with stale := true }).faultUnit faultPwrBudget 20 [] := by
  have runs : ¬ (s.hearth.stale = true ∨ s.boot.mode ≠ .ready) := by simp [fresh, ready]
  simp only [Sys.budgetStale, if_neg runs]

theorem Sys.facStatus_of_ready (ready : s.boot.mode = .ready) (alive : s.boot.bothLost = false) :
    s.facStatus =
      s.emit (.message .facility (facFrame 0xFFFFFFFFFFFF (dictMsg 0x11 0 0 0 0 (s.facWords.flatMap fun w => toBe 4 w.toNat)))) :=
  if_pos ⟨ready, by rw [alive]; rfl⟩

/-- A budget message that is well formed, meant for this module and fresh is taken (18 R542). -/
theorem Sys.budgetMsg_of_fresh {b : List Byte} (long : 28 ≤ b.length) (type : beAt b 0 1 = 0x10) (length : beAt b 12 4 = 12)
    (plain : beAt b 8 4 = 0) (mine : beAt (b.drop 16) 0 4 % 2 = 1 ∨ beAt (b.drop 16) 0 4 / 4096 = s.coord)
    (fresh : ∀ q, s.mg.budgetSeq = some q → serialAfter (wordAt (b.drop 16) 8) q = true) :
    s.budgetMsg b = s.takeBudget (wordAt (b.drop 16) 4) (wordAt (b.drop 16) 8) := by
  have formed : ¬ (b.length < 28 ∨ beAt b 0 1 ≠ 0x10 ∨ beAt b 12 4 ≠ 12 ∨ beAt b 8 4 ≠ 0) := by
    rw [type, length, plain]
    simpa using long
  have taken : ((beAt (b.drop 16) 0 4 % 2 == 1 || beAt (b.drop 16) 0 4 / 4096 == s.coord) &&
      (match s.mg.budgetSeq with | some q => serialAfter (wordAt (b.drop 16) 8) q | none => true)) = true := by
    rw [Bool.and_eq_true, Bool.or_eq_true, beq_iff_eq, beq_iff_eq]
    refine ⟨mine, ?_⟩
    cases last : s.mg.budgetSeq with
    | none => rfl
    | some q => exact fresh q last
  rw [Sys.budgetMsg, if_neg formed]
  exact if_pos taken

theorem Sys.budgetFrame_of_taken {f : List Byte} (on : s.facilityOn = true) (long : 60 ≤ f.length) (type : beAt f 12 2 = 0x88B5) :
    s.budgetFrame f = (s.modMg fun m => { m with facPeer := BitVec.ofNat 48 (beAt f 6 6) }).budgetMsg (f.drop 14) := by
  have taken : (!s.facilityOn || decide (f.length < 60) || beAt f 12 2 != 0x88B5) = false := by
    rw [on, type, decide_eq_false (not_lt.2 long)]
    rfl
  simp only [Sys.budgetFrame, taken, Bool.false_eq_true, if_false]

end

/-- Settles O37: grants time out, sensors fail and are sampled, dips end, and budgets come, go stale and are answered. -/
theorem powerEventsRun : Obligations.PowerEventsRun := by
  unfold Obligations.PowerEventsRun
  refine ⟨?_, ?_, ?_, ?_, ?_, ?_, ?_, ?_, ?_⟩
  · intro s core inside ready t
    have unit : 16 + core < 20 := by omega
    have place : 16 + core - 16 = core := by omega
    refine (if_pos unit).trans (next_onSys ((Sys.grantTimeout_of_ready ready).trans ?_))
    simp only [if_neg (show ¬ 16 + core < 16 by omega), place]
    rfl
  · intro s die inside ready
    have unit : die < 20 := by omega
    refine (if_pos unit).trans (next_onSys ((Sys.grantTimeout_of_ready ready).trans (if_pos inside)))
  · intro s warm
    exact next_onSys (if_pos warm)
  · intro s x ok first
    have new : ¬ s.sys.hearth.sensorFailed.contains x = true := by rw [first]; decide
    exact (if_pos ok).trans (next_onSys (if_neg new))
  · intro s inlet outlet flow
    rfl
  · intro s dip stopped waiting
    exact next_onSys (Sys.dipEnd_of_dip dip stopped waiting)
  · intro s fresh ready
    exact next_onSys (Sys.budgetStale_of_fresh fresh ready)
  · intro s ready alive
    exact next_onSys (Sys.facStatus_of_ready ready alive)
  · intro s frame on long ether b type length plain mine fresh w x t
    have rest : 28 ≤ b.length := by simp only [b, List.length_drop]; omega
    exact next_onSys ((Sys.budgetFrame_of_taken on long ether).trans
      (Sys.budgetMsg_of_fresh (s := x) rest type length plain mine fresh))

/-! ## Profiles -/

section
variable {s : Sys} {path : Path} {v : Word}

theorem Sys.writeProfile_select (may : s.rwsOk = .ok ()) (known : v.toNat ≤ 3 ∨ v = 255) :
    s.writeProfile path 0xA000 0 v =
      let t := (s.modNv fun n => { n with select := v.toNat }).jrnl
      .ok (t.modHearth fun h => { h with pendingProfile := if t.selected = h.inForce then 255 else t.selected }) := by
  have inRange : ¬ (3 < v.toNat ∧ v ≠ 255) := fun ⟨high, other⟩ => known.elim (fun low => by omega) other
  have selected : s.writeProfile path 0xA000 0 v = s.writeSelect v := rfl
  rw [selected, Sys.writeSelect, if_neg inRange, Sys.rws_of_rwsOk may]
  rfl

theorem Sys.writeProfile_index {index : BitVec 16} (object : index = 0xA001 ∨ index = 0xA002) (known : v.toNat ≤ 3) :
    s.writeProfile path index.toNat 0 v = .ok (s.setSel path index.toNat 0 v) := by
  have other : ¬ index.toNat = 0xA000 := by rcases object with rfl | rfl <;> decide
  have inRange : ¬ 3 < v.toNat := not_lt.2 known
  simp only [Sys.writeProfile, if_neg other, if_true, if_neg inRange]

/-- A parameter of the selected profile is written; one of the profile in force changes it (17 R516). -/
theorem Sys.setProfile_of_rwsOk {index : Nat} (may : s.rwsOk = .ok ()) (f : Profile → Profile) :
    let p := (s.selOf path index 0).toNat % 4
    let t := (s.modNv fun m => { m with profiles := modNth m.profiles p f }).jrnl
    s.setProfile path index f = .ok (if p = t.hearth.inForce then t.modHearth fun h => { h with change := true } else t) := by
  simp only [Sys.setProfile, Sys.rws_of_rwsOk may]
  rfl

/-- Where a sub-index of 0xA002 lies is which list of the scheduler's parameters it writes (17 R522). -/
theorem Sys.writeProfile_quantum {i : Nat} (inside : i < 6) (least : 4160 ≤ v.toNat) (most : v.toNat ≤ 1048576) :
    s.writeProfile path 0xA002 (i + 1) v =
      s.setProfile path 0xA002 fun q => { q with sched := { q.sched with quantum := setNth q.sched.quantum i v.toNat } } := by
  have place : 1 ≤ i + 1 ∧ i + 1 ≤ 6 := by omega
  have inRange : (decide (4160 ≤ v.toNat) && decide (v.toNat ≤ 1048576)) = true := by simp [least, most]
  have index : i + 1 - 1 = i := by omega
  simp only [Sys.writeProfile, if_neg (show ¬ (0xA002 = 0xA000) by decide), if_neg (show ¬ (0xA002 = 0xA001) by decide),
    if_neg (show ¬ i + 1 = 0 by omega), if_pos place, inRange, if_true, index]

theorem Sys.writeProfile_rate {i : Nat} (inside : i < 7) (least : (if i = 6 then 1 else 0) ≤ v.toNat) (most : v.toNat ≤ 1024) :
    s.writeProfile path 0xA002 (i + 0x10) v =
      s.setProfile path 0xA002 fun q => { q with sched := { q.sched with rate := setNth q.sched.rate i v.toNat } } := by
  have before : ¬ (1 ≤ i + 0x10 ∧ i + 0x10 ≤ 6) := by omega
  have place : 0x10 ≤ i + 0x10 ∧ i + 0x10 ≤ 0x16 := by omega
  have inRange : (decide (v.toNat ≤ 1024) && (i + 0x10 != 0x16 || decide (1 ≤ v.toNat))) = true := by
    rw [decide_eq_true most, Bool.true_and, Bool.or_eq_true, bne_iff_ne, decide_eq_true_eq]
    by_cases last : i = 6
    · rw [if_pos last] at least
      exact .inr least
    · exact .inl (by omega)
  have index : i + 0x10 - 0x10 = i := by omega
  simp only [Sys.writeProfile, if_neg (show ¬ (0xA002 = 0xA000) by decide), if_neg (show ¬ (0xA002 = 0xA001) by decide),
    if_neg (show ¬ i + 0x10 = 0 by omega), if_neg before, if_pos place, inRange, if_true, index]

theorem Sys.writeProfile_burst {i : Nat} (inside : i < 7) (least : 4160 ≤ v.toNat) (most : v.toNat ≤ 4194304) :
    s.writeProfile path 0xA002 (i + 0x20) v =
      s.setProfile path 0xA002 fun q => { q with sched := { q.sched with burst := setNth q.sched.burst i v.toNat } } := by
  have before : ¬ (1 ≤ i + 0x20 ∧ i + 0x20 ≤ 6) := by omega
  have between : ¬ (0x10 ≤ i + 0x20 ∧ i + 0x20 ≤ 0x16) := by omega
  have place : 0x20 ≤ i + 0x20 ∧ i + 0x20 ≤ 0x26 := by omega
  have inRange : (decide (4160 ≤ v.toNat) && decide (v.toNat ≤ 4194304)) = true := by simp [least, most]
  have index : i + 0x20 - 0x20 = i := by omega
  simp only [Sys.writeProfile, if_neg (show ¬ (0xA002 = 0xA000) by decide), if_neg (show ¬ (0xA002 = 0xA001) by decide),
    if_neg (show ¬ i + 0x20 = 0 by omega), if_neg before, if_neg between, if_pos place, inRange, if_true, index]

end

section
variable {s : State} {path : Path} {index : BitVec 16} {v : Word}

theorem exec_profileSelectWrite_of_ok {sub : Nat} {f : Sys → Sys} (gate : s.sys.takes path index.toNat)
    (object : 0xA000 ≤ index.toNat ∧ index.toNat ≤ 0xA002) (small : sub < 256)
    (carried : s.sys.writeProfile path index.toNat sub v = .ok (f s.sys)) :
    exec (.profileSelectWrite path index (BitVec.ofNat 8 sub) v) s =
      .next { s with sys := replied path index.toNat 0 sub f s.sys } := by
  have place : (BitVec.ofNat 8 sub).toNat = sub := by
    rw [BitVec.toNat_ofNat]
    exact Nat.mod_eq_of_lt small
  have runs : exec (.profileSelectWrite path index (BitVec.ofNat 8 sub) v) s =
      .next (s.onSys (request path index.toNat 0 (BitVec.ofNat 8 sub).toNat fun t =>
        if 0xA000 ≤ index.toNat ∧ index.toNat ≤ 0xA002 then t.writeProfile path index.toNat (BitVec.ofNat 8 sub).toNat v
        else .error mgtNoobj)) := rfl
  rw [runs, place]
  exact next_request_of_ok gate ((if_pos object).trans carried)

/-- What a write of a parameter of the selected profile leaves. -/
def Sys.profileSet (p : Nat) (f : Profile → Profile) (x : Sys) : Sys :=
  let t := (x.modNv fun m => { m with profiles := modNth m.profiles p f }).jrnl
  if p = t.hearth.inForce then t.modHearth fun h => { h with change := true } else t

theorem exec_profileSelectWrite_of_parameter {sub : Nat} {f : Profile → Profile} (gate : s.sys.takes path index.toNat)
    (may : s.sys.rwsOk = .ok ()) (object : index = 0xA001 ∨ index = 0xA002) (small : sub < 256)
    (carried : s.sys.writeProfile path index.toNat sub v = s.sys.setProfile path index.toNat f) :
    exec (.profileSelectWrite path index (BitVec.ofNat 8 sub) v) s =
      .next { s with
        sys := replied path index.toNat 0 sub (Sys.profileSet ((s.sys.selOf path index.toNat 0).toNat % 4) f) s.sys } := by
  have inside : 0xA000 ≤ index.toNat ∧ index.toNat ≤ 0xA002 := by rcases object with rfl | rfl <;> decide
  exact exec_profileSelectWrite_of_ok gate inside small (carried.trans (Sys.setProfile_of_rwsOk may f))

end

theorem decide_and {a b : Prop} [Decidable a] [Decidable b] (left : a) (right : b) : (decide a && decide b) = true := by
  rw [decide_eq_true left, decide_eq_true right]
  rfl

/-- Settles O38: SELECT, the index of a profile and each of its parameters take a value in their range. -/
theorem profilesAreWritten : Obligations.ProfilesAreWritten := by
  unfold Obligations.ProfilesAreWritten
  refine ⟨?_, ?_, ?_⟩
  · intro s path v gate may known
    exact exec_profileSelectWrite_of_ok (sub := 0) gate (by decide) (by decide) (Sys.writeProfile_select may known)
  · intro s path index v gate object known
    have inside : 0xA000 ≤ index.toNat ∧ index.toNat ≤ 0xA002 := by rcases object with rfl | rfl <;> decide
    exact exec_profileSelectWrite_of_ok (sub := 0) gate inside (by decide) (Sys.writeProfile_index object known)
  · intro s path index v gate may p n quantum rate burst base e mem object least most
    rcases List.mem_append.1 mem with mem | mem
    · rcases List.mem_append.1 mem with mem | mem
      · rcases List.mem_append.1 mem with mem | mem
        · simp only [base, List.mem_cons, List.not_mem_nil, or_false] at mem
          rcases mem with rfl | rfl | rfl | rfl | rfl <;> subst object
          · exact exec_profileSelectWrite_of_parameter (sub := 1) gate may (.inl rfl) (by decide) (if_pos (decide_eq_true most))
          · exact exec_profileSelectWrite_of_parameter (sub := 2) gate may (.inl rfl) (by decide) (if_pos (decide_and least most))
          · exact exec_profileSelectWrite_of_parameter (sub := 3) gate may (.inl rfl) (by decide) (if_pos (decide_and least most))
          · exact exec_profileSelectWrite_of_parameter (sub := 4) gate may (.inl rfl) (by decide) (if_pos (decide_and least most))
          · exact exec_profileSelectWrite_of_parameter (sub := 5) gate may (.inl rfl) (by decide) (if_pos (decide_eq_true most))
        · obtain ⟨i, inside, rfl⟩ := List.mem_map.1 mem
          rw [List.mem_range] at inside
          subst object
          exact exec_profileSelectWrite_of_parameter gate may (.inr rfl) (by simp only [quantum]; omega)
            (Sys.writeProfile_quantum inside least most)
      · obtain ⟨i, inside, rfl⟩ := List.mem_map.1 mem
        rw [List.mem_range] at inside
        subst object
        exact exec_profileSelectWrite_of_parameter gate may (.inr rfl) (by simp only [rate]; omega)
          (Sys.writeProfile_rate inside least most)
    · obtain ⟨i, inside, rfl⟩ := List.mem_map.1 mem
      rw [List.mem_range] at inside
      subst object
      exact exec_profileSelectWrite_of_parameter gate may (.inr rfl) (by simp only [burst]; omega)
        (Sys.writeProfile_burst inside least most)

end Sys2Proof.Machine
end

section
/-! Images and their trials, attestation and sessions (19 R561-R576). -/

namespace Sys2Proof.Machine

/-! ## The security command object -/

theorem Sys.stageEnd_of_stage {s : Sys} {j : StageJob} (stage : s.sec.stage = some j) :
    let t := s.modSec fun c => { c with stage := none }
    s.stageEnd =
      match s.imageRefusal j.bytes with
      | some e => t.failedKey .sec j.path e (if j.bytes.length < 1384 then [] else Config.sha3 (bytesAt j.bytes 72 1312))
      | none =>
        (t.setImage (!s.sec.running) (Image.of j.bytes)).done .sec j.path
          [(0, (Image.of j.bytes).fwver), (1, (Image.of j.bytes).svn)] := by
  simp only [Sys.stageEnd, stage] <;> rfl

section
variable {path : Path} {st : Stores} {dma : Dma} {s : Sys} (idle : (s.slot .sec path).busy = false)

section
variable (may : path = .pcie ∨ s.rights path = 3)
include may

/-- A requester with every right may give a command of the object. -/
theorem Sys.mayCommand {op : Nat} {args : List (Nat × Word)} :
    ¬ (path ≠ .pcie ∧ op ≠ 5 ∧ (s.setArgs .sec path args).rights path < 3) := by
  rintro ⟨other, -, few⟩
  have kept : (s.setArgs .sec path args).rights path = s.rights path := rfl
  exact may.elim other fun all => by omega

include idle

theorem secCmd_stage {handle length : Word} {b : Bulk} {bytes : List Byte} (trial : s.sec.onTrial = false)
    (stage : s.sec.stage = none) (region : s.region path handle length.toNat = .ok b)
    (read : regionRead st path b length.toNat dma = .ok bytes) :
    secCmd path (BitVec.ofNat 32 (1 * 2 ^ 24)) dma (st, s.setArgs .sec path [(0, handle), (1, length)]) =
      .ok (st, ((cmdTaken .sec path 1 [(0, handle), (1, length)] (usesOf path handle) s).setImage (!s.sec.running) {}).modSec
        fun c => { c with stage := some { path, handle, bytes } }) := by
  have kept : (((s.setArgs .sec path [(0, handle), (1, length)]).accept .sec path (BitVec.ofNat 32 (1 * 2 ^ 24))
      (usesOf path handle)).setImage (!(s.setArgs .sec path [(0, handle), (1, length)]).sec.running) {}).region path handle
      length.toNat = .ok b := region
  have staged : fwStage path (BitVec.ofNat 32 (1 * 2 ^ 24)) handle length.toNat st dma
      (s.setArgs .sec path [(0, handle), (1, length)]) =
        ((cmdTaken .sec path 1 [(0, handle), (1, length)] (usesOf path handle) s).setImage (!s.sec.running) {}).modSec
          fun c => { c with stage := some { path, handle, bytes } } := by
    simp only [fwStage, kept, read]
    rfl
  have quiet : ¬ ((s.setArgs .sec path [(0, handle), (1, length)]).sec.onTrial = true ∨
      (s.setArgs .sec path [(0, handle), (1, length)]).sec.stage.isSome = true) := by
    change ¬ (s.sec.onTrial = true ∨ s.sec.stage.isSome = true)
    simp [trial, stage]
  simp only [secCmd, Sys.busy_setArgs, idle, Sys.arg0_setArgs_two, Sys.arg1_setArgs_two, staged, if_neg quiet,
    if_neg (Sys.mayCommand may)]
  simp [fld, bits]

theorem secCmd_activate {image : Word} (stage : s.sec.stage = none) (valid : (s.image (bit image.toNat 0)).valid = true) :
    secCmd path (BitVec.ofNat 32 (2 * 2 ^ 24)) dma (st, s.setArgs .sec path [(0, image)]) =
      .ok (st, ((cmdTaken .sec path 2 [(0, image)] [] s).activate (bit image.toNat 0)).done .sec path []) := by
  have free : ¬ ((s.setArgs .sec path [(0, image)]).sec.stage.isSome = true ∨
      (!((s.setArgs .sec path [(0, image)]).image (bit image.toNat 0)).valid) = true) := by
    change ¬ (s.sec.stage.isSome = true ∨ (!(s.image (bit image.toNat 0)).valid) = true)
    simp [stage, valid]
  simp only [secCmd, Sys.busy_setArgs, idle, Sys.arg_setArgs_one, if_neg free, if_neg (Sys.mayCommand may)]
  simp [fld, bits, cmdTaken]

section
variable (trial : s.sec.onTrial = true)
include trial

theorem secCmd_commit :
    secCmd path (BitVec.ofNat 32 (3 * 2 ^ 24)) dma (st, s.setArgs .sec path []) =
      .ok (st, (cmdTaken .sec path 3 [] [] s).commitImage.done .sec path
        [(0, (cmdTaken .sec path 3 [] [] s).commitImage.floorNow)]) := by
  have kept : (s.setArgs .sec path []).sec.onTrial = true := trial
  simp only [secCmd, Sys.busy_setArgs, idle, kept, if_neg (Sys.mayCommand may)]
  simp [fld, bits, cmdTaken]

theorem secCmd_revert :
    secCmd path (BitVec.ofNat 32 (4 * 2 ^ 24)) dma (st, s.setArgs .sec path []) =
      .ok (st, (cmdTaken .sec path 4 [] [] s).revertImage.done .sec path []) := by
  have kept : (s.setArgs .sec path []).sec.onTrial = true := trial
  simp only [secCmd, Sys.busy_setArgs, idle, kept, if_neg (Sys.mayCommand may)]
  simp [fld, bits, cmdTaken]

end

end

include idle

/-- The report goes into BAR2 with the nonce that ARG0-ARG7 hold (19 R570). -/
theorem secCmd_attest {args : List (Nat × Word)} {nonce : Nat → Word} {handle : Word} {b : Bulk}
    (arg8 : ((s.setArgs .sec path args).slot .sec path).arg 8 = handle)
    (arg : ∀ i < 8, ((s.setArgs .sec path args).slot .sec path).arg i = nonce i) (identity : s.identityOk = true)
    (region : s.region path handle 2816 = .ok b) (bar2 : b.dKind = 2) :
    secCmd path (BitVec.ofNat 32 (5 * 2 ^ 24)) (.data []) (st, s.setArgs .sec path args) =
      .ok ({ st with
          bar2 := Memory.writeN st.bar2 b.dAddr.toNat (s.report ((List.range 8).flatMap fun i => toBe 4 (nonce i).toNat)) },
        (cmdTaken .sec path 5 args [] s).done .sec path [(0, 2788)]) := by
  have kind : b.dKind.toNat = 2 := by rw [bar2]; rfl
  have held : ((s.setArgs .sec path args).accept .sec path (BitVec.ofNat 32 (5 * 2 ^ 24)) []).identityOk = true := identity
  have kept : ((s.setArgs .sec path args).accept .sec path (BitVec.ofNat 32 (5 * 2 ^ 24)) []).region path handle 2816 =
    .ok b := region
  have words : ((List.range 8).flatMap fun i => toBe 4 (((s.setArgs .sec path args).slot .sec path).arg i).toNat) =
      (List.range 8).flatMap fun i => toBe 4 (nonce i).toNat := by
    refine List.flatMap_congr fun i inside => ?_
    rw [arg i (List.mem_range.1 inside)]
  have report : ∀ l, ((s.setArgs .sec path args).accept .sec path (BitVec.ofNat 32 (5 * 2 ^ 24)) []).report l = s.report l :=
    fun _ => rfl
  have attested : attest path (BitVec.ofNat 32 (5 * 2 ^ 24)) ((s.setArgs .sec path args).slot .sec path) true
      (st, s.setArgs .sec path args) =
        ({ st with
            bar2 := Memory.writeN st.bar2 b.dAddr.toNat (s.report ((List.range 8).flatMap fun i => toBe 4 (nonce i).toNat)) },
          (cmdTaken .sec path 5 args [] s).done .sec path [(0, 2788)]) := by
    simp only [attest, held, arg8, kept, words, report, regionWrite, kind, Bool.not_true, Bool.false_eq_true, if_false]
    rfl
  have open_ : ¬ (path ≠ .pcie ∧ 5 ≠ 5 ∧ (s.setArgs .sec path args).rights path < 3) := fun h => h.2.1 rfl
  have op : fld (BitVec.ofNat 32 (5 * 2 ^ 24)) 31 24 = 5 := by decide
  have clear : ¬ (fld (BitVec.ofNat 32 (5 * 2 ^ 24)) 23 0 ≠ 0 ∨ 5 = 0 ∨ 5 < 5) := by decide
  simp only [secCmd, Sys.busy_setArgs, idle, op, if_neg clear, if_neg open_, Bool.false_eq_true, if_false]
  exact congrArg Except.ok attested

end

/-! ## Sessions -/

section
variable {path : Path} {s : Sys}

theorem Sys.writeStep_hello (session : path ≠ .pcie) (closed : s.sessionOpen path = false) :
    let b := fit 2528 (getD s.mg.secIn (pathNum path) [])
    let n := s.free.counter
    let c := fit 1088 (Config.kemCipher (bytesAt b 1312 1184) n) ++ fit 32 (Config.nonce (n + 1))
    let die := 2 * b2n s.boot.cd2Active
    let h1 := Config.sha3 (b ++ c ++ s.akRecord die)
    s.writeStep path 1 =
      if s.trusted (Config.sha3 (bytesAt b 0 1312)) = true ∧ s.identityOk = true then
        .ok (((s.draw.2.draw.2).setSession path
          { st := 1, since := s.clk.mono, keyHash := Config.sha3 (bytesAt b 0 1312), pub := bytesAt b 0 1312
            h1, secret := Config.kemSecret (bytesAt b 1312 1184) n }).modMg fun m =>
          { m with
            secOut := put m.secOut (pathNum path) (fit 3840 (c ++ fit 2420 (Config.mldsaSign (s.akSeed die) h1))) })
      else .error secAuth := by
  have hello : s.writeStep path 1 = s.hello path := if_neg session
  rw [hello, Sys.hello]
  simp only [closed, Bool.false_eq_true, if_false]
  generalize s.trusted _ = known
  cases known <;> cases s.identityOk <;> rfl

theorem Sys.writeStep_confirm (session : path ≠ .pcie) (st : (s.session path).st = 1)
    (soon : s.clk.mono ≤ (s.session path).since + 5000000000) :
    let x := s.session path
    let h2 := Config.sha3 (x.h1 ++ [1])
    let keys := fit 64 (Config.kmac x.secret h2 512 (ascii "GZS-SESSION"))
    s.writeStep path 2 =
      if Config.mldsaVerify x.pub h2 (fit 2420 (getD s.mg.secIn (pathNum path) [])) = true then
        .ok (s.setSession path
          { x with st := 2, last := s.clk.mono, rxKey := keys.take 32, txKey := keys.drop 32, rxSeq := 0, txSeq := 0 })
      else .error secSignature := by
  have confirm : s.writeStep path 2 = s.confirmSession path := if_neg session
  have inTime : ¬ ((s.session path).st ≠ 1 ∨ (s.session path).since + 5000000000 < s.clk.mono) := by
    rw [st]
    omega
  rw [confirm, Sys.confirmSession]
  simp only [if_neg inTime]
  generalize Config.mldsaVerify _ _ _ = signed
  cases signed <;> rfl

theorem Sys.writeStep_end (session : path ≠ .pcie) (live : (s.session path).st ≠ 0) : s.writeStep path 3 = .ok s :=
  (if_neg session).trans (if_neg live)

end

/-- Settles O41: images are staged, tried and kept, the module attests, and sessions open and end. -/
theorem securityRuns : Obligations.SecurityRuns := by
  unfold Obligations.SecurityRuns
  refine ⟨?_, ?_, ?_, ?_, ?_, ?_, ?_, ?_, ?_, ?_, ?_⟩
  · intro s path handle length host b bytes ⟨gate, idle⟩ may trial stage region read
    exact next_requestM_of_ok gate
      (f := fun x => ((cmdTaken .sec path 1 [(0, handle), (1, length)] (usesOf path handle) x).setImage (!s.sys.sec.running)
        {}).modSec fun c => { c with stage := some { path, handle, bytes } })
      (secCmd_stage idle may trial stage region read)
  · intro s j stage t
    exact next_onSys (Sys.stageEnd_of_stage stage)
  · intro s path image ⟨gate, idle⟩ may b stage valid
    exact next_requestM_of_ok gate
      (f := fun x => ((cmdTaken .sec path 2 [(0, image)] [] x).activate b).done .sec path [])
      (secCmd_activate idle may stage valid)
  · intro s path ⟨gate, idle⟩ may trial x f keyed
    exact next_requestM_of_ok gate
      (f := fun y =>
        let t := (cmdTaken .sec path 3 [] [] y).modSec fun c =>
          { c with
            trial := false, onTrial := false, floorA := if keyed then f else c.floorA
            floorB := if keyed then f else c.floorB }
        t.done .sec path [(0, t.floorNow)])
      (secCmd_commit idle may trial)
  · intro s path ⟨gate, idle⟩ may trial
    exact next_requestM_of_ok gate (f := fun y => (cmdTaken .sec path 4 [] [] y).revertImage.done .sec path [])
      (secCmd_revert idle may trial)
  · intro s path nonce handle b ⟨gate, idle⟩ identity region bar2 args report
    have once : (args.map Prod.fst).Nodup := by
      have places : args.map Prod.fst = List.range 9 := by
        simp only [args, List.map_append, List.map_map, Function.comp_def]
        rfl
      rw [places]
      exact List.nodup_range
    have arg8 : ((s.sys.setArgs .sec path args).slot .sec path).arg 8 = handle :=
      Sys.arg_setArgs_of_mem once (List.mem_append_right _ (List.mem_cons_self ..))
    have arg : ∀ i < 8, ((s.sys.setArgs .sec path args).slot .sec path).arg i = nth nonce i 0 := fun i inside =>
      Sys.arg_setArgs_of_mem once (List.mem_append_left _ (List.mem_map.2 ⟨i, List.mem_range.2 inside, rfl⟩))
    exact next_requestM_of_ok gate (f := fun x => (cmdTaken .sec path 5 args [] x).done .sec path [(0, 2788)])
      (secCmd_attest idle arg8 arg identity region bar2)
  · intro s path gei gate session owner closed
    extract_lets b n c die h1
    have own : ¬ (path = .inband ∧ gei ≠ s.sys.nv.owner) := fun ⟨inband, other⟩ => other (owner inband)
    have started : exec (.sessionHello path gei) s = .next (s.onSys (request path 0x8020 0 0 (Sys.writeStep path 1))) :=
      next_onSys (f := fun t => if path = .inband ∧ gei ≠ t.nv.owner then t else stepReq path 1 id t) (if_neg own)
    have step := Sys.writeStep_hello session closed
    rw [started]
    by_cases known : s.sys.trusted (Config.sha3 (bytesAt b 0 1312)) = true ∧ s.sys.identityOk = true
    · rw [if_pos known]
      exact next_request_of_ok gate (f := fun x => _) (step.trans (if_pos known))
    · rw [if_neg known]
      exact next_request_of_error gate (step.trans (if_neg known))
  · intro s path gate session st soon
    extract_lets x h2 keys
    have started : exec (.sessionConfirm path) s = .next (s.onSys (request path 0x8020 0 0 (Sys.writeStep path 2))) := rfl
    have step := Sys.writeStep_confirm session st soon
    rw [started]
    by_cases signed : Config.mldsaVerify x.pub h2 (fit 2420 (getD s.sys.mg.secIn (pathNum path) [])) = true
    · rw [if_pos signed]
      exact next_request_of_ok gate (f := fun _ => _) (step.trans (if_pos signed))
    · rw [if_neg signed]
      exact next_request_of_error gate (step.trans (if_neg signed))
  · intro s path gate session live
    exact next_requestThen_of_ok gate (Sys.writeStep_end session live)
  · intro s path st
    exact next_onSys (if_pos st)
  · intro s path st
    exact next_onSys (if_pos st)

end Sys2Proof.Machine
end

section
/-! Power signals, dips and trips (17 R494-R510; 21 R619; 22 R627, R636), and what reset leaves. -/

namespace Sys2Proof.Machine

/-! ## Signals that warn of a loss of power -/

section
variable {s : Sys} {f : Boot → Boot}

theorem Sys.warnPins_assert (quiet : s.powerWarned = false) (warns : (s.modBoot f).powerWarned = true) :
    s.warnPins f = (s.modBoot f).pwrFail := by
  simp only [Sys.warnPins, quiet, warns, Bool.not_false, Bool.and_self, if_true]

theorem Sys.warnPins_release (warned : s.powerWarned = true) (quiet : (s.modBoot f).powerWarned = false) :
    s.warnPins f = (s.modBoot f).pwrRelease := by
  simp only [Sys.warnPins, warned, quiet, Bool.not_true, Bool.not_false, Bool.and_self, Bool.false_eq_true, if_false,
    if_true]

/-- What the first of the two signals does while the Collier runs (17 R497). -/
theorem Sys.pwrFail_of_collierOn (on : s.collierOn = true) :
    let t := (s.msix 3).faultUnit faultPwrEarly 20 []
    let u :=
      match t.sec.stage with
      | some j => (t.modSec fun c => { c with stage := none }).failed .sec j.path pwrFailing
      | none => t
    let v := u.flush true
    s.pwrFail = if v.boot.mode = .kindling then v.stopKindling else v.modBoot fun b => { b with failing := true } := by
  simp only [Sys.pwrFail, on, Bool.not_true, Bool.false_eq_true, if_false] <;> rfl

theorem Sys.pwrFail_of_kindling (off : s.collierOn = false) (kindling : s.boot.mode = .kindling) :
    s.pwrFail = s.stopKindling := by
  simp only [Sys.pwrFail, off, kindling, Bool.not_false, if_true]

theorem Sys.pwrRelease_eq (quiet : s.powerWarned = false) :
    let t := s.modBoot fun b => { b with failing := false }
    s.pwrRelease = if s.boot.stopped = true ∧ s.boot.lowInput = false then t.startKindling t.boot.cause else t := by
  intro t
  have still : t.powerWarned = false := quiet
  have boot : t.boot.stopped = s.boot.stopped ∧ t.boot.lowInput = s.boot.lowInput := ⟨rfl, rfl⟩
  rw [Sys.pwrRelease, Sys.restart, still, boot.1, boot.2]
  simp only [Bool.and_eq_true, Bool.not_eq_true', Bool.not_false, and_true]
  rfl

end

/-! ## The input -/

section
variable {s : Sys} {mv : Nat}

theorem Sys.tryPowerOn_of_idle (idle : s.boot.waiting = false) : s.tryPowerOn = s := by
  simp [Sys.tryPowerOn, idle]

theorem Sys.startKindling_of_quiet {cause : BitVec 4} (quiet : s.powerWarned = false) : s.startKindling cause = s.kindle cause := by
  have still : (s.kindle cause).powerWarned = false := quiet
  simp only [Sys.startKindling, still, Bool.false_eq_true, if_false]

/-- An input that is back starts a stopped Kindling again (21 R619). -/
theorem Sys.inputDip_of_back (on : s.boot.mode ≠ .off) (least : 41000 ≤ mv) (most : mv ≤ 72000) (stopped : s.boot.stopped = true)
    (quiet : s.powerWarned = false) :
    s.inputDip mv = (s.modBoot fun b => { b with lowInput := false }).startKindling s.boot.cause := by
  have noted : (fun b : Boot => { b with dip := b.dip || decide (mv < 40000), lowInput := decide (mv < 41000) }) =
      fun b => { b with lowInput := false } := by
    funext b
    rw [decide_eq_false (by omega : ¬ mv < 40000), decide_eq_false (by omega : ¬ mv < 41000), Bool.or_false]
  generalize back : s.modBoot (fun b => { b with lowInput := false }) = t
  have still : t.powerWarned = false := by rw [← back]; exact quiet
  have starts : (t.boot.stopped && !t.boot.lowInput && !t.powerWarned) = true := by
    rw [still, ← back]
    change (s.boot.stopped && !false && !false) = true
    rw [stopped]
    rfl
  have cause : t.boot.cause = s.boot.cause := by rw [← back]; rfl
  rw [Sys.inputDip, if_neg on, if_neg (not_lt.2 most), noted, back, Sys.restart, if_pos starts, cause,
    Sys.startKindling_of_quiet still]
  exact Sys.tryPowerOn_of_idle rfl

/-- A dip below 40 V is noted, and nothing starts while it lasts (17 R495). -/
theorem Sys.inputDip_of_low (on : s.boot.mode ≠ .off) (low : mv < 40000) :
    s.inputDip mv = s.modBoot fun b => { b with dip := true, lowInput := true } := by
  have noted : (fun b : Boot => { b with dip := b.dip || decide (mv < 40000), lowInput := decide (mv < 41000) }) =
      fun b => { b with dip := true, lowInput := true } := by
    funext b
    rw [decide_eq_true low, decide_eq_true (by omega : mv < 41000), Bool.or_true]
  have below : (s.modBoot fun b => { b with dip := true, lowInput := true }).boot.lowInput = true := rfl
  have stays : (s.modBoot fun b => { b with dip := true, lowInput := true }).restart =
      s.modBoot fun b => { b with dip := true, lowInput := true } := by
    simp only [Sys.restart, below, Bool.not_true, Bool.and_false, Bool.false_and, Bool.false_eq_true, if_false]
  rw [Sys.inputDip, if_neg on, if_neg (by omega), noted, stays]
  simp only [Sys.tryPowerOn, below, Bool.not_true, Bool.and_false, Bool.false_and, Bool.false_eq_true, if_false]

theorem Sys.inputDip_of_high (on : s.boot.mode ≠ .off) (high : 72000 < mv) : s.inputDip mv = s.inputLoss := by
  rw [Sys.inputDip, if_neg on, if_pos high]

end

theorem Sys.thermalShutdown_of_running {s : Sys} (running : s.boot.mode = .ready ∨ s.boot.mode = .kindling) :
    s.thermalShutdown = ((s.faultUnit faultThermTrip 20 []).sendNotices.flush true).dark .thermal := by
  rcases running with mode | mode <;> simp only [Sys.thermalShutdown, mode]

/-- Settles O43: each power signal, dip and trip has its effect, and PERST_N resets the mailbox. -/
theorem powerSignalsRun : Obligations.PowerSignalsRun := by
  unfold Obligations.PowerSignalsRun
  refine ⟨?_, ?_, ?_, ?_, ?_, ?_, ?_, ?_, ?_, ?_⟩
  · intro s quiet on warned
    have mateWarns : (s.sys.modBoot fun b => { b with mateHigh := true, mateFell := none }).powerWarned = true :=
      Bool.or_true s.sys.boot.pfe
    have pfe : s.sys.warnPins (fun b => { b with pfe := true }) = warned fun b => { b with pfe := true } :=
      (Sys.warnPins_assert quiet rfl).trans (Sys.pwrFail_of_collierOn on)
    have mate : s.sys.warnPins (fun b => { b with mateHigh := true, mateFell := none }) =
        warned fun b => { b with mateHigh := true, mateFell := none } :=
      (Sys.warnPins_assert quiet mateWarns).trans (Sys.pwrFail_of_collierOn on)
    exact ⟨next_onSys pfe, next_onSys (congrArg Sys.tryPowerOn mate)⟩
  · intro s quiet off kindling
    have mateWarns : (s.sys.modBoot fun b => { b with mateHigh := true, mateFell := none }).powerWarned = true :=
      Bool.or_true s.sys.boot.pfe
    have pfe : s.sys.warnPins (fun b => { b with pfe := true }) =
        (s.sys.modBoot fun b => { b with pfe := true }).stopKindling :=
      (Sys.warnPins_assert quiet rfl).trans (Sys.pwrFail_of_kindling off kindling)
    have mate : s.sys.warnPins (fun b => { b with mateHigh := true, mateFell := none }) =
        (s.sys.modBoot fun b => { b with mateHigh := true, mateFell := none }).stopKindling :=
      (Sys.warnPins_assert quiet mateWarns).trans (Sys.pwrFail_of_kindling off kindling)
    exact ⟨next_onSys pfe, next_onSys (congrArg Sys.tryPowerOn mate)⟩
  · intro s pfe mated t
    have warned : s.sys.powerWarned = true := by rw [Sys.powerWarned, pfe]; rfl
    have released : (s.sys.modBoot fun b => { b with pfe := false }).powerWarned = false := mated
    exact next_onSys ((Sys.warnPins_release warned released).trans (Sys.pwrRelease_eq released))
  · intro s millivolts on least most stopped quiet
    exact next_onSys (Sys.inputDip_of_back on least most stopped quiet)
  · intro s
    rfl
  · intro s millivolts on low
    exact next_onSys (Sys.inputDip_of_low on low)
  · intro s millivolts on high
    exact next_onSys (Sys.inputDip_of_high on high)
  · intro s die inside running
    have known : sensorOk (.die die) = true := decide_eq_true inside
    exact (if_pos known).trans (next_onSys (Sys.thermalShutdown_of_running running))
  · intro s stack inside ready
    have known : sensorOk (.stack stack) = true := decide_eq_true inside
    exact (if_pos known).trans (next_onSys (if_pos (.inl ready)))
  · intro s
    exact ⟨rfl, rfl⟩

/-! ## Reset -/

/-- Settles O51: each part of the state after reset holds the value that the spec's tables give it. -/
theorem resetValues : Obligations.ResetValues := by
  unfold Obligations.ResetValues
  intro x
  have ports : ∀ p, (x.port p).st = .disabled ∧ (x.pcfg p).width = (if p % 8 = 0 then 8 else 0) ∧ (x.pcfg p).enable = true ∧
      (x.pcfg p).degrade = true ∧ x.dir p = 2 ∧ x.hw p = 0 := fun p => by
    have st : (x.port p).st = .disabled := rfl
    exact ⟨st, rfl, rfl, rfl, rfl, Sys.hw_of_not_up (by rw [st]; decide)⟩
  have versions : ∀ v, (x.tab.seqVer v).seed = 0 ∧ (x.tab.seqVer v).em = [] ∧ (x.tab.seqVer v).lpm = [] := fun v => by
    cases v <;> exact ⟨rfl, rfl, rfl⟩
  exact ⟨rfl, rfl, rfl, rfl, ports, rfl, rfl, versions, rfl, rfl, rfl, rfl, rfl, rfl, rfl, rfl, rfl, rfl, rfl, rfl, rfl, rfl, rfl,
    rfl, rfl, rfl, rfl⟩

end Sys2Proof.Machine
end
